-- ==== Sys2Proof/Word.lean ====
section
/-! DEFINITION. The words of the part: bytes of the host line and the 32-bit millisecond timebase (00_scope.md, "Units and notation"). -/

namespace Sys2Proof

/-- A byte of the host line (R184: 8 data bits). -/
abbrev Byte := BitVec 8

/-- A value of the timebase: a 32-bit count of ms that returns to 0 after its last value. -/
abbrev Time := BitVec 32

end Sys2Proof
end

