-- ==== Sys2Proof/Syntax.lean ====
section
/-! DEFINITION. The commands of the part: one constructor of `Instr` for each row of spec/opcode_table.json. A request of the
host line carries first its frame's tag (R187) and then the fields its owning rule names, in that rule's order; an event
carries what identifies it. A field of a fixed set of names that may carry "a value other than" them is an `Option`, `none`
being a value outside the encodings the request uses (R187, case 3). -/

namespace Sys2Proof

/-- A slot address carousel.carrier.slot (00_scope.md, "Slot address"). -/
structure SlotAddr where
  carousel : Nat
  carrier : Nat
  slot : Nat
  deriving DecidableEq, Repr

/-- Guard of a window as the bay module reports it (R94). -/
inductive Guard where
  | opened
  | closed
  deriving DecidableEq, Repr

/-- Reason of a MOVE_FAIL report (R92). -/
inductive FailReason where
  | drive
  | obstructed
  deriving DecidableEq, Repr

/-- Form of the balance figures asked for by GET_BALANCE (R39). -/
inductive LoadForm where
  | committed
  | onHand
  deriving DecidableEq, Repr

/-- Bridge mode (R178). -/
inductive BridgeMode where
  | held
  | deferred
  deriving DecidableEq, Repr

/-- Direction of a bridged access (R175). -/
inductive AccessDir where
  | read
  | write
  deriving DecidableEq, Repr

/-- Direction of a pattern test (R179). -/
inductive TestDir where
  | inbound
  | outbound
  deriving DecidableEq, Repr

/-- Latch of a pattern test (R179). -/
inductive Latch where
  | latched
  | live
  deriving DecidableEq, Repr

/-- What a station found in an OUTBOUND test (R173, R181). -/
inductive TestVerdict where
  | pass
  | fail
  deriving DecidableEq, Repr

/-- The commands of the part, in the order of spec/opcode_table.json. -/
inductive Instr where
  /-- RESET (R196): power-on or reset pin, with the levels of the two straps. -/
  | reset (straps : BitVec 2)
  /-- FRAME_ARRIVAL (R185, R186): bytes received on the host line, none more than 10 ms after the one before. -/
  | frameArrival (bytes : List Byte)
  /-- FRAME_GAP_TIMEOUT (R185). -/
  | frameGapTimeout
  /-- TRANSMIT_DONE (R188). -/
  | transmitDone
  /-- UNKNOWN_KIND (R187): a taken frame that reaches no owning rule: tag 0, a kind that names no request, or a payload that
  does not fit its kind. -/
  | unknownKind (kind tag : Nat)
  /-- STATUS (R191). -/
  | status (tag : Nat)
  /-- CLEAR_FLAGS (R190), with the flags named. -/
  | clearFlags (tag : Nat) (noticeLost rxOverrun discrepancyFull : Bool)
  /-- START (R193). -/
  | start (tag : Nat)
  /-- STOP (R194). -/
  | stop (tag : Nat)
  /-- HOLD (R195). -/
  | hold (tag : Nat)
  /-- RESUME (R195). -/
  | resume (tag : Nat)
  /-- RESTART (R196). -/
  | restart (tag : Nat)
  /-- SET_ARTICLE (R3, R4). -/
  | setArticle (tag code unitWeight sizeClass stackLimit : Nat)
  /-- DELETE_ARTICLE (R5). -/
  | deleteArticle (tag code : Nat)
  /-- GET_ARTICLE (R6). -/
  | getArticle (tag code : Nat)
  /-- SET_CAROUSEL (R8, R36, R81): width class and slot stack limit per slot position. -/
  | setCarousel (tag carousel n s : Nat) (positions : List (Nat × Nat)) (limit : Nat) (stepTime : Option Nat)
  /-- SET_WINDOW (R109): a carousel, or NONE. -/
  | setWindow (tag window : Nat) (carousel : Option Nat) (loopPosition : Nat)
  /-- SET_LANE (R130): a capacity, or NONE. -/
  | setLane (tag lane : Nat) (capacity : Option Nat)
  /-- SET_PUTAWAY_CLASS (R49). -/
  | setPutawayClass (tag cls : Nat)
  /-- SET_BRIDGE_MODE (R178). -/
  | setBridgeMode (tag : Nat) (mode : Option BridgeMode)
  /-- LOAD_SLOT (R21). -/
  | loadSlot (tag : Nat) (addr : SlotAddr) (code batch onHand : Nat)
  /-- WITHDRAW (R18). -/
  | withdraw (tag : Nat) (addr : SlotAddr)
  /-- EDIT_SLOT (R19). -/
  | editSlot (tag : Nat) (addr : SlotAddr) (code batch onHand : Nat)
  /-- RESTORE_SLOT (R20). -/
  | restoreSlot (tag : Nat) (addr : SlotAddr)
  /-- GET_SLOT (R22). -/
  | getSlot (tag : Nat) (addr : SlotAddr)
  /-- GET_BALANCE (R39). -/
  | getBalance (tag carousel : Nat) (form : Option LoadForm)
  /-- PUTAWAY (R43): a preferred carousel, or none. -/
  | putaway (tag task code batch quantity : Nat) (preferred : Option Nat)
  /-- CANCEL_PUTAWAY (R53). -/
  | cancelPutaway (tag task : Nat)
  /-- GET_PUTAWAY (R56). -/
  | getPutaway (tag task : Nat)
  /-- SUBMIT_ORDER (R61): lines of article code and quantity. -/
  | submitOrder (tag order priority : Nat) (lines : List (Nat × Nat))
  /-- CLOSE_ORDER (R74). -/
  | closeOrder (tag order : Nat)
  /-- CANCEL_ORDER (R75, R76). -/
  | cancelOrder (tag order : Nat)
  /-- SHIP (R78). -/
  | ship (tag order : Nat)
  /-- GET_ORDER (R80). -/
  | getOrder (tag order : Nat)
  /-- RECOVER (R105). -/
  | recover (tag carousel : Nat)
  /-- GET_CAROUSEL (R107). -/
  | getCarousel (tag carousel : Nat)
  /-- GET_WINDOW (R128). -/
  | getWindow (tag window : Nat)
  /-- LANE_CLEARED (R134). -/
  | laneCleared (tag lane : Nat)
  /-- MERGE_RESUME (R145). -/
  | mergeResume (tag : Nat)
  /-- SET_MERGE_TIMEOUT (R136). -/
  | setMergeTimeout (tag ms : Nat)
  /-- GET_MERGE (R147). -/
  | getMerge (tag : Nat)
  /-- AUDIT (R148). -/
  | audit (tag carousel first last : Nat)
  /-- RESOLVE_SLOT (R161). -/
  | resolveSlot (tag : Nat) (addr : SlotAddr) (code batch onHand : Nat)
  /-- SET_AUDIT_TIMING (R151). -/
  | setAuditTiming (tag settle gate : Nat)
  /-- SET_CAL (R162). -/
  | setCal (tag window position tare slope : Nat)
  /-- GET_CAL (R162). -/
  | getCal (tag window : Nat)
  /-- TARE (R163). -/
  | tare (tag window position : Nat)
  /-- GET_AUDIT (R166). -/
  | getAudit (tag window : Nat)
  /-- GET_DISCREPANCIES (R167). -/
  | getDiscrepancies (tag : Nat)
  /-- STATION_ACCESS (R175). -/
  | stationAccess (tag station item : Nat) (dir : Option AccessDir) (value : Nat)
  /-- LINK_TEST_START (R179). -/
  | linkTestStart (tag station : Nat) (dir : Option TestDir) (latch : Option Latch)
  /-- LINK_TEST_STOP (R182). -/
  | linkTestStop (tag station : Nat)
  /-- GET_LINK (R183). -/
  | getLink (tag station : Nat)
  /-- PRESENCE_ACTIVE (R169). -/
  | presenceActive (station : Nat)
  /-- PRESENCE_INACTIVE (R169, R182). -/
  | presenceInactive (station : Nat)
  /-- LOCK (R169). -/
  | lock (station : Nat)
  /-- LINK_SETTLE_EXPIRY (R171). -/
  | linkSettleExpiry (station : Nat)
  /-- REPLY_TIMER_EXPIRY (R172). -/
  | replyTimerExpiry (station : Nat)
  /-- ACK (R172, R173), with the command number it answers. -/
  | ack (station number : Nat)
  /-- POSITION_REPLY (R102, R173): position and the guard of each window of the carousel. -/
  | positionReply (station number p : Nat) (guards : List (Nat × Guard))
  /-- ACCESS_REPLY (R175): DONE with a value, or REFUSED (`none`). -/
  | accessReply (station number : Nat) (value : Option Nat)
  /-- TEST_STOP_REPLY (R173, R182): result and error count for OUTBOUND, an ACK (`none`) for INBOUND. -/
  | testStopReply (station number : Nat) (answer : Option (TestVerdict × Nat))
  /-- TEST_WORD (R180). -/
  | testWord (station word : Nat)
  /-- TEST_WORD_TIMEOUT (R180). -/
  | testWordTimeout (station : Nat)
  /-- MOVE_DONE (R91, R96, R98). -/
  | moveDone (station p : Nat)
  /-- MOVE_FAIL (R92). -/
  | moveFail (station : Nat) (reason : FailReason) (p : Nat)
  /-- STOPPED (R96, R98). -/
  | stopped (station p : Nat)
  /-- GUARD (R94). -/
  | guard (station window : Nat) (state : Guard) (p : Nat)
  /-- MOVE_DEADLINE_EXPIRY (R93). -/
  | moveDeadlineExpiry (carousel : Nat)
  /-- RESTART_DELAY_EXPIRY (R95). -/
  | restartDelayExpiry (carousel : Nat)
  /-- STOP_DEADLINE_EXPIRY (R97). -/
  | stopDeadlineExpiry (carousel : Nat)
  /-- MINUS (R120): a press taken at a slot position of a window's panel. -/
  | minus (window position : Nat)
  /-- CONFIRM (R121, R123): a press taken at a slot position of a window's panel. -/
  | confirm (window position : Nat)
  /-- ARRIVED (R140, R141). -/
  | arrived (station t : Nat)
  /-- JAMMED (R143, R141). -/
  | jammed (station t : Nat)
  /-- TRANSFER_DEADLINE_EXPIRY (R142). -/
  | transferDeadlineExpiry
  /-- SENSOR_CYCLE (R154). -/
  | sensorCycle (window : Nat)
  /-- SETTLE_EXPIRY (R154). -/
  | settleExpiry (window : Nat)
  /-- GATE_EXPIRY (R156, R164). -/
  | gateExpiry (window : Nat)
  /-- KEY_SAMPLING (R118, R119): for each slot position from 0, whether MINUS and CONFIRM are seen down. -/
  | keySampling (window : Nat) (down : List (Bool × Bool))
  deriving DecidableEq, Repr

end Sys2Proof
end

