-- ==== Sys2Proof/Decode.lean ====
section
/-! DEFINITION. Decoding a command from the bits of a row of spec/opcode_table.json. The part has no instruction words: every
row of the table has "fields": [] and no bits, so no word spells a command. (The one byte layout of the manual, the frame of
the host line, is read by Machine/Line.lean.) -/

namespace Sys2Proof

/-- The command that a word of `nbits` bits spells by the table's bits: none, since no row of the table gives bits. -/
def decodeTableWord (_nbits _w : Nat) : Option Instr := none

end Sys2Proof
end

