-- ==== Sys2Proof/Config.lean ====
section
/-! DEFINITION. What is fixed for the part: the sizes of its tables and pools, the fixed times, and the values the manual
leaves open: the words of the pattern test, the first rank of a window, the straps at a RESTART, and how the bytes of a payload
spell a request. -/

namespace Sys2Proof.Config

/-- Places of the article table (R1). -/
def articlePlaces : Nat := 512
/-- Put-away tasks held at most (R41). -/
def taskPool : Nat := 32
/-- Targets of one task at most (R41). -/
def targetsPerTask : Nat := 8
/-- Order records (R57). -/
def orderPool : Nat := 64
/-- Line records of all orders together (R57). -/
def linePool : Nat := 256
/-- Pick records (R57). -/
def pickPool : Nat := 256
/-- Open picks of one line at most (R59). -/
def picksPerLine : Nat := 4
/-- Last value of the admission and creation counts (R57). -/
def lastCount : Nat := 4294967295
/-- Places of an outfeed queue (R122). -/
def outfeedPlaces : Nat := 8
/-- Discrepancy records at most (R158). -/
def discrepancyPlaces : Nat := 32
/-- Notices held at most (R189). -/
def noticePlaces : Nat := 32
/-- Frames that may wait in the receive buffer (R186). -/
def receivePlaces : Nat := 2
/-- Greatest payload length of a frame (R185). -/
def maxPayload : Nat := 200
/-- Slot positions of a panel and window channels of a window (R150). -/
def positions : Nat := 6

/-- Restart delay of a suspended carousel, ms (R94). -/
def restartDelay : Nat := 1000
/-- Fixed part of the move deadline and of the stop deadline, ms (R87, R97). -/
def deadlineMargin : Nat := 2000
/-- Link settle, ms (R169). -/
def linkSettle : Nat := 100
/-- Reply timer of a station command, ms (R171). -/
def replyTime : Nat := 20
/-- Sends of one command at most (R172). -/
def maxSends : Nat := 3
/-- Interval of the pattern test, ms (R180). -/
def testInterval : Nat := 100
/-- Gap between two bytes of a frame that is still no break, ms (R185). -/
def byteGap : Nat := 10

/-- FREE VALUE (notes/assumptions/9): word number `i` of the fixed test sequence that both ends of a link know (R180). The
manual gives neither the words nor their width. -/
opaque testWord (i : Nat) : Nat

/-- FREE VALUE (notes/assumptions/17): draw number `i` of the place that a newly configured window takes among the ranks that no
configured window holds (R137). The manual gives every configured window a rank, and its value only from START on. -/
opaque firstRank (i : Nat) : Nat

/-- FREE VALUE (notes/assumptions/2): reading number `i` of the levels on the two strap pins at a reset that a RESTART brings
(R184, R196). The pins are outside the part, and TRANSMIT_DONE, with which that reset comes, does not carry their levels. -/
opaque strapLevels (i : Nat) : BitVec 2

/-- FREE VALUE (notes/assumptions/6): the request that the payload bytes of a frame of this kind and tag spell, `none` where they
do not fit the kind (R187, case 3). The manual gives the fields of a payload in order, but not their widths and codes. -/
opaque readPayload (kind tag : Nat) (payload : List Byte) : Option Instr

end Sys2Proof.Config
end

