-- ==== Sys2Proof/Machine/State.lean ====
section
/-! DEFINITION. The state of the part as plain data, block by block as 00_scope.md ("Blocks") lists them, what the part sends on
the host line (replies and notices with their fields), the outcomes of a step, and the state after reset. Quantities, weights
and places are natural numbers, since the manual's arithmetic on them is exact; the timebase is a 32-bit word, since it wraps. -/

namespace Sys2Proof.Machine

/-- The reasons a step can stop with a fault. The manual describes none: every event and request of the part has an outcome,
so there is no constructor and no step faults. -/
inductive Fault where
  deriving DecidableEq, Repr

/-- The reasons a step can be refused. -/
inductive Refusal where
  /-- Raised by an arm of `exec` whose command has no meaning yet (safe: nothing can be proved of a run past it). No arm of
  this model raises it. -/
  | notModelled (mnemonic : String)
  deriving DecidableEq, Repr

/-! ### Articles and the slot directory (R1, R8, R9) -/

/-- An article record (R1). -/
structure Article where
  code : Nat
  unitWeight : Nat
  sizeClass : Nat
  stackLimit : Nat
  deriving DecidableEq, Repr

/-- State of a slot (R9). -/
inductive SlotState where
  | free
  | stocked
  | withdrawn
  | quarantine
  deriving DecidableEq, Repr

/-- Quarantine reason of a slot (R9); the first three are also kinds of discrepancy (R158). -/
inductive Reason where
  | mismatch
  | overrange
  | unexpectedLoad
  | shortPick
  deriving DecidableEq, Repr

/-- What a slot holds: the batch week is present exactly when the article is (R9), so the two are one optional field. -/
structure Holding where
  place : Nat
  batch : Nat
  deriving DecidableEq, Repr

/-- A slot record (R9). Its width class and slot stack limit are fixed by the geometry for the slot position (R7) and kept there. -/
structure Slot where
  state : SlotState
  held : Option Holding
  onHand : Nat
  reserved : Nat
  pending : Nat
  measured : Option Nat
  reason : Option Reason
  deriving DecidableEq, Repr

/-- A FREE slot: no article, all quantities 0 (R11). -/
def Slot.freeSlot : Slot :=
  { state := .free, held := none, onHand := 0, reserved := 0, pending := 0, measured := none, reason := none }

/-- Geometry of a carousel (R8): carriers, slots of each carrier, and the width class and slot stack limit of each position. -/
structure Geometry where
  n : Nat
  s : Nat
  positions : List (Nat × Nat)
  deriving DecidableEq, Repr

/-! ### Balance unit (R23) -/

/-- The balance figures of one carousel (R23). -/
structure Figures where
  limit : Nat
  committed : List Nat
  onHand : List Nat
  committedW : Nat
  onHandW : Nat
  overLimit : Bool
  deriving DecidableEq, Repr

/-! ### Put-away (R41, R42) -/

/-- Cause of a cancelled target (R42). -/
inductive CancelCause where
  | host
  | quarantine
  deriving DecidableEq, Repr

/-- Outcome of a target with the field it makes present (R42). -/
inductive TargetOutcome where
  | opened
  | confirmed (stored : Nat)
  | cancelled (cause : CancelCause)
  deriving DecidableEq, Repr

/-- A put-away target (R42). -/
structure Target where
  addr : SlotAddr
  quantity : Nat
  outcome : TargetOutcome
  deriving DecidableEq, Repr

/-- State of a put-away task: OPEN is its only value, since a task that ends is freed (R41, R55). -/
inductive TaskState where
  | opened
  deriving DecidableEq, Repr

/-- A put-away task (R41). -/
structure Task where
  tag : Nat
  place : Nat
  batch : Nat
  requested : Nat
  placed : Nat
  state : TaskState
  targets : List Target
  deriving DecidableEq, Repr

/-! ### Orders, lines and picks (R58 to R60) -/

/-- State of an order (R58). -/
inductive OrderState where
  | waiting
  | active
  | assembled
  | cancelled
  deriving DecidableEq, Repr

/-- A line record (R59). -/
structure Line where
  place : Nat
  requested : Nat
  picked : Nat
  delivered : Nat
  openPicks : Nat
  short : Bool
  deriving DecidableEq, Repr

/-- An order record (R58). The order class is `priority ÷ 16` (`Order.cls`). -/
structure Order where
  tag : Nat
  priority : Nat
  state : OrderState
  lane : Option Nat
  admission : Option Nat
  lines : List Line
  deriving DecidableEq, Repr

/-- A pick record (R60). Its state is PRESENTED or else PENDING. -/
structure Pick where
  number : Nat
  order : Nat
  line : Nat
  addr : SlotAddr
  quantity : Nat
  presented : Bool
  seq : Nat
  deriving DecidableEq, Repr

/-! ### Dispatch and motion (R81) -/

/-- State of a carousel (R81). -/
inductive CarouselState where
  | offline
  | idle
  | moving
  | stopping
  | suspended
  | presenting
  | held
  | fault
  deriving DecidableEq, Repr

/-- Resume state of an OFFLINE carousel (R81). -/
inductive Resume where
  | idle
  | presenting
  | held
  deriving DecidableEq, Repr

/-- Direction of a move (R86). -/
inductive Direction where
  | forward
  | reverse
  deriving DecidableEq, Repr

/-- Speed of a move (R37). -/
inductive Speed where
  | normal
  | creep
  deriving DecidableEq, Repr

/-- Purpose of a position query (R81). -/
inductive Purpose where
  | start
  | return
  | recover
  deriving DecidableEq, Repr

/-- The rotation plan of a carrier (R86). -/
structure Plan where
  window : Nat
  targetP : Nat
  direction : Direction
  steps : Nat
  deriving DecidableEq, Repr

/-- The move record (R81, R87). Speed and deadline are present from the first MOVE sent; while STOPPING the deadline is the
stop deadline (R97), while SUSPENDED it is absent. -/
structure MoveRecord where
  carrier : Nat
  plan : Plan
  speed : Option Speed
  deadline : Option Time
  deriving DecidableEq, Repr

/-- Work summary of a carrier (R82): PENDING picks of class 1 to 4, OPEN targets, audit list membership. -/
structure CarrierWork where
  picks : List Nat
  targets : Nat
  listed : Bool
  deriving DecidableEq, Repr

/-- A configured carousel: its geometry and step time, its slot records (carrier by carrier), its balance figures, and the
state part of the carousel record (R81). The guard state of a window stands in the window's record. -/
structure Carousel where
  geometry : Geometry
  stepTime : Nat
  slots : List Slot
  figures : Figures
  state : CarouselState
  p : Nat
  known : Bool
  resume : Option Resume
  move : Option MoveRecord
  restart : Option Time
  query : Option Purpose
  work : List CarrierWork
  passed : List Nat
  auditList : List Nat
  next : Option (Nat × Nat)
  deriving DecidableEq, Repr

/-! ### Pick windows and panels (R108) -/

/-- An entry of a presentation (R110). -/
inductive Entry where
  | put (task quantity : Nat)
  | pick (number quantity : Nat)
  deriving DecidableEq, Repr

/-- An open presentation (R110): its carrier and one entry queue for each slot position. -/
structure Presentation where
  carrier : Nat
  queues : List (List Entry)
  deriving DecidableEq, Repr

/-- Mode of a display record (R116). -/
inductive DisplayMode where
  | blank
  | put
  | pick
  | audit
  | wait
  deriving DecidableEq, Repr

/-- A display record (R116). -/
structure Display where
  mode : DisplayMode
  quantity : Nat
  lane : Option Nat
  blink : Bool
  deriving DecidableEq, Repr

/-- The BLANK display record (R116). -/
def Display.blank : Display := { mode := .blank, quantity := 0, lane := none, blink := false }

/-- Window status of a header (R117). -/
inductive HeaderStatus where
  | measure
  | opened
  | fault
  | held
  | blank
  deriving DecidableEq, Repr

/-- Header of a panel (R117). -/
structure Header where
  carrier : Option Nat
  status : HeaderStatus
  deriving DecidableEq, Repr

/-- The BLANK header with no carrier number (R108). -/
def Header.blank : Header := { carrier := none, status := .blank }

/-- Sampling state of a key (R119). -/
inductive KeyState where
  | up
  | downOnce
  | down
  | upOnce
  deriving DecidableEq, Repr

/-- The two keys of a panel group (R118). -/
structure Keys where
  minus : KeyState
  confirm : KeyState
  deriving DecidableEq, Repr

/-- A key press taken at a sampling and not yet acted on (R119). -/
inductive Press where
  | minus (position : Nat)
  | confirm (position : Nat)
  deriving DecidableEq, Repr

/-- What the panel lines of a window showed in its last scan cycle (R118): each lit group from position 0 (`none`: dark), and
the header. -/
structure Shown where
  groups : List (Option Display)
  header : Header
  deriving DecidableEq, Repr

/-- An outfeed item (R122). -/
structure Item where
  order : Nat
  line : Nat
  lane : Nat
  deriving DecidableEq, Repr

/-- Purpose of a measurement record (R150). -/
inductive CountPurpose where
  | measure
  | tare
  deriving DecidableEq, Repr

/-- Phase of a count with its running timer (R150). -/
inductive Phase where
  | channel
  | settle (expiry : Time)
  | gate (expiry : Time)
  deriving DecidableEq, Repr

/-- A measurement record (R150). -/
structure Measurement where
  purpose : CountPurpose
  carrier : Nat
  position : Nat
  phase : Phase
  judged : Nat
  skipped : Nat
  matched : Nat
  mismatched : Nat
  deriving DecidableEq, Repr

/-- Calibration of a window channel (R150). -/
structure Calibration where
  tare : Nat
  slope : Nat
  deriving DecidableEq, Repr

/-- One of the eight windows: its assignment to a carousel at a loop position (R108), the guard state that carousel's record
holds for it (R81), its rank on the merge (R135), what its window controller holds (R108), its panel lines (R118), and what
the audit unit holds for it (R150). -/
structure Window where
  assigned : Option (Nat × Nat)
  guard : Guard
  rank : Option Nat
  presentation : Option Presentation
  displays : List Display
  header : Header
  keys : List Keys
  presses : List Press
  blinkLit : Bool
  shown : Option Shown
  outfeed : List Item
  measurement : Option Measurement
  counter : Nat
  counterOpen : Bool
  calibrations : List Calibration
  deriving DecidableEq, Repr

/-- A window after reset (R108, R150): not configured, panel dark, counter closed at 0, every calibration T = 0 and K = 41. -/
def Window.afterReset : Window :=
  { assigned := none, guard := .closed, rank := none, presentation := none,
    displays := List.replicate Config.positions Display.blank, header := Header.blank,
    keys := List.replicate Config.positions { minus := .up, confirm := .up }, presses := [],
    blinkLit := false, shown := none, outfeed := [], measurement := none, counter := 0, counterOpen := false,
    calibrations := List.replicate Config.positions { tare := 0, slope := 41 } }

/-! ### Consolidation (R129, R135, R139) -/

/-- State of a configured lane with its order tag (R129). -/
inductive LaneState where
  | free
  | bound (order : Nat)
  | draining (order : Nat)
  deriving DecidableEq, Repr

/-- A configured lane (R129). -/
structure Lane where
  capacity : Nat
  state : LaneState
  deriving DecidableEq, Repr

/-- Stop cause of the merge (R135). -/
inductive StopCause where
  | timeout
  | jammed
  | link
  deriving DecidableEq, Repr

/-- Merge state (R135): the stop cause is present exactly while MERGE_STOPPED. -/
inductive MergeState where
  | running
  | stopped (cause : StopCause)
  deriving DecidableEq, Repr

/-- The transfer record (R139). -/
structure Transfer where
  number : Nat
  window : Nat
  item : Item
  attempt : Nat
  deadline : Option Time
  linkLost : Bool
  deriving DecidableEq, Repr

/-- What the merge arbiter holds beside the ranks and the transfer timeout (R135). -/
structure Merge where
  state : MergeState
  nextNumber : Nat
  transfer : Option Transfer
  deriving DecidableEq, Repr

/-! ### Stock audit (R158) -/

/-- A discrepancy record (R158). -/
structure Discrepancy where
  addr : SlotAddr
  kind : Reason
  recorded : Nat
  estimate : Option Nat
  load : Nat
  deriving DecidableEq, Repr

/-! ### Bay links (R168) -/

/-- State of a link (R168). -/
inductive LinkState where
  | down
  | training
  | locked
  | testing
  deriving DecidableEq, Repr

/-- Cause of a change of link state (R169). -/
inductive LinkCause where
  | presence
  | lock
  | noReply
  | testStart
  | testEnd
  deriving DecidableEq, Repr

/-- A command to a station (R173). A POSITION carries whether the query it was sent for is still in flight (R102). -/
inductive Command where
  | move (targetP : Nat) (direction : Direction) (speed : Speed)
  | halt
  | position (live : Bool)
  | channel (window position : Nat)
  | divert (t window lane : Nat)
  | access (item : Nat) (dir : AccessDir) (value : Nat)
  | testStart (dir : TestDir)
  | testStop
  deriving DecidableEq, Repr

/-- The command outstanding (R168). -/
structure Outstanding where
  command : Command
  number : Nat
  sends : Nat
  expiry : Time
  deriving DecidableEq, Repr

/-- A bridged access in flight (R175); its ticket is present in bridge mode DEFERRED (R177). -/
structure Access where
  item : Nat
  dir : AccessDir
  value : Nat
  ticket : Option Nat
  deriving DecidableEq, Repr

/-- Result of a pattern test (R179 to R182). -/
inductive TestResult where
  | pass
  | fail
  | pending
  | noResponse
  deriving DecidableEq, Repr

/-- The test record (R168, R179): the report fields and marks, whether the pattern runs, the time until which a LIVE result
stays FAIL, the end of the running interval without a word, and the place in the test sequence (R180). -/
structure TestRecord where
  dir : TestDir
  latch : Latch
  errors : Nat
  result : TestResult
  starting : Bool
  unanswered : Bool
  aborted : Bool
  running : Bool
  failUntil : Option Time
  wordExpiry : Option Time
  wordIndex : Nat
  deriving DecidableEq, Repr

/-- A link record (R168). -/
structure Link where
  state : LinkState
  present : Bool
  settle : Option Time
  queue : List Command
  outstanding : Option Outstanding
  nextNumber : Nat
  access : Option Access
  test : Option TestRecord
  deriving DecidableEq, Repr

/-- A link record after reset, by the presence on its line (R168). -/
def Link.afterReset (present : Bool) : Link :=
  { state := if present then .training else .down, present := present, settle := none, queue := [], outstanding := none,
    nextNumber := 0, access := none, test := none }

/-! ### What the part sends on the host line -/

/-- Operating mode (R192). -/
inductive Mode where
  | config
  | run
  | hold
  deriving DecidableEq, Repr

/-- Result codes (R187). -/
inductive Result where
  | ok
  | accepted
  | unknownKind
  | badField
  | wrongMode
  | wrongState
  | busy
  | noSpace
  | noRoom
  | notFound
  | duplicate
  | inUse
  | linkDown
  | tooLarge
  | badConfig
  deriving DecidableEq, Repr

/-- The three sticky flags (R190). -/
structure Flags where
  noticeLost : Bool
  rxOverrun : Bool
  discrepancyFull : Bool
  deriving DecidableEq, Repr

/-- The START check that failed, with its number (R193). -/
inductive StartCheck where
  | carouselWindows (carousel : Nat)
  | windowCarousel (window : Nat)
  | windowPosition (window : Nat)
  | windowPair (window : Nat)
  | noWindow
  | noLane
  deriving DecidableEq, Repr

/-- Cause of a refused STOP (R194). -/
inductive StopRefusal where
  | orders
  | tasks
  | carousel (number : Nat)
  deriving DecidableEq, Repr

/-- State named in the reply of CLOSE_ORDER and CANCEL_ORDER (R74 to R76). -/
inductive OrderEnd where
  | freed
  | active
  | assembled
  | cancelled
  deriving DecidableEq, Repr

/-- What STATUS reports of a configured carousel (R36, R40, R191). -/
structure CarouselStatus where
  state : CarouselState
  p : Nat
  limit : Nat
  overLimit : Bool
  committedW : Nat
  onHandW : Nat
  deriving DecidableEq, Repr

/-- The report of STATUS (R191). -/
structure StatusReport where
  mode : Mode
  address : Byte
  flags : Flags
  merge : MergeState
  carousels : List (Option CarouselStatus)
  links : List LinkState
  articles : Nat
  tasks : Nat
  orders : Nat
  lines : Nat
  picks : Nat
  discrepancies : Nat
  notices : Nat
  lanes : Nat
  freeLanes : Nat
  putawayClass : Nat
  bridgeMode : BridgeMode
  deriving DecidableEq, Repr

/-- The report of GET_SLOT (R22): the record with its article's code, its limits while it holds an article, its room while
STOCKED. -/
structure SlotReport where
  state : SlotState
  widthClass : Nat
  stackLimit : Nat
  onHand : Nat
  reserved : Nat
  pending : Nat
  code : Option Nat
  batch : Option Nat
  measured : Option Nat
  reason : Option Reason
  baseLimit : Option Nat
  effectiveLimit : Option Nat
  room : Option Nat
  deriving DecidableEq, Repr

/-- The report of GET_BALANCE (R39). -/
structure BalanceReport where
  n : Nat
  limit : Nat
  committedW : Nat
  onHandW : Nat
  overLimit : Bool
  worstPosition : Nat
  upHeavier : Bool
  loads : List Nat
  deriving DecidableEq, Repr

/-- The report of GET_PUTAWAY (R56). -/
structure TaskReport where
  tag : Nat
  code : Nat
  batch : Nat
  requested : Nat
  placed : Nat
  state : TaskState
  targets : List Target
  storedTotal : Nat
  openTotal : Nat
  deriving DecidableEq, Repr

/-- A line in the report of GET_ORDER (R80). -/
structure LineReport where
  code : Nat
  requested : Nat
  picked : Nat
  delivered : Nat
  openPicks : Nat
  openQuantity : Nat
  unallocated : Nat
  short : Bool
  deriving DecidableEq, Repr

/-- The report of GET_ORDER (R80). -/
structure OrderReport where
  tag : Nat
  priority : Nat
  cls : Nat
  state : OrderState
  lane : Option Nat
  admission : Option Nat
  waitingPlace : Option Nat
  onTheWay : Nat
  lines : List LineReport
  picks : List Pick
  deriving DecidableEq, Repr

/-- A carrier in the report of GET_CAROUSEL (R107). -/
structure CarrierReport where
  cls : Option Nat
  picks : Nat
  targets : Nat
  listed : Bool
  passed : Nat
  deriving DecidableEq, Repr

/-- The report of GET_CAROUSEL (R107). -/
structure CarouselReport where
  state : CarouselState
  p : Nat
  known : Bool
  resume : Option Resume
  stepTime : Nat
  windows : List (Nat × Nat × Guard)
  move : Option MoveRecord
  timeLeft : Option Nat
  query : Option Purpose
  next : Option (Nat × Nat)
  auditList : List Nat
  carriers : List CarrierReport
  deriving DecidableEq, Repr

/-- The report of GET_WINDOW (R128): each position with its display record and entries, each outfeed item with its mark. -/
structure WindowReport where
  carousel : Nat
  loopPosition : Nat
  header : Header
  presented : Option Nat
  positions : List (Display × List Entry)
  outfeed : List (Item × Bool)
  freePlaces : Nat
  deriving DecidableEq, Repr

/-- The report of GET_MERGE (R147): windows with rank, items waiting and free places; lanes by number. -/
structure MergeReport where
  state : MergeState
  timeout : Nat
  nextNumber : Nat
  transfer : Option Transfer
  timeLeft : Option Nat
  windows : List (Nat × Option Nat × Nat × Nat)
  lanes : List (Nat × Lane)
  deriving DecidableEq, Repr

/-- The report of GET_AUDIT (R166). -/
structure AuditReport where
  measurement : Option Measurement
  timeLeft : Option Nat
  counter : Nat
  counterOpen : Bool
  settle : Nat
  gate : Nat
  deriving DecidableEq, Repr

/-- How a bridged access ended (R175). -/
inductive AccessResult where
  | done (value : Nat)
  | refused
  | timeout
  | linkLost
  deriving DecidableEq, Repr

/-- The test record as GET_LINK reports it (R183). -/
structure TestReport where
  dir : TestDir
  latch : Latch
  result : TestResult
  errors : Option Nat
  starting : Bool
  unanswered : Bool
  aborted : Bool
  deriving DecidableEq, Repr

/-- What the reply of LINK_TEST_STOP carries (R182). -/
structure TestOutcome where
  station : Nat
  dir : TestDir
  latch : Latch
  result : TestResult
  errors : Option Nat
  deriving DecidableEq, Repr

/-- Kind of a station command (R173). -/
inductive CommandKind where
  | move
  | halt
  | position
  | channel
  | divert
  | access
  | testStart
  | testStop
  deriving DecidableEq, Repr

/-- The report of GET_LINK (R183): the command outstanding with its kind, number and send count, and the bridged access in
flight with its item, direction and ticket. -/
structure LinkReport where
  state : LinkState
  present : Bool
  settling : Bool
  queued : Nat
  outstanding : Option (CommandKind × Nat × Nat)
  access : Option (Nat × AccessDir × Option Nat)
  test : Option TestReport
  deriving DecidableEq, Repr

/-- What a reply carries beside its result code. -/
inductive ReplyBody where
  | none
  | status (r : StatusReport)
  | flags (f : Flags)
  | startCheck (c : StartCheck)
  | stopCause (c : StopRefusal)
  | article (a : Article)
  | articleUse (a : Article) (inUse : Bool)
  | stepTime (ms : Nat)
  | window (number : Nat) (assigned : Option (Nat × Nat))
  | lane (number : Nat) (lane : Option Lane)
  | putawayClass (cls : Nat)
  | bridgeMode (m : BridgeMode)
  | slot (r : SlotReport)
  | balance (r : BalanceReport)
  | placed (tag requested placed : Nat) (targets : List (SlotAddr × Nat))
  | putawayCancelled (tag stored unplaced : Nat)
  | task (r : TaskReport)
  | badLine (index : Nat)
  | submitted (tag priority cls total : Nat) (state : OrderState) (lane : Option Nat)
  | orderEnded (state : OrderEnd) (onTheWay : Nat)
  | shipped (tag : Nat) (lane : Option Nat)
  | order (r : OrderReport)
  | carousel (r : CarouselReport)
  | windowReport (r : WindowReport)
  | laneCleared (lane order : Nat)
  | mergeResumed (t : Option Nat)
  | timeout (ms : Nat)
  | merge (r : MergeReport)
  | listed (joined members : Nat)
  | resolved (addr : SlotAddr) (state : SlotState) (removed : Bool)
  | auditTiming (settle gate : Nat)
  | calibration (c : Calibration)
  | calibrations (cs : List Calibration)
  | audit (r : AuditReport)
  | discrepancies (ds : List Discrepancy) (number : Nat) (full : Bool)
  | access (station item : Nat) (dir : AccessDir) (result : AccessResult)
  | ticket (t : Nat)
  | linkTest (r : Option TestOutcome)
  | link (r : LinkReport)
  deriving DecidableEq, Repr

/-- A reply (R187): the request's kind and tag, the result code and its fields. -/
structure Reply where
  kind : Nat
  tag : Nat
  result : Result
  body : ReplyBody
  deriving DecidableEq, Repr

/-- Occasion of an ORDER_STATE notice (R73). -/
inductive Occasion where
  | active
  | assembled
  | drained
  deriving DecidableEq, Repr

/-- Cause of a LINE_SHORT notice (R66). -/
inductive ShortCause where
  | picks
  | pool
  | stock
  deriving DecidableEq, Repr

/-- Result in an AUDIT_RESULT notice of a measurement (R157). -/
inductive AuditOutcome where
  | matching
  | mismatch
  | unexpectedLoad
  | overrange
  | skipped
  | interrupted
  deriving DecidableEq, Repr

/-- What became of a slot's discrepancy record (R157). -/
inductive RecordFate where
  | made
  | updated
  | removed
  | notMade
  | none
  deriving DecidableEq, Repr

/-- Reason of a MOVE_FAULT notice (R104). -/
inductive MoveFaultReason where
  | drive
  | obstructed
  | timeout
  | stopTimeout
  | link
  deriving DecidableEq, Repr

/-- Outcome for the slot in a SHORT_PICK notice (R127). -/
inductive ShortOutcome where
  | quarantine
  | free
  deriving DecidableEq, Repr

/-- An AUDIT_RESULT notice of a measurement (R157). -/
structure AuditResult where
  window : Nat
  addr : SlotAddr
  outcome : AuditOutcome
  count : Option Nat
  load : Option Nat
  estimate : Option Nat
  recorded : Nat
  code : Option Nat
  state : SlotState
  fate : RecordFate
  deriving DecidableEq, Repr

/-- A SHORT_PICK notice (R127). -/
structure ShortPickNotice where
  window : Nat
  addr : SlotAddr
  order : Nat
  line : Nat
  code : Nat
  quantity : Nat
  confirmed : Nat
  outcome : ShortOutcome
  onHand : Nat
  siblings : Nat
  targets : Nat
  deriving DecidableEq, Repr

/-- The notices with their fields, in the order of the table of section 10.5. -/
inductive Notice where
  | orderState (tag : Nat) (occasion : Occasion) (lane : Option Nat) (requested picked delivered : Nat)
  | lineShort (tag line code requested picked openQuantity unallocated : Nat) (cause : ShortCause)
  | putawayDone (tag code batch requested placed stored unplaced : Nat) (targets : List Target)
  | auditResult (r : AuditResult)
  | tared (window position carrier : Nat) (count : Option Nat)
  | shortPick (n : ShortPickNotice)
  | moveFault (carousel : Nat) (reason : MoveFaultReason) (p : Nat) (carrier targetP : Option Nat)
  | positionChanged (carousel oldP newP cancelled returned : Nat)
  | linkState (station : Nat) (former new : LinkState) (cause : LinkCause)
  | laneFault (cause : StopCause) (t attempt window : Nat) (item : Item)
  | balance (carousel : Nat) (set : Bool) (committedW onHandW limit : Nat)
  | bridgeResult (ticket station item : Nat) (dir : AccessDir) (result : AccessResult)
  deriving DecidableEq, Repr

/-- What a frame of the part carries (R188). -/
inductive Content where
  | reply (r : Reply)
  | notice (n : Notice)
  deriving DecidableEq, Repr

/-- A frame being sent (section 10.2): line address, kind, tag, the code with which its payload begins (a result code or a notice
kind), and its content. -/
structure SentFrame where
  address : Byte
  kind : Nat
  tag : Nat
  code : Nat
  content : Content
  deriving DecidableEq, Repr

/-! ### Host line interface (R184 to R190) -/

/-- The payload of a frame waiting to be taken: the bytes received, or the request that a command of the model says they
spell (the manual gives no widths of payload fields). -/
inductive Payload where
  | bytes (b : List Byte)
  | request (i : Instr)
  deriving DecidableEq, Repr

/-- A frame that has arrived and waits in the receive buffer (R186). -/
structure Frame where
  kind : Nat
  tag : Nat
  payload : Payload
  deriving DecidableEq, Repr

/-- Receiver state (R185): the bytes gathered while IN_FRAME, and when the last of them came. -/
inductive Receiver where
  | hunting
  | inFrame (bytes : List Byte) (last : Time)
  deriving DecidableEq, Repr

/-- The station exchange that a request in progress waits for (R186). -/
inductive Exchange where
  | access (station : Nat)
  | testStart (station : Nat)
  | testStop (station : Nat)
  deriving DecidableEq, Repr

/-- The request in progress (R186): its kind and tag, and the exchange its reply waits for. -/
structure Progress where
  kind : Nat
  tag : Nat
  exchange : Option Exchange
  deriving DecidableEq, Repr

/-- The host line interface (R184 to R189): line address, receiver, receive buffer, request in progress, reply formed and not
yet begun, frame being sent, and notice queue. -/
structure HostLine where
  address : Byte
  receiver : Receiver
  buffer : List Frame
  progress : Option Progress
  reply : Option Reply
  sending : Option SentFrame
  notices : List Notice
  deriving DecidableEq, Repr

/-- The settings that requests of their own write: put-away class (R49), bridge mode (R178), transfer timeout (R136), settle
and gate time (R151). -/
structure Settings where
  putawayClass : Nat
  bridgeMode : BridgeMode
  transferTimeout : Nat
  settleTime : Nat
  gateTime : Nat
  deriving DecidableEq, Repr

/-- The settings after reset (R49, R178, R135, R150). -/
def Settings.afterReset : Settings :=
  { putawayClass := 2, bridgeMode := .held, transferTimeout := 8000, settleTime := 200, gateTime := 100 }

/-- The whole part, with the commands that wait to be taken. -/
structure State where
  /-- Commands waiting, first in first out (the model's own). -/
  pending : List Instr
  /-- Free values drawn so far, first ranks and strap levels (the model's own; notes/assumptions/2 and 17). -/
  draws : Nat
  /-- The timebase. -/
  now : Time
  /-- Levels of the two strap pins as the last reset read them (R184). -/
  straps : BitVec 2
  mode : Mode
  line : HostLine
  flags : Flags
  settings : Settings
  /-- Article table by place, places rising (R1). -/
  articles : List (Nat × Article)
  /-- Carousels 0 to 3, `none` while not configured. -/
  carousels : List (Option Carousel)
  /-- Windows 0 to 7. -/
  windows : List Window
  tasks : List Task
  orders : List Order
  /-- Submission list: tags of the WAITING orders, oldest first (R57). -/
  submission : List Nat
  admissions : Nat
  creations : Nat
  /-- Pick pool, pick numbers rising (R60). -/
  picks : List Pick
  /-- Lanes 0 to 7, `none` while not configured (R129). -/
  lanes : List (Option Lane)
  merge : Merge
  discrepancies : List Discrepancy
  /-- Links of stations 0 to 4 (R168). -/
  links : List Link
  nextTicket : Nat
  deriving DecidableEq, Repr

/-- The line address that the straps set (R184): one of 0x31 to 0x34. -/
def addressOf (straps : BitVec 2) : Byte := 0x31#8 + straps.setWidth 8

/-- The part right after a reset with the given strap levels and presence lines (R196). The timebase after reset is DESIGN
CHOICE 0 (notes/assumptions/1). -/
def State.afterReset (straps : BitVec 2) (presence : List Bool) : State :=
  { pending := [], draws := 0, now := 0#32, straps := straps, mode := .config,
    line := { address := addressOf straps, receiver := .hunting, buffer := [], progress := none, reply := none,
              sending := none, notices := [] },
    flags := { noticeLost := false, rxOverrun := false, discrepancyFull := false },
    settings := Settings.afterReset,
    articles := [], carousels := [none, none, none, none], windows := List.replicate 8 Window.afterReset,
    tasks := [], orders := [], submission := [], admissions := 0, creations := 0, picks := [],
    lanes := List.replicate 8 none,
    merge := { state := .running, nextNumber := 0, transfer := none },
    discrepancies := [], links := presence.map Link.afterReset, nextTicket := 1 }

/-- The machine right after reset. The levels on the pins are not the part's: straps 0 (line address 0x31) and every presence
line inactive are DESIGN CHOICE (notes/assumptions/2). -/
def State.reset : State := State.afterReset 0#2 (List.replicate 5 false)

end Sys2Proof.Machine
end

