-- ==== Sys2Proof/Machine/Ops.lean ====
section
/-! DEFINITION. The shared operations on the state: arithmetic of the timebase and of loop positions, ordering of lists, access
to carousels, windows, links and slots, the notice queue, the transmitter, the request in progress, and the idle tick. -/

namespace Sys2Proof.Machine

/-! ### Arithmetic (00_scope.md, "Units and notation") -/

/-- A length in ms as a distance on the timebase. -/
def ms (n : Nat) : Time := BitVec.ofNat 32 n

/-- A timer has expired when (now − expiry) mod 4,294,967,296 is below 2,147,483,648 (00_scope.md, "Time"). -/
def expired (now expiry : Time) : Bool := decide ((now - expiry).toNat < 2147483648)

/-- Time left to an expiry, 0 once it has passed. -/
def timeLeft (now expiry : Time) : Nat := if expired now expiry then 0 else (expiry - now).toNat

/-- (a − b) mod n, from 0 to n − 1 also when b is the larger (00_scope.md, "mod"). -/
def modSub (a b n : Nat) : Nat := (a + n - b % n) % n

/-- `x` taken as the nearer end of the range `lo` to `hi` when it lies outside (section 10.3). -/
def clamp (lo hi x : Nat) : Nat := if x < lo then lo else if hi < x then hi else x

/-- A count that has reached `last` holds there (R57). -/
def countUp (last x : Nat) : Nat := if x < last then x + 1 else x

/-! ### Lists -/

/-- Insertion before the first element that `x` precedes. -/
def insertBy {α : Type} (before : α → α → Bool) (x : α) : List α → List α
  | [] => [x]
  | y :: ys => if before x y then x :: y :: ys else y :: insertBy before x ys

/-- The elements in the order `before`, equal ones in the order they stood. -/
def sortBy {α : Type} (before : α → α → Bool) (xs : List α) : List α :=
  xs.foldl (fun acc x => insertBy before x acc) []

/-- The first element that no other precedes. -/
def leastBy {α : Type} (before : α → α → Bool) : List α → Option α
  | [] => none
  | x :: xs => some (xs.foldl (fun best y => if before y best then y else best) x)

/-- Order of pairs by the first part, then the second. -/
def lexPair (a b : Nat × Nat) : Bool := decide (a.1 < b.1) || (decide (a.1 = b.1) && decide (a.2 < b.2))

/-- Order of triples by their parts from the first. -/
def lexTriple (a b : Nat × Nat × Nat) : Bool :=
  decide (a.1 < b.1) || (decide (a.1 = b.1) && lexPair a.2 b.2)

/-- Lowest number from `i` among `n` that is not in the list. -/
def lowestFree (taken : List Nat) : Nat → Nat → Nat
  | 0, i => i
  | n + 1, i => if taken.contains i then lowestFree taken n (i + 1) else i

/-- The list with element `i` changed by `f`. -/
def modifyAt {α : Type} (f : α → α) (i : Nat) (xs : List α) : List α :=
  match xs[i]? with
  | some x => xs.set i (f x)
  | none => xs

/-! ### The timebase -/

/-- A LIVE result returns to PASS 100 ms after the last error (R180). -/
def TestRecord.atTime (now : Time) (t : TestRecord) : TestRecord :=
  match t.failUntil with
  | some e => if expired now e then { t with result := .pass, failUntil := none } else t
  | none => t

/-- The part with its timebase at `now`: the one thing that time alone changes is the result of a LIVE test (R180). -/
def State.atTime (now : Time) (s : State) : State :=
  { s with now := now, links := s.links.map fun l => { l with test := l.test.map (TestRecord.atTime now) } }

/-- The time an expiry event happens at: the expiry, or now if that has passed (notes/assumptions/3). -/
def State.reachTime (expiry : Time) (s : State) : State :=
  if expired s.now expiry then s else s.atTime expiry

/-- One ms of the timebase: what `step` does when no command waits (notes/assumptions/4). -/
def State.tick (s : State) : State := s.atTime (s.now + 1#32)

/-! ### Carousels, windows, links -/

/-- Carousel `k` if it is configured. -/
def State.carousel? (s : State) (k : Nat) : Option Carousel := s.carousels.getD k none

/-- The part with carousel `k` as given. -/
def State.setCarousel (s : State) (k : Nat) (c : Carousel) : State :=
  { s with carousels := s.carousels.set k (some c) }

/-- Carousel `k` changed by `f`; nothing if it is not configured. -/
def State.onCarousel (s : State) (k : Nat) (f : Carousel → Carousel) : State :=
  match s.carousel? k with
  | some c => s.setCarousel k (f c)
  | none => s

/-- Window `w`; a window number above 7 names none, and reads as one not configured. -/
def State.window (s : State) (w : Nat) : Window := s.windows.getD w Window.afterReset

/-- Window `w` changed by `f`. -/
def State.onWindow (s : State) (w : Nat) (f : Window → Window) : State :=
  { s with windows := s.windows.set w (f (s.window w)) }

/-- Link of station `st`; a number above 4 names none, and reads as a link that is DOWN. -/
def State.link (s : State) (st : Nat) : Link := s.links.getD st (Link.afterReset false)

/-- Link `st` changed by `f`. -/
def State.onLink (s : State) (st : Nat) (f : Link → Link) : State :=
  { s with links := s.links.set st (f (s.link st)) }

/-- Numbers of the configured carousels, rising. -/
def State.configuredCarousels (s : State) : List Nat :=
  (List.range 4).filter fun k => (s.carousel? k).isSome

/-- Numbers of the configured windows, rising (R108). -/
def State.configuredWindows (s : State) : List Nat :=
  (List.range 8).filter fun w => (s.window w).assigned.isSome

/-- The windows of carousel `k`, rising: at most two (R109). -/
def State.windowsOf (s : State) (k : Nat) : List Nat :=
  (List.range 8).filter fun w => match (s.window w).assigned with
    | some (k', _) => k' == k
    | none => false

/-- Loop position of a window (R108). -/
def State.loopPosition (s : State) (w : Nat) : Nat :=
  match (s.window w).assigned with
  | some (_, pos) => pos
  | none => 0

/-- Carousel a window is assigned to. -/
def State.carouselOf (s : State) (w : Nat) : Option Nat := (s.window w).assigned.map Prod.fst

/-- The carrier standing at window `w` of carousel record `c`: (L_w + P) mod N (R86). -/
def State.standing (s : State) (c : Carousel) (w : Nat) : Nat := (s.loopPosition w + c.p) % c.geometry.n

/-- A window is in use while it holds an open presentation or an open measurement (R89). -/
def Window.inUse (w : Window) : Bool := w.presentation.isSome || w.measurement.isSome

/-- The station link of a carousel, or of the lane module, is LOCKED. -/
def State.locked (s : State) (st : Nat) : Bool := decide ((s.link st).state = .locked)

/-! ### Articles and slots -/

/-- The article at a place of the table. -/
def State.articleAt (s : State) (place : Nat) : Option Article :=
  (s.articles.find? fun p => p.1 == place).map Prod.snd

/-- The place and record of the article with a code. -/
def State.articleOf (s : State) (code : Nat) : Option (Nat × Article) :=
  s.articles.find? fun p => p.2.code == code

/-- The code of the article at a place, by which replies and notices name it (R1). -/
def State.codeAt (s : State) (place : Nat) : Nat :=
  match s.articleAt place with
  | some a => a.code
  | none => 0

/-- Unit weight U of the article at a place (R24). -/
def State.weightAt (s : State) (place : Nat) : Nat :=
  match s.articleAt place with
  | some a => a.unitWeight
  | none => 0

/-- Unit weight of what a slot holds; 0 when no article is present. -/
def State.weightOf (s : State) (slot : Slot) : Nat :=
  match slot.held with
  | some h => s.weightAt h.place
  | none => 0

/-- The slot records of a carousel stand carrier by carrier, slot by slot. -/
def Geometry.index (g : Geometry) (carrier slot : Nat) : Nat := carrier * g.s + slot

/-- The slot at an address, if the address lies within the configured geometry (R7). -/
def State.slot? (s : State) (a : SlotAddr) : Option Slot :=
  match s.carousel? a.carousel with
  | some c => if a.carrier < c.geometry.n ∧ a.slot < c.geometry.s then c.slots[c.geometry.index a.carrier a.slot]? else none
  | none => none

/-- The slots of one carrier, in slot order. -/
def Carousel.carrierSlots (c : Carousel) (carrier : Nat) : List Slot :=
  (c.slots.drop (carrier * c.geometry.s)).take c.geometry.s

/-- Addresses of all slots of the configured carousels, lowest first. -/
def State.slotAddrs (s : State) : List SlotAddr :=
  s.configuredCarousels.flatMap fun k =>
    match s.carousel? k with
    | some c => (List.range c.geometry.n).flatMap fun i => (List.range c.geometry.s).map fun j => ⟨k, i, j⟩
    | none => []

/-! ### Orders, picks and tasks -/

/-- The held order with a tag. -/
def State.order? (s : State) (tag : Nat) : Option Order := s.orders.find? fun o => o.tag == tag

/-- The order with a tag changed by `f`. -/
def State.onOrder (s : State) (tag : Nat) (f : Order → Order) : State :=
  { s with orders := s.orders.map fun o => if o.tag = tag then f o else o }

/-- The held pick with a number. -/
def State.pick? (s : State) (number : Nat) : Option Pick := s.picks.find? fun p => p.number == number

/-- The pick with a number changed by `f`. -/
def State.onPick (s : State) (number : Nat) (f : Pick → Pick) : State :=
  { s with picks := s.picks.map fun p => if p.number = number then f p else p }

/-- The held put-away task with a tag. -/
def State.task? (s : State) (tag : Nat) : Option Task := s.tasks.find? fun t => t.tag == tag

/-- The task with a tag changed by `f`. -/
def State.onTask (s : State) (tag : Nat) (f : Task → Task) : State :=
  { s with tasks := s.tasks.map fun t => if t.tag = tag then f t else t }

/-- Order class of an order: the priority ÷ 16 (R58). -/
def Order.cls (o : Order) : Nat := o.priority / 16

/-- Line `i` of an order changed by `f`. -/
def Order.onLine (o : Order) (i : Nat) (f : Line → Line) : Order := { o with lines := modifyAt f i o.lines }

/-- A line of a held order. -/
def State.line? (s : State) (tag i : Nat) : Option Line :=
  match s.order? tag with
  | some o => o.lines[i]?
  | none => none

/-- The sum of a list of quantities. -/
def total (xs : List Nat) : Nat := xs.foldl (· + ·) 0

/-- Requested total of an order (R61). -/
def Order.requestedTotal (o : Order) : Nat := total (o.lines.map (·.requested))
/-- Picked total of an order (R73). -/
def Order.pickedTotal (o : Order) : Nat := total (o.lines.map (·.picked))
/-- Delivered total of an order (R73). -/
def Order.deliveredTotal (o : Order) : Nat := total (o.lines.map (·.delivered))
/-- Tyres of an order on their way: the sum of picked − delivered over its lines (R72). -/
def Order.onTheWay (o : Order) : Nat := total (o.lines.map fun l => l.picked - l.delivered)
/-- Every line has delivered equal to requested (R72). -/
def Order.allDelivered (o : Order) : Bool := o.lines.all fun l => decide (l.delivered = l.requested)

/-- The open picks of a line. -/
def State.linePicks (s : State) (tag i : Nat) : List Pick :=
  s.picks.filter fun p => p.order == tag && p.line == i

/-- Open quantity of a line: the sum of the quantities of its open picks (R59). -/
def State.openQuantity (s : State) (tag i : Nat) : Nat := total ((s.linePicks tag i).map (·.quantity))

/-- Unallocated quantity of a line: requested − picked − open quantity (R59). -/
def State.unallocated (s : State) (tag i : Nat) (l : Line) : Nat := l.requested - l.picked - s.openQuantity tag i

/-! ### Notice queue and transmitter (R188, R189) -/

/-- Queues a notice: appended while fewer than 32 are held, else dropped with NOTICE_LOST set (R189). -/
def State.notify (n : Notice) (s : State) : State :=
  if s.line.notices.length < Config.noticePlaces then
    { s with line := { s.line with notices := s.line.notices ++ [n] } }
  else { s with flags := { s.flags with noticeLost := true } }

/-- Kind code of a notice frame (section 10.2). -/
def noticeKind : Nat := 127

/-- Result code with which the payload of a reply begins (R187). -/
def Result.code : Result → Nat
  | .ok => 0x00
  | .accepted => 0x01
  | .unknownKind => 0x02
  | .badField => 0x03
  | .wrongMode => 0x04
  | .wrongState => 0x05
  | .busy => 0x06
  | .noSpace => 0x07
  | .noRoom => 0x08
  | .notFound => 0x09
  | .duplicate => 0x0A
  | .inUse => 0x0B
  | .linkDown => 0x0C
  | .tooLarge => 0x0D
  | .badConfig => 0x0E

/-- Notice kind with which the payload of a notice begins (R188). A tare count reports as AUDIT_RESULT (R164). -/
def Notice.code : Notice → Nat
  | .orderState _ _ _ _ _ _ => 0x01
  | .lineShort _ _ _ _ _ _ _ _ => 0x02
  | .putawayDone _ _ _ _ _ _ _ _ => 0x03
  | .auditResult _ => 0x04
  | .tared _ _ _ _ => 0x04
  | .shortPick _ => 0x05
  | .moveFault _ _ _ _ _ => 0x06
  | .positionChanged _ _ _ _ _ => 0x07
  | .linkState _ _ _ _ => 0x08
  | .laneFault _ _ _ _ _ => 0x09
  | .balance _ _ _ _ _ => 0x0A
  | .bridgeResult _ _ _ _ _ => 0x0B

/-- What an idle transmitter does when a frame is ready: the formed reply first, else the oldest notice (R188). -/
def HostLine.choose (l : HostLine) : HostLine :=
  match l.sending with
  | some _ => l
  | none =>
    match l.reply with
    | some r =>
      { l with reply := none,
               sending := some { address := l.address, kind := r.kind + 128, tag := r.tag, code := r.result.code,
                                 content := .reply r } }
    | none =>
      match l.notices with
      | n :: ns =>
        { l with notices := ns,
                 sending := some { address := l.address, kind := noticeKind, tag := 0, code := n.code, content := .notice n } }
      | [] => l

/-- The transmitter chooses at the close of an event (notes/assumptions/5). -/
def State.transmit (s : State) : State := { s with line := s.line.choose }

/-! ### The request in progress (R186, R187) -/

/-- What a block answers to a request handed to it: a result with its fields, or a station exchange to wait for (R186). -/
inductive Answer where
  | reply (s : State) (r : Result) (b : ReplyBody)
  | wait (s : State) (e : Exchange)

/-- A refusal that names nothing: no record changes (R187). -/
def State.refuse (s : State) (r : Result) : Answer := .reply s r .none

/-- Forms the reply of the request in progress (R187). -/
def State.formReply (r : Result) (b : ReplyBody) (s : State) : State :=
  match s.line.progress with
  | some p =>
    { s with line := { s.line with reply := some { kind := p.kind, tag := p.tag, result := r, body := b },
                                   progress := some { p with exchange := none } } }
  | none => s

/-- The request in progress waits for a station exchange (R186). -/
def State.awaitExchange (e : Exchange) (s : State) : State :=
  { s with line := { s.line with progress := s.line.progress.map fun p => { p with exchange := some e } } }

/-- The end of a station exchange forms the reply of the request that waits for it (R176, R179, R182). -/
def State.endExchange (e : Exchange) (r : Result) (b : ReplyBody) (s : State) : State :=
  match s.line.progress with
  | some p => if p.exchange = some e then s.formReply r b else s
  | none => s

/-- Takes a request: its frame leaves the buffer, if it waited there, and the request is in progress (R186). -/
def State.take (kind tag : Nat) (s : State) : State :=
  { s with line := { s.line with buffer := s.line.buffer.tail,
                                 progress := some { kind := kind, tag := tag, exchange := none } } }

/-- A frame arrives: appended while fewer than two wait, else dropped with RX_OVERRUN set (R186). -/
def State.arrive (f : Frame) (s : State) : State :=
  if s.line.buffer.length < Config.receivePlaces then
    { s with line := { s.line with buffer := s.line.buffer ++ [f] } }
  else { s with flags := { s.flags with rxOverrun := true } }

/-- A taken request (R187): tag 0 gives BAD_FIELD, anything else is the owning rule's. Cases 2 and 3 are the owner's of
UNKNOWN_KIND, and the first check of the owners of requests with a field of fixed encodings. -/
def State.handle (kind tag : Nat) (owner : State → Answer) (s : State) : State :=
  if tag = 0 then (s.take kind tag).formReply .badField .none
  else
    match owner (s.take kind tag) with
    | .reply s' r b => s'.formReply r b
    | .wait s' e => s'.awaitExchange e

/-- A request of the host line arrives (R186): with none in progress and none waiting it is taken at once and handled (R187), and
at the close of the event the transmitter chooses (R188); otherwise it waits in the receive buffer like any frame that arrives
(notes/assumptions/6). -/
def State.request (kind tag : Nat) (i : Instr) (owner : State → Answer) (s : State) : State :=
  if s.line.progress = none ∧ s.line.buffer = [] then (s.handle kind tag owner).transmit
  else (s.arrive { kind := kind, tag := tag, payload := .request i }).transmit

end Sys2Proof.Machine
end

