-- ==== Sys2Proof/Machine/Balance.lean ====
section
/-! DEFINITION. The balance unit (02_carousel_load_and_balance.md): slot and carrier loads, the imbalance profile, worst
imbalance, the judgement of proposals, BALANCE_OVER with its notice, the move speed, and the write of a slot record, which
reports to the unit (R12, R30). -/

namespace Sys2Proof.Machine

/-! ### Loads -/

/-- On-hand load of a slot whose article weighs `u` (R24); `u` is 0 when no article is present. -/
def Slot.onHandLoad (u : Nat) (slot : Slot) : Nat :=
  match slot.state with
  | .free => 0
  | .stocked => slot.onHand * u
  | .withdrawn => slot.onHand * u
  | .quarantine =>
    match slot.measured with
    | some load => load
    | none => slot.onHand * u

/-- Committed load of a slot whose article weighs `u` (R25). -/
def Slot.committedLoad (u : Nat) (slot : Slot) : Nat :=
  match slot.state with
  | .stocked => (slot.onHand - slot.reserved + slot.pending) * u
  | _ => slot.onHandLoad u

/-- Committed and on-hand load of a slot. -/
def State.loads (s : State) (slot : Slot) : Nat × Nat :=
  (slot.committedLoad (s.weightOf slot), slot.onHandLoad (s.weightOf slot))

/-! ### Imbalance profile (R27 to R29) -/

/-- Load of carrier `c`. -/
def loadAt (loads : List Nat) (c : Nat) : Nat := loads.getD c 0

/-- D(P) by its definition (R27): carrier `c` stands at loop position (c − P) mod N, on the up side below N/2. -/
def imbalance (loads : List Nat) (p : Nat) : Int :=
  ((List.range loads.length).map fun c =>
    if modSub c p loads.length < loads.length / 2 then (loadAt loads c : Int) else -(loadAt loads c : Int)).foldl (· + ·) 0

/-- One forward step of the profile: D(P+1) = D(P) − 2 × L_P + 2 × L_(P + N/2) (R28). -/
def stepProfile (loads : List Nat) (p : Nat) (d : Int) : Int :=
  d - 2 * (loadAt loads p : Int) + 2 * (loadAt loads ((p + loads.length / 2) % loads.length) : Int)

/-- `k` values of the profile from position `p`, where it is `d`, by stepping (R28). -/
def profileFrom (loads : List Nat) : Nat → Nat → Int → List Int
  | 0, _, _ => []
  | k + 1, p, d => d :: profileFrom loads k (p + 1) (stepProfile loads p d)

/-- D(0) to D(N/2 − 1), as the unit forms them (R28). -/
def profile (loads : List Nat) : List Int := profileFrom loads (loads.length / 2) 0 (imbalance loads 0)

/-- Worst imbalance W: the largest |D(P)| over P = 0 to N/2 − 1 (R29). -/
def worst (loads : List Nat) : Nat := (profile loads).foldl (fun w d => max w d.natAbs) 0

/-- Worst position: the lowest P at which |D(P)| equals W, and whether the up side is the heavier there (R39). -/
def worstPosition (loads : List Nat) : Nat × Bool :=
  let ps := profile loads
  let p := ps.findIdx fun d => d.natAbs == worst loads
  (if p < ps.length then p else 0, decide (0 ≤ ps.getD p 0))

/-! ### Keeping the figures (R30, R34, R35) -/

/-- BALANCE_OVER as it has to stand: committed W above B (R34). -/
def Figures.isOver (f : Figures) : Bool := decide (f.limit < f.committedW)

/-- The figures with carrier `i`'s share of one slot replaced, old loads by new, and both W recomputed (R30). -/
def Figures.replace (f : Figures) (i : Nat) (old new : Nat × Nat) : Figures :=
  let committed := modifyAt (fun l => l + new.1 - old.1) i f.committed
  let onHand := modifyAt (fun l => l + new.2 - old.2) i f.onHand
  { f with committed := committed, onHand := onHand, committedW := worst committed, onHandW := worst onHand }

/-- BALANCE_OVER judged anew, with a BALANCE notice when it changes (R34, R35). -/
def State.judgeOver (k : Nat) (s : State) : State :=
  match s.carousel? k with
  | some c =>
    let f := c.figures
    if f.isOver = f.overLimit then s
    else
      (s.setCarousel k { c with figures := { f with overLimit := f.isOver } }).notify
        (.balance k f.isOver f.committedW f.onHandW f.limit)
  | none => s

/-- One write of a slot record. A write that changes the on-hand or the committed load of the slot is reported to the balance
unit, which brings its figures up to date as part of the write (R12, R30). -/
def State.writeSlot (a : SlotAddr) (new : Slot) (s : State) : State :=
  match s.carousel? a.carousel, s.slot? a with
  | some c, some old =>
    let slots := c.slots.set (c.geometry.index a.carrier a.slot) new
    if s.loads old = s.loads new then s.setCarousel a.carousel { c with slots := slots }
    else
      (s.setCarousel a.carousel
        { c with slots := slots, figures := c.figures.replace a.carrier (s.loads old) (s.loads new) }).judgeOver a.carousel
  | _, _ => s

/-- One write of a slot record by a change of it. -/
def State.updateSlot (a : SlotAddr) (f : Slot → Slot) (s : State) : State :=
  match s.slot? a with
  | some slot => s.writeSlot a (f slot)
  | none => s

/-- A STOCKED slot whose on-hand and pending are both 0 after a write becomes FREE in that same write (R14). -/
def Slot.settled (slot : Slot) : Slot :=
  if slot.state = .stocked ∧ slot.onHand = 0 ∧ slot.pending = 0 then Slot.freeSlot else slot

/-! ### Judging a reservation (R31, R32) -/

/-- The committed W a carousel would have with carrier `i`'s committed load changed to `g` of it (R31). -/
def Figures.proposedW (f : Figures) (i : Nat) (g : Nat → Nat) : Nat := worst (modifyAt g i f.committed)

/-- A proposal is granted when the committed W after it is at most B, or at most the committed W before it (R32). -/
def Figures.grants (f : Figures) (w : Nat) : Bool := decide (w ≤ f.limit) || decide (w ≤ f.committedW)

/-! ### Move speed (R37) -/

/-- The speed of a MOVE about to be sent: CREEP while on-hand W is above B (R37). -/
def Figures.speed (f : Figures) : Speed := if f.limit < f.onHandW then .creep else .normal

end Sys2Proof.Machine
end

