-- ==== Sys2Proof/Machine/Exchange.lean ====
section
/-! DEFINITION. The traffic of a station link (R171, R172): handing over a command, sending the head of the send queue, the reply
timer, and the answer of the command outstanding. -/

namespace Sys2Proof.Machine

/-- The command outstanding after a first send: it takes the next command number and the reply timer starts (R171). -/
def Link.send (now : Time) (c : Command) (l : Link) : Link :=
  { l with outstanding := some { command := c, number := l.nextNumber, sends := 1, expiry := now + ms Config.replyTime },
           nextNumber := (l.nextNumber + 1) % 256 }

/-- The head of the queue is sent when the link is LOCKED, the settle is not running and no command is outstanding (R171). -/
def Link.sendHead (now : Time) (l : Link) : Link :=
  match l.queue with
  | c :: cs =>
    if l.state = .locked ∧ l.settle = none ∧ l.outstanding = none then { l.send now c with queue := cs } else l
  | [] => l

/-- A command handed over is appended to the send queue; while the link is not LOCKED it is discarded at once (R170, R171). -/
def Link.handOver (now : Time) (c : Command) (l : Link) : Link :=
  if l.state = .locked then { l with queue := l.queue ++ [c] }.sendHead now else l

/-- Hands a command over to a station. -/
def State.handOver (st : Nat) (c : Command) (s : State) : State := s.onLink st (Link.handOver s.now c)

/-- The command outstanding is answered: the reply timer stops and the next command is sent (R172). -/
def Link.answered (now : Time) (l : Link) : Link := { l with outstanding := none }.sendHead now

/-- The command outstanding that a reply with this number answers (R172). -/
def State.answers (s : State) (st number : Nat) : Option Command :=
  match (s.link st).outstanding with
  | some o => if o.number = number then some o.command else none
  | none => none

/-- Takes a reply as the answer of the command outstanding (R172). -/
def State.takeReply (st : Nat) (s : State) : State := s.onLink st (Link.answered s.now)

/-- A POSITION command whose query has been abandoned is no longer awaited (R102, R106). -/
def Command.abandon : Command → Command
  | .position _ => .position false
  | c => c

/-- The POSITION commands in a link's traffic, once their query is abandoned (R102). -/
def Link.abandonQuery (l : Link) : Link :=
  { l with queue := l.queue.map Command.abandon,
           outstanding := l.outstanding.map fun o => { o with command := o.command.abandon } }

end Sys2Proof.Machine
end

