-- ==== Sys2Proof/Machine/Work.lean ====
section
/-! DEFINITION. The dispatcher's figures (05_dispatch_and_carousel_motion.md, sections 5.2 and 5.3): carrier work, dispatch
class, rotation plan and next target, as functions of the state; and `State.refresh`, which writes what the carousel records
and the panel headers are to show of them at the close of an event. -/

namespace Sys2Proof.Machine

/-! ### Carrier work (R82) -/

/-- The slot address lies on a carrier. -/
def onCarrier (a : SlotAddr) (k c : Nat) : Bool := a.carousel == k && a.carrier == c

/-- Dispatch class of a pick: 1 + the order class of its order (R82). -/
def State.pickClass (s : State) (p : Pick) : Nat :=
  match s.order? p.order with
  | some o => 1 + o.cls
  | none => 1

/-- PENDING picks that name a slot of the carrier. -/
def State.pendingPicks (s : State) (k c : Nat) : List Pick :=
  s.picks.filter fun p => !p.presented && onCarrier p.addr k c

/-- OPEN targets that name a slot of the carrier, with the tag of their task. -/
def State.openTargets (s : State) (k c : Nat) : List (Nat × Target) :=
  s.tasks.flatMap fun t => (t.targets.filter fun x => decide (x.outcome = .opened) && onCarrier x.addr k c).map fun x => (t.tag, x)

/-- The carrier stands in its carousel's audit list. -/
def State.listed (s : State) (k c : Nat) : Bool :=
  match s.carousel? k with
  | some r => r.auditList.contains c
  | none => false

/-- Work summary of a carrier (R82). -/
def State.carrierWork (s : State) (k c : Nat) : CarrierWork :=
  let ps := s.pendingPicks k c
  { picks := [1, 2, 3, 4].map fun cls => (ps.filter fun p => s.pickClass p == cls).length,
    targets := (s.openTargets k c).length, listed := s.listed k c }

/-- Dispatch class of a carrier: the highest among its work; none without work (R82). -/
def CarrierWork.cls (putawayClass : Nat) (w : CarrierWork) : Option Nat :=
  let pick := ([1, 2, 3, 4].zip w.picks).foldl (fun m q => if 0 < q.2 then max m q.1 else m) 0
  let put := if 0 < w.targets then putawayClass else 0
  if 0 < max pick put then some (max pick put) else if w.listed then some 0 else none

/-- Dispatch class of a carrier as the state has it now. -/
def State.carrierClass (s : State) (k c : Nat) : Option Nat := (s.carrierWork k c).cls s.settings.putawayClass

/-- A carrier has work while any of its work counts (R82). -/
def State.hasWork (s : State) (k c : Nat) : Bool := (s.carrierClass k c).isSome

/-! ### Rotation plan (R86) -/

/-- The plan that brings carrier `c` to a window at loop position `pos` of a carousel of `n` carriers standing at `p`. -/
def planFor (n p c w pos : Nat) : Plan :=
  let target := modSub c pos n
  let f := modSub target p n
  if f ≤ n / 2 then { window := w, targetP := target, direction := .forward, steps := f }
  else { window := w, targetP := target, direction := .reverse, steps := n - f }

/-- The rotation plan of a carrier: the window that needs fewer steps, the lower-numbered of two that need the same (R86). -/
def State.plan (s : State) (k c : Nat) : Option Plan :=
  match s.carousel? k with
  | some r =>
    leastBy (fun a b => decide (a.steps < b.steps))
      ((s.windowsOf k).map fun w => planFor r.geometry.n r.p c w (s.loopPosition w))
  | none => none

/-! ### Next target (R85) -/

/-- A carrier stands at a window of its carousel that is in use. -/
def State.standsInUse (s : State) (k c : Nat) : Bool :=
  match s.carousel? k with
  | some r => (s.windowsOf k).any fun w => (s.window w).inUse && s.standing r w == c
  | none => false

/-- A carrier whose passed-over count is 7 is due (R84). -/
def Carousel.due (r : Carousel) (c : Nat) : Bool := r.passed.getD c 0 == 7

/-- Keys of a candidate, smaller ranking first: class from the highest, due before not due, steps, carrier (R85). -/
def candidateKey (cls : Nat) (due : Bool) (steps c : Nat) : Nat × Nat × Nat := (2 * (4 - cls) + (if due then 0 else 1), steps, c)

/-- The next target of a carousel with its class and plan: the first candidate in the ranking of R85. -/
def State.nextTarget (s : State) (k : Nat) : Option (Nat × Nat × Plan) :=
  match s.carousel? k with
  | some r =>
    (leastBy (fun a b => lexTriple a.1 b.1)
      ((List.range r.geometry.n).filterMap fun c =>
        match s.carrierClass k c, s.plan k c with
        | some cls, some plan =>
          if s.standsInUse k c then none else some (candidateKey cls (r.due c) plan.steps c, c, cls, plan)
        | _, _ => none)).map Prod.snd
  | none => none

/-! ### Headers (R117) -/

/-- Window status of a header: the first of the table's rows that applies (R117). -/
def State.headerStatus (s : State) (w : Nat) : HeaderStatus :=
  let win := s.window w
  let state : Option CarouselState := match win.assigned with
    | some (k, _) => (s.carousel? k).map (·.state)
    | none => none
  if s.mode = .config then .blank
  else if win.measurement.isSome then .measure
  else if win.presentation.isSome then .opened
  else if state = some .fault then .fault
  else if s.mode = .hold ∨ state = some .stopping ∨ state = some .held then .held
  else .blank

/-- Carrier number of a header (R117): the carrier presented or under measurement, else the one standing at the window while
the position is known. -/
def State.headerCarrier (s : State) (w : Nat) : Option Nat :=
  let win := s.window w
  match win.measurement, win.presentation with
  | some m, _ => some m.carrier
  | none, some p => some p.carrier
  | none, none =>
    match win.assigned with
    | some (k, _) =>
      match s.carousel? k with
      | some r => if r.known then some (s.standing r w) else none
      | none => none
    | none => none

/-- The header of a window as R117 sets it. -/
def State.headerOf (s : State) (w : Nat) : Header := { carrier := s.headerCarrier w, status := s.headerStatus w }

/-! ### What the records show at the close of an event -/

/-- Work summaries and next target of carousel `k` recomputed (R82, R85). -/
def State.refreshCarousel (s : State) (k : Nat) : State :=
  match s.carousel? k with
  | some r =>
    s.setCarousel k
      { r with work := (List.range r.geometry.n).map (s.carrierWork k),
               next := (s.nextTarget k).map fun t => (t.1, t.2.2.window) }
  | none => s

/-- The header of a configured window set again (R117); a window that is not configured keeps a dark panel (R108). -/
def State.refreshHeader (s : State) (w : Nat) : State :=
  if (s.window w).assigned.isSome then s.onWindow w fun v => { v with header := s.headerOf w } else s

/-- Summaries, next targets and headers as they stand at the close of an event (R82, R85, R117). -/
def State.refresh (s : State) : State :=
  (List.range 8).foldl State.refreshHeader ((List.range 4).foldl State.refreshCarousel s)

end Sys2Proof.Machine
end

