-- ==== Sys2Proof/Machine/Panel.lean ====
section
/-! DEFINITION. Presentations, entry queues and the display table of a panel
(06_pick_windows_and_operator_panels.md, sections 6.2 and 6.3): the operations that other blocks use. -/

namespace Sys2Proof.Machine

/-! ### Order of entries (R110) -/

/-- The place of an entry in the order of R110: PUT entries by task tag, then PICK entries by creation sequence number (R110);
picks that share the last number by pick number (R57). -/
def State.entryKey (s : State) : Entry → Nat × Nat × Nat
  | .put task _ => (0, task, 0)
  | .pick number _ =>
    match s.pick? number with
    | some p => (1, p.seq, number)
    | none => (1, 0, number)

/-- Entry `a` stands before entry `b` in the order of R110. -/
def State.entryBefore (s : State) (a b : Entry) : Bool := lexTriple (s.entryKey a) (s.entryKey b)

/-- A new entry among the entries of a queue: never before the head; directly behind the head if its order would put it
before the head, else in its order among the entries behind the head (R112; notes/assumptions/11). -/
def State.joinQueue (s : State) (e : Entry) : List Entry → List Entry
  | [] => [e]
  | h :: rest => if s.entryBefore e h then h :: e :: rest else h :: insertBy s.entryBefore e rest

/-! ### Display records (R116) -/

/-- The display record of a queue's head (R116). -/
def State.displayOf (s : State) : List Entry → Display
  | [] => Display.blank
  | .put _ q :: _ => { mode := .put, quantity := q, lane := none, blink := false }
  | .pick number q :: _ =>
    let order := match s.pick? number with
      | some p => s.order? p.order
      | none => none
    { mode := .pick, quantity := q,
      lane := match order with
        | some o => o.lane
        | none => none,
      blink := match order with
        | some o => o.cls == 3
        | none => false }

/-- The display table when every record is BLANK. -/
def blankDisplays : List Display := List.replicate Config.positions Display.blank

/-- The display table of a count at a slot position: AUDIT with the recorded on-hand there, BLANK elsewhere (R116, R154). -/
def auditDisplays (position onHand : Nat) : List Display :=
  blankDisplays.set position { mode := .audit, quantity := onHand, lane := none, blink := false }

/-- The display table set from the heads of all queues (R111). -/
def State.displaysOf (s : State) (queues : List (List Entry)) : List Display :=
  (List.range Config.positions).map fun i => s.displayOf (queues.getD i [])

/-! ### Opening and filling (R111) -/

/-- The queue of a slot at the opening of a presentation: its OPEN targets and PENDING picks in order (R110, R111). -/
def State.fillQueue (s : State) (k c i : Nat) : List Entry :=
  let puts := ((s.openTargets k c).filter fun t => t.2.addr.slot == i).map fun t => Entry.put t.1 t.2.quantity
  let picks := ((s.pendingPicks k c).filter fun p => p.addr.slot == i).map fun p => Entry.pick p.number p.quantity
  sortBy s.entryBefore (puts ++ picks)

/-- Opens a presentation of carrier `c` at window `w` of carousel `k` (R89, R111): the queues are filled, every PENDING pick
on the carrier becomes PRESENTED, the carrier's passed-over count becomes 0, and an IDLE carousel becomes PRESENTING. -/
def State.fillPresentation (k w c : Nat) (s : State) : State :=
  let slots := match s.carousel? k with
    | some r => r.geometry.s
    | none => 0
  let queues := (List.range slots).map (s.fillQueue k c)
  let s1 := s.onWindow w fun v => { v with presentation := some ⟨c, queues⟩, displays := s.displaysOf queues }
  let s2 : State := { s1 with picks := s1.picks.map fun (p : Pick) =>
    (if !p.presented && onCarrier p.addr k c then { p with presented := true } else p) }
  s2.onCarousel k fun (r : Carousel) =>
    { r with passed := modifyAt (fun _ => 0) c r.passed, state := if r.state = CarouselState.idle then .presenting else r.state }

/-- Every queue of the window's presentation is empty (R114). -/
def Window.queuesEmpty (v : Window) : Bool :=
  match v.presentation with
  | some p => p.queues.all List.isEmpty
  | none => false

/-- The presentation of a window is over: none is open and every display record is BLANK. -/
def State.dropPresentation (w : Nat) (s : State) : State :=
  s.onWindow w fun v => { v with presentation := none, displays := blankDisplays }

/-! ### Entries that join and leave (R112, R113) -/

/-- The window at which carrier `c` of carousel `k` is presented. -/
def State.presentingWindow (s : State) (k c : Nat) : Option Nat :=
  (s.windowsOf k).find? fun w => match (s.window w).presentation with
    | some p => p.carrier == c
    | none => false

/-- Queue of a slot position of a presentation. -/
def Presentation.queue (p : Presentation) (i : Nat) : List Entry := p.queues.getD i []

/-- Rewrites the queue of a slot position. The display record is set from the new head when the head has changed (R116). -/
def State.rewriteQueue (w i : Nat) (f : List Entry → List Entry) (s : State) : State :=
  match (s.window w).presentation with
  | some p =>
    let old := p.queue i
    let new := f old
    s.onWindow w fun v =>
      { v with presentation := some { p with queues := p.queues.set i new },
               displays := if old.head? = new.head? then v.displays else v.displays.set i (s.displayOf new) }
  | none => s

/-- Work created on a slot of a presented carrier joins its queue (R112). -/
def State.joinEntry (a : SlotAddr) (e : Entry) (s : State) : State :=
  match s.presentingWindow a.carousel a.carrier with
  | some w => s.rewriteQueue w a.slot fun q => if q.contains e then q else s.joinQueue e q
  | none => s

/-- An entry leaves its queue, if it stands in one (R113). -/
def State.removeEntry (a : SlotAddr) (e : Entry) (s : State) : State :=
  match s.presentingWindow a.carousel a.carrier with
  | some w => s.rewriteQueue w a.slot fun q => q.filter fun x => decide (x ≠ e)
  | none => s

/-- The carrier of a slot is presented. -/
def State.isPresented (s : State) (a : SlotAddr) : Bool := (s.presentingWindow a.carousel a.carrier).isSome

/-- Cancels the presentation of a window on a change of carousel position (R115): its picks return to PENDING, its targets stay
OPEN, and the panel goes BLANK. -/
def State.cancelPresentation (w : Nat) (s : State) : State :=
  match (s.window w).presentation with
  | some p =>
    let numbers := p.queues.flatten.filterMap fun e => match e with
      | .pick number _ => some number
      | .put _ _ => none
    let s1 : State := { s with picks := s.picks.map fun (x : Pick) =>
      (if numbers.contains x.number then { x with presented := false } else x) }
    s1.dropPresentation w
  | none => s

/-- PICK entries of a window's presentation (R103). -/
def Window.pickEntries (v : Window) : Nat :=
  match v.presentation with
  | some p => (p.queues.flatten.filter fun e => match e with
    | .pick _ _ => true
    | .put _ _ => false).length
  | none => 0

/-! ### Outfeed places and held confirms (R122, R124) -/

/-- Free places of an outfeed queue: 8 less the occupied ones (R122). -/
def Window.freePlaces (v : Window) : Nat := Config.outfeedPlaces - v.outfeed.length

/-- Every record in WAIT whose quantity the free places cover returns to PICK (R124). -/
def Window.releaseWaits (v : Window) : Window :=
  { v with displays := v.displays.map fun d =>
      if d.mode = .wait ∧ d.quantity ≤ v.freePlaces then { d with mode := .pick } else d }

end Sys2Proof.Machine
end

