-- ==== Sys2Proof/Machine/Motion.lean ====
section
/-! DEFINITION. What a carousel does of itself (05_dispatch_and_carousel_motion.md, sections 5.4 to 5.7, with the opening and end
of presentations of 06 and the start, seek and end of measurements of 08): opening presentations, measurements that follow
them, acting on the next target, moves, parks, stops, faults, and the loss of a link. Each is one operation, made by the
meanings of the events that cause it. -/

namespace Sys2Proof.Machine

/-! ### Measurements: start, seek and end (R152, R153, R159) -/

/-- The measurement record of a window changed by `f`. -/
def State.onMeasurement (w : Nat) (f : Measurement → Measurement) (s : State) : State :=
  s.onWindow w fun v => { v with measurement := v.measurement.map f }

/-- Begins the count of slot position `i` at window `w` of carousel `k` (R154, Channel): the display shows AUDIT there, and
CHANNEL is handed to the bay module. -/
def State.beginCount (k w i onHand : Nat) (s : State) : State :=
  (s.onWindow w fun v =>
    { v with measurement := v.measurement.map fun m => { m with position := i, phase := .channel },
             displays := auditDisplays i onHand }).handOver k (.channel w i)

/-- The AUDIT_RESULT notice of a slot that is not counted (R157): its on-hand, article and state are those of that moment
(notes/assumptions/38). -/
def State.uncounted (s : State) (w : Nat) (a : SlotAddr) (slot : Slot) (outcome : AuditOutcome) : Notice :=
  .auditResult { window := w, addr := a, outcome := outcome, count := none, load := none, estimate := none,
                 recorded := slot.onHand, code := slot.held.map fun h => s.codeAt h.place, state := slot.state, fate := .none }

/-- Seeks the next slot to count from position `i`, with `left` positions left (R153). The flag says that every slot has been
dealt with. -/
def State.seek (k w c : Nat) : Nat → Nat → State → State × Bool
  | 0, _, s => (s, true)
  | left + 1, i, s =>
    match s.slot? ⟨k, c, i⟩ with
    | some slot =>
      if slot.state = .withdrawn then
        seek k w c left (i + 1)
          ((s.notify (s.uncounted w ⟨k, c, i⟩ slot .skipped)).onMeasurement w fun m => { m with skipped := m.skipped + 1 })
      else (s.beginCount k w i slot.onHand, false)
    | none => (s, true)

/-- Seeks from position `i` to the last of the carousel's slot positions. -/
def State.seekFrom (k w c i : Nat) (s : State) : State × Bool :=
  match s.carousel? k with
  | some r => s.seek k w c (r.geometry.s - i) i
  | none => (s, true)

/-- The audit test: no slot of the carrier has pick-reserved or put-away pending above 0 (R149). -/
def State.auditTest (s : State) (k c : Nat) : Bool :=
  match s.carousel? k with
  | some r => (r.carrierSlots c).all fun slot => decide (slot.reserved = 0) && decide (slot.pending = 0)
  | none => false

/-- Starts the measurement of carrier `c` at window `w` (R152): the carrier leaves the audit list, the record is formed, and
the first slot to count is sought. -/
def State.startMeasurement (k w c : Nat) (s : State) : State × Bool :=
  ((s.onCarousel k fun r => { r with auditList := r.auditList.filter fun x => decide (x ≠ c) }).onWindow w fun v =>
    { v with measurement := some { purpose := .measure, carrier := c, position := 0, phase := .channel, judged := 0,
                                   skipped := 0, matched := 0, mismatched := 0 } }).seekFrom k w c 0

/-- The measurement record of a window is removed; the counter is closed and the panel is BLANK (R159, R160). -/
def State.dropMeasurement (w : Nat) (s : State) : State :=
  s.onWindow w fun v => { v with measurement := none, counterOpen := false, displays := blankDisplays }

/-- No presentation opens while the carousel is in another state (R89). -/
def CarouselState.opensPresentations : CarouselState → Bool
  | .idle => true
  | .presenting => true
  | .held => true
  | _ => false

/-- At the end of a measurement or tare count, a presentation of the standing carrier opens if it has work (R114, R159). -/
def State.endMeasurement (k w c : Nat) (opening : State → State) (s : State) : State :=
  let s1 := s.dropMeasurement w
  match s1.carousel? k with
  | some r => if r.state.opensPresentations && s1.hasWork k c then opening s1 else s1
  | none => s1

/-- At the end of a presentation, the carrier's measurement begins if it is on the audit list, the audit test holds and the
carousel is not OFFLINE (R114, R149). -/
def State.endPresentation (k w c : Nat) (opening : State → State) (s : State) : State :=
  let s1 := s.dropPresentation w
  match s1.carousel? k with
  | some r =>
    if r.state ≠ .offline ∧ r.auditList.contains c = true ∧ s1.auditTest k c = true then
      match s1.startMeasurement k w c with
      | (s2, true) => s2.endMeasurement k w c opening
      | (s2, false) => s2
    else s1
  | none => s1

/-- Opens a presentation of carrier `c` at window `w`. One that holds no entry ends at once (R111, R114). The fuel bounds the
chain of a measurement that skips every slot and the presentation that follows it; a chain has one such link, since the
carrier leaves the audit list at the measurement. -/
def State.openAt (k w c : Nat) : Nat → State → State
  | 0, s => s
  | fuel + 1, s =>
    let s1 := s.fillPresentation k w c
    if (s1.window w).queuesEmpty then s1.endPresentation k w c (openAt k w c fuel) else s1

/-- Fuel of `openAt`. -/
def openFuel : Nat := 4

/-- A presentation of the standing carrier opens at window `w` if the window is not in use and the carrier has work (R89). -/
def State.openWindow (k w : Nat) (s : State) : State :=
  match s.carousel? k with
  | some r =>
    if (s.window w).inUse || !s.hasWork k (s.standing r w) then s else s.openAt k w (s.standing r w) openFuel
  | none => s

/-- Presentations open at each window of the carousel whose standing carrier has work (R89), by rising window number
(notes/assumptions/37). -/
def State.openStanding (k : Nat) (s : State) : State := (s.windowsOf k).foldl (fun s w => s.openWindow k w) s

/-- Any window of the carousel is in use (R89). -/
def State.anyInUse (s : State) (k : Nat) : Bool := (s.windowsOf k).any fun w => (s.window w).inUse

/-! ### Acting on the next target (R84, R87, R88) -/

/-- State of a carousel. -/
def State.carouselState (s : State) (k : Nat) : Option CarouselState := (s.carousel? k).map (·.state)

/-- Carousel `k` takes a state. -/
def State.become (k : Nat) (st : CarouselState) (s : State) : State := s.onCarousel k fun r => { r with state := st }

/-- Raises the passed-over count of every carrier with work of the chosen carrier's class, other than the chosen one (R84). -/
def State.raisePassed (k chosen cls : Nat) (s : State) : State :=
  s.onCarousel k fun r =>
    { r with passed := (List.range r.passed.length).map fun c =>
        if c ≠ chosen ∧ s.carrierClass k c = some cls then countUp 7 (r.passed.getD c 0) else r.passed.getD c 0 }

/-- Length of a move of `steps` steps: now + steps × step time (× 2 at CREEP) + 2000 ms (R87). -/
def moveTime (stepTime steps : Nat) : Speed → Nat
  | .normal => steps * stepTime + Config.deadlineMargin
  | .creep => steps * stepTime * 2 + Config.deadlineMargin

/-- Sends a MOVE for carrier `c` by a plan (R37, R87): the speed is asked of the balance unit, the deadline set, and the
carousel becomes MOVING. -/
def State.sendMove (k c : Nat) (plan : Plan) (s : State) : State :=
  match s.carousel? k with
  | some r =>
    let speed := r.figures.speed
    (s.setCarousel k
      { r with state := .moving, restart := none,
               move := some { carrier := c, plan := plan, speed := some speed,
                              deadline := some (s.now + ms (moveTime r.stepTime plan.steps speed)) } }).handOver k
      (.move plan.targetP plan.direction speed)
  | none => s

/-- Fills the move record and suspends the carousel without sending a MOVE (R88, outcome 3). -/
def State.suspendMove (k c : Nat) (plan : Plan) (s : State) : State :=
  s.onCarousel k fun r =>
    { r with state := .suspended, restart := none,
             move := some { carrier := c, plan := plan, speed := none, deadline := none } }

/-- The guard of any window of the carousel is OPEN (R88). -/
def State.anyGuardOpen (s : State) (k : Nat) : Bool := (s.windowsOf k).any fun w => decide ((s.window w).guard = .opened)

/-- One act of an IDLE carousel on its next target (R88). The flag says that the act opened presentations and none is left
open, so that the carousel is to become IDLE and act again. -/
def State.actOnce (k : Nat) (s : State) : State × Bool :=
  match s.nextTarget k with
  | none => (s, false)
  | some (c, cls, plan) =>
    if plan.steps = 0 then
      let s1 := ((s.raisePassed k c cls).become k .presenting).openStanding k
      (s1, !s1.anyInUse k)
    else if s.mode = .hold then (s, false)
    else if s.anyGuardOpen k then ((s.raisePassed k c cls).suspendMove k c plan, false)
    else ((s.raisePassed k c cls).sendMove k c plan, false)

/-- An IDLE carousel acts until it has left IDLE or has nothing to act on (R88). The fuel bounds the acts that open and end
presentations in one event; each takes a carrier off the audit list. -/
def State.act (k : Nat) : Nat → State → State
  | 0, s => s
  | fuel + 1, s =>
    if s.carouselState k = some .idle then
      match s.actOnce k with
      | (s1, true) => act k fuel (s1.become k .idle)
      | (s1, false) => s1
    else s

/-- Fuel of `act`: at most 48 carriers, and the act after the last of them. -/
def actFuel : Nat := 50

/-- The carousel becomes IDLE and acts (R88). -/
def State.idleAndAct (k : Nat) (s : State) : State := (s.become k .idle).act k actFuel

/-- The dispatcher's test of a PRESENTING carousel's windows: with none in use it becomes IDLE and acts (R100). -/
def State.testWindows (k : Nat) (s : State) : State :=
  if s.carouselState k = some .presenting ∧ s.anyInUse k = false then s.idleAndAct k else s

/-- The next target has been recomputed: an IDLE carousel acts at once (R85, R88). -/
def State.recompute (k : Nat) (s : State) : State := s.act k actFuel

/-- The next target needs no move: its carrier stands at the chosen window (R88, outcome 1). -/
def State.nextStands (s : State) (k : Nat) : Bool :=
  match s.nextTarget k with
  | some (_, _, plan) => plan.steps == 0
  | none => false

/-- Presentations open for those of the carriers `cs` that stand at a window not in use, having gained work while the carousel is
PRESENTING, IDLE or HELD (R89), by rising window number (notes/assumptions/37). -/
def State.openGained (k : Nat) (cs : List Nat) (s : State) : State :=
  (s.windowsOf k).foldl (fun s w =>
    match s.carousel? k with
    | some r => if r.state.opensPresentations && cs.contains (s.standing r w) then s.openWindow k w else s
    | none => s) s

/-- The carriers `cs` have gained work in one event (R85, R88, R89, R148): an IDLE carousel acts first on a next target that stands
at its window; then a presentation opens for each of the carriers that stands at a window not in use; and a carousel that is
still or again IDLE acts (notes/assumptions/10). -/
def State.gainWork (k : Nat) (cs : List Nat) (s : State) : State :=
  (((if s.nextStands k then s.recompute k else s).openGained k cs).testWindows k).recompute k

/-! ### The end of presentations at the close of an event (R114, R100) -/

/-- The presentation of a window ends if every queue of it is empty, and the dispatcher tests the carousel's windows. -/
def State.testEnd (s : State) (w : Nat) : State :=
  match (s.window w).presentation, s.carouselOf w with
  | some p, some k =>
    if (s.window w).queuesEmpty then (s.endPresentation k w p.carrier (State.openAt k w p.carrier openFuel)).testWindows k else s
  | _, _ => s

/-- The end test of R114 at every window, by rising number: the order in which several presentations end in one event is the
model's choice (R100, R114; notes/assumptions/37). -/
def State.testEnds (s : State) : State := (List.range 8).foldl State.testEnd s

/-! ### Ends of moves and stops (R91, R98, R99, R104) -/

/-- The carousel stands at position `p` and its move record is gone (R91, R98). -/
def State.standAt (k p : Nat) (s : State) : State :=
  s.onCarousel k fun r => { r with p := p, move := none, restart := none }

/-- A park (R91): presentations open at the standing carriers, and with no window in use the carousel becomes IDLE and acts. -/
def State.park (k p : Nat) (s : State) : State :=
  (((s.standAt k p).become k .presenting).openStanding k).testWindows k

/-- The outcome of RESUME for a HELD carousel (R99). -/
def State.resumeHeld (k : Nat) (s : State) : State :=
  if s.anyInUse k then s.become k .presenting else s.idleAndAct k

/-- The carousel becomes HELD, and presentations open at the standing carriers (R98, R89). -/
def State.enterHeld (k : Nat) (s : State) : State := (s.become k .held).openStanding k

/-- The end of a stop (R98): HELD in HOLD mode, the outcome of RESUME in RUN mode. -/
def State.endStop (k p : Nat) (s : State) : State :=
  if s.mode = .hold then (s.standAt k p).enterHeld k else (s.standAt k p).resumeHeld k

/-- Entry into FAULT (R104): the timers are cancelled, the move record is removed, and MOVE_FAULT is queued. -/
def State.enterFault (k : Nat) (reason : MoveFaultReason) (s : State) : State :=
  match s.carousel? k with
  | some r =>
    (s.setCarousel k { r with state := .fault, move := none, restart := none }).notify
      (.moveFault k reason r.p (r.move.map (·.carrier)) (r.move.map (·.plan.targetP)))
  | none => s

/-- HALT and the stop deadline of a carousel that HOLD stops (R97). -/
def State.beginStop (k : Nat) (s : State) : State :=
  (s.onCarousel k fun r =>
    { r with state := .stopping, restart := none,
             move := r.move.map fun m =>
               { m with deadline := some (s.now + ms (2 * r.stepTime + Config.deadlineMargin)) } }).handOver k .halt

/-! ### Position queries (R102, R106) -/

/-- Sends POSITION with a purpose (R102, R105). -/
def State.sendPosition (k : Nat) (purpose : Purpose) (s : State) : State :=
  (s.onCarousel k fun r => { r with query := some purpose }).handOver k (.position true)

/-- A position query in flight is abandoned: a reply to its POSITION is ignored when it comes (R101, R102, R106). -/
def State.abandonQuery (k : Nat) (s : State) : State :=
  (s.onCarousel k fun r => { r with query := none }).onLink k Link.abandonQuery

/-- An OFFLINE carousel whose link is LOCKED and that has no query in flight sends POSITION, in RUN and HOLD mode (R102, R106). -/
def State.learnPosition (k : Nat) (s : State) : State :=
  match s.carousel? k with
  | some r =>
    if s.mode ≠ .config ∧ r.state = .offline ∧ r.query = none ∧ s.locked k = true then
      s.sendPosition k (if r.known then .return else .start)
    else s
  | none => s

/-! ### Interruption of a measurement and loss of a link (R160, R101) -/

/-- A carrier joins its carousel's audit list; a carrier already in it leaves the list as it was (R83). -/
def State.joinAudit (k c : Nat) (s : State) : State :=
  s.onCarousel k fun r => if r.auditList.contains c then r else { r with auditList := r.auditList ++ [c] }

/-- The measurement or tare count at window `w` is interrupted (R160, R164). -/
def State.interrupt (k w : Nat) (s : State) : State :=
  match (s.window w).measurement with
  | some m =>
    match m.purpose with
    | .measure =>
      let a : SlotAddr := ⟨k, m.carrier, m.position⟩
      let slot := (s.slot? a).getD Slot.freeSlot
      ((s.notify (s.uncounted w a slot .interrupted)).joinAudit k m.carrier).dropMeasurement w
    | .tare => (s.notify (.tared w m.position m.carrier none)).dropMeasurement w
  | none => s

/-- The motion controller learns that the carousel's link has left LOCKED (R101). The open measurements are interrupted by rising
window number (R160; notes/assumptions/36). -/
def State.carouselLinkLost (k : Nat) (s : State) : State :=
  match s.carouselState k with
  | some .moving => s.enterFault k .link
  | some .stopping => s.enterFault k .link
  | some .suspended => s.enterFault k .link
  | some .idle =>
    (s.windowsOf k).foldl (fun s w => s.interrupt k w)
      (s.onCarousel k fun r => { r with state := .offline, resume := some .idle })
  | some .presenting =>
    (s.windowsOf k).foldl (fun s w => s.interrupt k w)
      (s.onCarousel k fun r => { r with state := .offline, resume := some .presenting })
  | some .held =>
    (s.windowsOf k).foldl (fun s w => s.interrupt k w)
      (s.onCarousel k fun r => { r with state := .offline, resume := some .held })
  | some .offline => s.abandonQuery k
  | some .fault => s.abandonQuery k
  | none => s

end Sys2Proof.Machine
end

