-- ==== Sys2Proof/Machine/Operands.lean ====
section
/-! DEFINITION. The operand fields of requests: their ranges, the limits of a slot (R10), whether an article is in use (R2), and
the checks that several requests share (R17, R161). -/

namespace Sys2Proof.Machine

/-- `x` lies in the range `lo` to `hi`. -/
def inRange (lo hi x : Nat) : Bool := decide (lo ≤ x) && decide (x ≤ hi)

/-! ### Ranges (R1, R8, R36) -/

/-- The fields of SET_ARTICLE are in range (R3, check 1). -/
def Article.inRange (a : Article) : Bool :=
  Machine.inRange 1 4294967295 a.code && Machine.inRange 40 600 a.unitWeight && decide (a.sizeClass ≤ 3) &&
    Machine.inRange 1 8 a.stackLimit

/-- The geometry of SET_CAROUSEL is in range, and gives a width class and a slot stack limit for each position (R8). -/
def Geometry.inRange (g : Geometry) : Bool :=
  Machine.inRange 8 48 g.n && g.n % 2 == 0 && Machine.inRange 1 6 g.s && g.positions.length == g.s &&
    g.positions.all fun q => decide (q.1 ≤ 3) && Machine.inRange 1 8 q.2

/-- Width class of a slot position (R7). -/
def Geometry.widthClass (g : Geometry) (slot : Nat) : Nat := (g.positions.getD slot (0, 0)).1
/-- Slot stack limit of a slot position (R7). -/
def Geometry.stackLimit (g : Geometry) (slot : Nat) : Nat := (g.positions.getD slot (0, 0)).2

/-- The carousel number names a configured carousel. -/
def State.isConfigured (s : State) (k : Nat) : Bool := decide (k ≤ 3) && (s.carousel? k).isSome

/-! ### Limits of a slot (R10) -/

/-- Geometry of the carousel that an address names. -/
def State.geometryOf (s : State) (a : SlotAddr) : Geometry :=
  match s.carousel? a.carousel with
  | some c => c.geometry
  | none => { n := 0, s := 0, positions := [] }

/-- Base limit of a slot with an article (R10). -/
def State.baseLimit (s : State) (a : SlotAddr) (art : Article) : Nat :=
  min ((s.geometryOf a).stackLimit a.slot) art.stackLimit

/-- Base limit of a slot with the article it holds; 0 while it holds none. -/
def State.heldLimit (s : State) (a : SlotAddr) (slot : Slot) : Nat :=
  match slot.held with
  | some h => match s.articleAt h.place with
    | some art => s.baseLimit a art
    | none => 0
  | none => 0

/-- Effective limit: the base limit, or on-hand plus pending if that is larger (R10). -/
def State.effectiveLimit (s : State) (a : SlotAddr) (slot : Slot) : Nat :=
  max (s.heldLimit a slot) (slot.onHand + slot.pending)

/-- Room of a STOCKED slot: its effective limit − on-hand − pending (R10). -/
def State.room (s : State) (a : SlotAddr) (slot : Slot) : Nat := s.effectiveLimit a slot - slot.onHand - slot.pending

/-! ### Articles in use (R2) -/

/-- An article is in use while a slot, a line of a held order or a held task names its place (R2). -/
def State.inUse (s : State) (place : Nat) : Bool :=
  (s.carousels.any fun c? => match c? with
    | some c => c.slots.any fun slot => match slot.held with
      | some h => h.place == place
      | none => false
    | none => false) ||
  (s.orders.any fun o => o.lines.any fun l => l.place == place) ||
  s.tasks.any fun t => t.place == place

/-! ### Requests on slots (R17, R161) -/

/-- The field check of the requests that write a slot (R17, check 2). -/
def State.contentFields (s : State) (a : SlotAddr) (batch onHand : Nat) : Bool :=
  (s.slot? a).isSome && decide (batch ≤ 4095) && decide (onHand ≤ 8)

/-- The article and consistency checks of the requests that write a slot (R17, checks 5 and 6; R161, checks 5 and 6): the
result of the first that fails, or what the slot is to hold. That a number above 4294967295 gives NOT_FOUND is the model's choice
(notes/assumptions/48). -/
def State.contentChecks (s : State) (a : SlotAddr) (code batch onHand : Nat) : Except Result (Option Holding) :=
  if code = 0 then
    if 0 < onHand then .error .badField else .ok none
  else
    match s.articleOf code with
    | none => .error .notFound
    | some (place, art) =>
      if (s.geometryOf a).widthClass a.slot < art.sizeClass ∨ s.baseLimit a art < onHand then .error .badField
      else .ok (some { place := place, batch := batch })

/-- The contents a request gives a slot: with on-hand 0 the article and batch week become absent (R19, R21, R161). -/
def Slot.withContents (slot : Slot) (held : Option Holding) (onHand : Nat) : Slot :=
  { slot with held := if onHand = 0 then none else held, onHand := onHand }

/-- The carousel is MOVING, STOPPING or SUSPENDED (R18, R19, R161). -/
def CarouselState.inMotion : CarouselState → Bool
  | .moving => true
  | .stopping => true
  | .suspended => true
  | _ => false

/-- The carousel of an address is MOVING, STOPPING or SUSPENDED. -/
def State.inMotion (s : State) (k : Nat) : Bool :=
  match s.carousel? k with
  | some c => c.state.inMotion
  | none => false

end Sys2Proof.Machine
end

