-- ==== Sys2Proof/Machine/Allocate.lean ====
section
/-! DEFINITION. The two allocators and what undoes their work: put-away targets (03_put_away.md), picks and re-allocation
(04_orders_lines_and_pick_allocation.md), cancellation, quarantine entry and release (R15, R16), the end of tasks and orders,
and lane binding (R132). -/

namespace Sys2Proof.Machine

/-! ### Choosing and creating put-away targets (R44 to R47) -/

/-- A tier of candidates (R45): top-ups, or free slots of a width class; on the preferred carousel or on the others. -/
structure Tier where
  topUp : Bool
  width : Nat
  preferred : Bool
  deriving DecidableEq, Repr

/-- The ten tiers of R45 for an article of a size class. A width class above 3 does not exist and holds no candidate. -/
def tiers (sizeClass : Nat) : List Tier :=
  [⟨true, 0, true⟩, ⟨true, 0, false⟩] ++
    (List.range 4).flatMap fun d => [⟨false, sizeClass + d, true⟩, ⟨false, sizeClass + d, false⟩]

/-- A candidate: the W of the balance unit's answer, the slot and the quantity offered. -/
structure Candidate where
  w : Nat
  addr : SlotAddr
  quantity : Nat
  deriving DecidableEq, Repr

/-- The quantity a tier offers a slot of the task's article and batch (R45, R46); 0 for a slot that is no candidate of it. -/
def State.putOffer (s : State) (place batch : Nat) (art : Article) (preferred : Option Nat) (remaining : Nat) (t : Tier)
    (a : SlotAddr) (slot : Slot) : Nat :=
  if (preferred == some a.carousel) != t.preferred then 0
  else if t.topUp then
    if slot.state = .stocked ∧ slot.held = some ⟨place, batch⟩ then min (s.room a slot) remaining else 0
  else if slot.state = .free ∧ (s.geometryOf a).widthClass a.slot = t.width then min remaining (s.baseLimit a art)
  else 0

/-- The candidates of a tier whose proposals the balance unit grants (R46, R32), lowest slot address first. -/
def State.putCandidates (s : State) (place batch : Nat) (art : Article) (preferred : Option Nat) (remaining : Nat) (t : Tier) :
    List Candidate :=
  s.slotAddrs.filterMap fun a =>
    match s.slot? a, s.carousel? a.carousel with
    | some slot, some r =>
      let q := s.putOffer place batch art preferred remaining t a slot
      let w := r.figures.proposedW a.carrier fun l => l + q * art.unitWeight
      if 0 < q ∧ r.figures.grants w = true then some ⟨w, a, q⟩ else none
    | _, _ => none

/-- One choice of R44: from the first tier with a granted candidate, the one of smallest W, then lowest slot address. -/
def State.choosePut (s : State) (place batch : Nat) (art : Article) (preferred : Option Nat) (remaining : Nat) : Option Candidate :=
  (tiers art.sizeClass).findSome? fun t =>
    leastBy (fun a b => decide (a.w < b.w)) (s.putCandidates place batch art preferred remaining t)

/-- A slot that a target is placed in (R13). -/
def Slot.withTarget (slot : Slot) (place batch quantity : Nat) : Slot :=
  if slot.state = .free then
    { Slot.freeSlot with state := .stocked, held := some ⟨place, batch⟩, pending := quantity }
  else { slot with pending := slot.pending + quantity }

/-- Creates a target of a task (R47). -/
def State.createTarget (tag place batch : Nat) (c : Candidate) (s : State) : State :=
  let s1 := s.onTask tag fun t =>
    { t with targets := t.targets ++ [{ addr := c.addr, quantity := c.quantity, outcome := .opened }] }
  let s2 := s1.updateSlot c.addr fun slot => slot.withTarget place batch c.quantity
  (s2.gainWork c.addr.carousel [c.addr.carrier]).joinEntry c.addr (.put tag c.quantity)

/-- The choices of one PUTAWAY (R44): until nothing remains, the task has 8 targets, or no candidate is granted. -/
def State.allocatePut (tag place batch : Nat) (art : Article) (preferred : Option Nat) : Nat → Nat → State → State
  | 0, _, s => s
  | left + 1, remaining, s =>
    if remaining = 0 then s
    else
      match s.choosePut place batch art preferred remaining with
      | none => s
      | some c => (s.createTarget tag place batch c).allocatePut tag place batch art preferred left (remaining - c.quantity)

/-! ### Ends of targets and tasks (R53, R55) -/

/-- Tyres a target has stored. -/
def Target.stored (x : Target) : Nat :=
  match x.outcome with
  | .confirmed q => q
  | _ => 0

/-- Stored total of a task (R55). -/
def Task.storedTotal (t : Task) : Nat := total (t.targets.map Target.stored)

/-- A target is OPEN (R42). -/
def Target.isOpen (x : Target) : Bool := decide (x.outcome = .opened)

/-- Frees a task whose last OPEN target has ended, with its PUTAWAY_DONE notice (R55). -/
def State.endTask (tag : Nat) (s : State) : State :=
  match s.task? tag with
  | some t =>
    if t.targets.any Target.isOpen then s
    else
      { s with tasks := s.tasks.filter fun x => decide (x.tag ≠ tag) }.notify
        (.putawayDone tag (s.codeAt t.place) t.batch t.requested t.placed t.storedTotal (t.placed - t.storedTotal) t.targets)
  | none => s

/-- The target is the OPEN one on a slot. A task has at most one there (R44 to R46). -/
def Target.openOn (a : SlotAddr) (x : Target) : Bool := x.isOpen && x.addr == a

/-- The OPEN target of a task on a slot takes an outcome (R42). -/
def State.closeTarget (tag : Nat) (a : SlotAddr) (o : TargetOutcome) (s : State) : State :=
  s.onTask tag fun t => { t with targets := modifyAt (fun x => { x with outcome := o }) (t.targets.findIdx (Target.openOn a)) t.targets }

/-- Cancels an OPEN target (R53). A cancellation by the host frees a slot left with nothing (R14); one by a quarantine entry
does not (R54). The carousel reacts to the ended work before what follows (notes/assumptions/40). -/
def State.cancelTarget (tag : Nat) (x : Target) (cause : CancelCause) (s : State) : State :=
  let s1 := s.updateSlot x.addr fun slot =>
    let less := { slot with pending := slot.pending - x.quantity }
    match cause with
    | .host => less.settled
    | .quarantine => less
  let s2 := s1.closeTarget tag x.addr (.cancelled cause)
  (s2.removeEntry x.addr (.put tag x.quantity)).recompute x.addr.carousel

/-! ### Choosing and creating picks (R64 to R66) -/

/-- A candidate for a line with its batch week. -/
structure PickCandidate where
  batch : Nat
  w : Nat
  addr : SlotAddr
  quantity : Nat
  deriving DecidableEq, Repr

/-- The granted candidates for a line's unallocated quantity (R64), lowest slot address first. -/
def State.pickCandidates (s : State) (tag i : Nat) (l : Line) : List PickCandidate :=
  let u := s.unallocated tag i l
  let named := (s.linePicks tag i).map (·.addr)
  s.slotAddrs.filterMap fun a =>
    match s.slot? a, s.carousel? a.carousel with
    | some slot, some r =>
      match slot.held with
      | some h =>
        let q := min (slot.onHand - slot.reserved) u
        let w := r.figures.proposedW a.carrier fun load => load - q * s.weightAt h.place
        if slot.state = .stocked ∧ h.place = l.place ∧ 0 < slot.onHand - slot.reserved ∧ named.contains a = false ∧
            r.figures.grants w = true then some ⟨h.batch, w, a, q⟩ else none
      | none => none
    | _, _ => none

/-- The candidate a line takes: oldest batch, then smallest W, then lowest slot address (R64). -/
def State.choosePick (s : State) (tag i : Nat) (l : Line) : Option PickCandidate :=
  leastBy (fun a b => lexPair (a.batch, a.w) (b.batch, b.w)) (s.pickCandidates tag i l)

/-- Creates a pick for a line (R65). -/
def State.createPick (tag i : Nat) (c : PickCandidate) (s : State) : State :=
  let number := lowestFree (s.picks.map (·.number)) Config.pickPool 0
  let pick : Pick := { number := number, order := tag, line := i, addr := c.addr, quantity := c.quantity, presented := false,
                       seq := s.creations }
  let s1 := { s with picks := insertBy (fun x y => decide (x.number < y.number)) pick s.picks,
                     creations := countUp Config.lastCount s.creations }
  let s2 := s1.updateSlot c.addr fun slot => { slot with reserved := slot.reserved + c.quantity }
  let s3 := s2.onOrder tag fun o => o.onLine i fun l => { l with openPicks := l.openPicks + 1 }
  let s4 := s3.gainWork c.addr.carousel [c.addr.carrier]
  if s4.isPresented c.addr then
    (s4.onPick number fun p => { p with presented := true }).joinEntry c.addr (.pick number c.quantity)
  else s4

/-- Judges the short flag of a line at the stop of its allocation (R66). -/
def State.judgeShort (tag i : Nat) (cause : ShortCause) (s : State) : State :=
  match s.line? tag i with
  | some l =>
    let u := s.unallocated tag i l
    if u = 0 then s.onOrder tag fun o => o.onLine i fun l => { l with short := false }
    else if l.short then s
    else
      (s.onOrder tag fun o => o.onLine i fun l => { l with short := true }).notify
        (.lineShort tag i (s.codeAt l.place) l.requested l.picked (s.openQuantity tag i) u cause)
  | none => s

/-- Allocation of a line (R66). The fuel is above the 4 open picks at which it stops. -/
def State.allocateLine (tag i : Nat) : Nat → State → State
  | 0, s => s
  | fuel + 1, s =>
    match s.line? tag i with
    | some l =>
      if s.unallocated tag i l = 0 then s.judgeShort tag i .stock
      else if Config.picksPerLine ≤ l.openPicks then s.judgeShort tag i .picks
      else if Config.pickPool ≤ s.picks.length then s.judgeShort tag i .pool
      else
        match s.choosePick tag i l with
        | none => s.judgeShort tag i .stock
        | some c => (s.createPick tag i c).allocateLine tag i fuel
    | none => s

/-- Fuel of `allocateLine`. -/
def lineFuel : Nat := 6

/-- Allocation of every line of an order in line order (R63). -/
def State.allocateOrder (tag : Nat) (s : State) : State :=
  match s.order? tag with
  | some o => (List.range o.lines.length).foldl (fun s i => s.allocateLine tag i lineFuel) s
  | none => s

/-! ### Re-allocation (R67, R68) -/

/-- The lines an event reaches: by name, through their own picks; and the short lines of an article, in orders other than the
one closed or cancelled (R67). -/
structure Reach where
  lines : List (Nat × Nat)
  places : List Nat
  except : Option Nat
  deriving DecidableEq, Repr

/-- The set of lines reached in ACTIVE orders, by admission, then order tag, then line (R57, R67, R68). -/
def State.reached (s : State) (r : Reach) : List (Nat × Nat) :=
  let orders := sortBy (fun (a b : Order) => lexPair (a.admission.getD 0, a.tag) (b.admission.getD 0, b.tag))
    (s.orders.filter fun o => decide (o.state = .active))
  orders.flatMap fun o =>
    (List.range o.lines.length).filterMap fun i =>
      match o.lines[i]? with
      | some l =>
        if r.lines.contains (o.tag, i) || (r.places.contains l.place && l.short && r.except != some o.tag) then some (o.tag, i)
        else none
      | none => none

/-- Re-allocates the lines an event reaches, each to its stop before the next (R68). A reached line with nothing unallocated
has its short flag cleared (R67), which is what its allocation comes to. -/
def State.reallocate (r : Reach) (s : State) : State :=
  (s.reached r).foldl (fun s q => s.allocateLine q.1 q.2 lineFuel) s

/-! ### Cancelling picks, quarantine entry and release (R71, R15, R16) -/

/-- Cancels an open pick (R71). -/
def State.cancelPick (p : Pick) (s : State) : State :=
  let s1 := s.updateSlot p.addr fun slot => { slot with reserved := slot.reserved - p.quantity }
  let s2 := s1.removeEntry p.addr (.pick p.number p.quantity)
  let s3 := s2.onOrder p.order fun o => o.onLine p.line fun l => { l with openPicks := l.openPicks - 1 }
  { s3 with picks := s3.picks.filter fun x => decide (x.number ≠ p.number) }.recompute p.addr.carousel

/-- Picks in order of creation sequence number, then pick number (R57). -/
def bySeq (ps : List Pick) : List Pick := sortBy (fun a b => lexPair (a.seq, a.number) (b.seq, b.number)) ps

/-- The open picks that name a slot, in order of creation (notes/assumptions/12). -/
def State.slotPicks (s : State) (a : SlotAddr) : List Pick := bySeq (s.picks.filter fun p => p.addr == a)

/-- The OPEN targets that name a slot with the tags of their tasks, in order of task tag (notes/assumptions/12). -/
def State.slotTargets (s : State) (a : SlotAddr) : List (Nat × Target) :=
  sortBy (fun x y => decide (x.1 < y.1))
    (s.tasks.flatMap fun t => (t.targets.filter fun x => x.isOpen && x.addr == a).map fun x => (t.tag, x))

/-- Cancels every open pick and every OPEN target that names a slot, and frees the tasks that end by it (R15, R54). -/
def State.clearReservations (a : SlotAddr) (s : State) : State :=
  let s1 := (s.slotPicks a).foldl (fun s p => s.cancelPick p) s
  (s.slotTargets a).foldl (fun s q => (s.cancelTarget q.1 q.2 .quarantine).endTask q.1) s1

/-- Entry of a slot into QUARANTINE (R15): reservations are cancelled first, then the state, reason and measured load are set. -/
def State.quarantine (a : SlotAddr) (reason : Reason) (load : Option Nat) (s : State) : State :=
  (s.clearReservations a).updateSlot a fun slot =>
    { slot with state := .quarantine, reserved := 0, pending := 0, measured := load, reason := some reason }

/-- The lines of the open picks that name a slot: those a quarantine entry reaches (R67). -/
def State.slotLines (s : State) (a : SlotAddr) : List (Nat × Nat) := (s.slotPicks a).map fun p => (p.order, p.line)

/-- A slot returned to service: STOCKED with an on-hand above 0, else FREE with its article and batch week absent (R16, R20). -/
def Slot.restored (slot : Slot) : Slot :=
  if 0 < slot.onHand then { slot with state := .stocked, measured := none, reason := none } else Slot.freeSlot

/-- Re-allocation for a slot that became STOCKED by RESTORE_SLOT, RESOLVE_SLOT or a matching measurement (R12, R67). -/
def State.reallocateFor (held : Option Holding) (onHand : Nat) (s : State) : State :=
  match held with
  | some h => if 0 < onHand then s.reallocate { lines := [], places := [h.place], except := none } else s
  | none => s

/-! ### Lane binding (R131, R132) -/

/-- Numbers of the FREE lanes, rising. -/
def State.freeLanes (s : State) : List Nat :=
  (List.range 8).filter fun n => match s.lanes.getD n none with
    | some l => decide (l.state = .free)
    | none => false

/-- Capacity of a lane. -/
def State.capacity (s : State) (n : Nat) : Nat :=
  match s.lanes.getD n none with
  | some l => l.capacity
  | none => 0

/-- State of a configured lane. -/
def State.setLaneState (n : Nat) (st : LaneState) (s : State) : State :=
  { s with lanes := modifyAt (fun l => l.map fun l => { l with state := st }) n s.lanes }

/-- The FREE lane for a requested total: smallest capacity that fits, then lowest number (R132). -/
def State.laneFor (s : State) (requested : Nat) : Option Nat :=
  leastBy (fun a b => decide (s.capacity a < s.capacity b)) (s.freeLanes.filter fun n => decide (requested ≤ s.capacity n))

/-- The WAITING orders in the order of consideration: class 3 first, then oldest submission (R132). -/
def State.waiting (s : State) : List Order :=
  sortBy (fun (a b : Order) => decide (b.cls < a.cls)) (s.submission.filterMap s.order?)

/-- The order and the lane of the next binding (R132). -/
def State.nextBinding (s : State) : Option (Order × Nat) :=
  s.waiting.findSome? fun o => (s.laneFor o.requestedTotal).map fun n => (o, n)

/-- Queues an ORDER_STATE notice with the counts as they stand (R73). -/
def State.notifyOrder (tag : Nat) (occasion : Occasion) (s : State) : State :=
  match s.order? tag with
  | some o => s.notify (.orderState tag occasion o.lane o.requestedTotal o.pickedTotal o.deliveredTotal)
  | none => s

/-- Binds a lane to an order, which becomes ACTIVE and is allocated (R63, R132). -/
def State.bind (tag lane : Nat) (s : State) : State :=
  let s1 := s.setLaneState lane (.bound tag)
  let s2 := s1.onOrder tag fun o => { o with state := .active, lane := some lane, admission := some s.admissions }
  let s3 := { s2 with submission := s2.submission.filter fun t => decide (t ≠ tag),
                      admissions := countUp Config.lastCount s2.admissions }
  (s3.notifyOrder tag .active).allocateOrder tag

/-- A binding run (R132). The fuel is above the number of lanes, one of which each binding takes. -/
def State.bindingRun : Nat → State → State
  | 0, s => s
  | fuel + 1, s =>
    match s.nextBinding with
    | some (o, n) => (s.bind o.tag n).bindingRun fuel
    | none => s

/-- Fuel of `bindingRun`. -/
def bindFuel : Nat := 9

/-- The open picks of an order in the order R74 cancels them: line by line, by creation sequence number within a line. -/
def State.orderPicks (s : State) (tag : Nat) : List Pick :=
  sortBy (fun a b => lexTriple (a.line, a.seq, a.number) (b.line, b.seq, b.number)) (s.picks.filter fun p => p.order == tag)

/-- Cancels every open pick of an order (R74, R76). -/
def State.cancelOrderPicks (tag : Nat) (s : State) : State := (s.orderPicks tag).foldl (fun s p => s.cancelPick p) s

/-- Frees an order (R79): its order, line and pick records return to the pools. Its open picks have all ended before (R74 to R78);
one that had not would be cancelled here. Its lane, if it holds one, becomes FREE and lane binding runs. -/
def State.freeOrder (tag : Nat) (s : State) : State :=
  match s.order? tag with
  | some o =>
    let s0 := s.cancelOrderPicks tag
    let s1 := { s0 with orders := s0.orders.filter fun x => decide (x.tag ≠ tag),
                        submission := s0.submission.filter fun t => decide (t ≠ tag) }
    match o.lane with
    | some n => (s1.setLaneState n .free).bindingRun bindFuel
    | none => s1
  | none => s

/-- The articles whose reservations an order's picks hold: those CLOSE_ORDER and CANCEL_ORDER release (R67). -/
def State.orderPlaces (s : State) (tag : Nat) : List Nat :=
  (s.orderPicks tag).filterMap fun p => (s.line? tag p.line).map (·.place)

end Sys2Proof.Machine
end

