-- ==== Sys2Proof/Machine/Flags.lean ====
section
/-! DEFINITION. The three sticky flags (R190). NOTICE_LOST is set by `State.notify`, RX_OVERRUN by `State.arrive`
(Machine/Ops.lean); the flag BALANCE_OVER of a carousel is the balance unit's (Machine/Balance.lean), the short flag of a line
the pick allocator's (Machine/Allocate.lean). -/

namespace Sys2Proof.Machine

/-- Clears each named flag and keeps the others (R190). -/
def Flags.clear (noticeLost rxOverrun discrepancyFull : Bool) (f : Flags) : Flags :=
  { noticeLost := f.noticeLost && !noticeLost, rxOverrun := f.rxOverrun && !rxOverrun,
    discrepancyFull := f.discrepancyFull && !discrepancyFull }

/-- A measurement has found the discrepancy list full (R158). -/
def State.setDiscrepancyFull (s : State) : State := { s with flags := { s.flags with discrepancyFull := true } }

end Sys2Proof.Machine
end

