-- ==== Sys2Proof/Machine/MergeOps.lean ====
section
/-! DEFINITION. The merge arbiter's operations (07_order_consolidation.md, sections 7.4 and 7.5): grant, divert, deadline,
completion, stop, and the loss and return of the lane module's link. -/

namespace Sys2Proof.Machine

/-- Station number of the lane module (R168). -/
def laneModule : Nat := 4

/-- An item of a window waits while it is in the outfeed queue and is not the item of a transfer (R138). -/
def State.itemsWaiting (s : State) (w : Nat) : Nat :=
  match s.merge.transfer with
  | some t => if t.window = w then (s.window w).outfeed.length - 1 else (s.window w).outfeed.length
  | none => (s.window w).outfeed.length

/-- Rank of a window; a window that has none yet ranks lowest. -/
def State.rankOf (s : State) (w : Nat) : Nat := (s.window w).rank.getD 0

/-- The window a grant goes to: the highest rank among the configured windows with an item waiting (R138). -/
def State.grantWindow (s : State) : Option Nat :=
  leastBy (fun a b => decide (s.rankOf b < s.rankOf a)) (s.configuredWindows.filter fun w => decide (0 < s.itemsWaiting w))

/-- Sends DIVERT for the transfer record (R138, R142, R145). -/
def State.divert (t : Transfer) (s : State) : State := s.handOver laneModule (.divert t.number t.window t.item.lane)

/-- Time of a transfer deadline set now (R136, R138). -/
def State.transferDeadline (s : State) : Time := s.now + ms s.settings.transferTimeout

/-- Forms the transfer record of an item with the next transfer number, and sends DIVERT (R138, R145). -/
def State.startTransfer (w : Nat) (item : Item) (s : State) : State :=
  let t : Transfer := { number := s.merge.nextNumber, window := w, item := item, attempt := 1,
                        deadline := some s.transferDeadline, linkLost := false }
  { s with merge := { s.merge with transfer := some t, nextNumber := (s.merge.nextNumber + 1) % 256 } }.divert t

/-- Tests a grant and makes it when all its conditions hold (R138). -/
def State.testGrant (s : State) : State :=
  if s.merge.state = .running ∧ s.merge.transfer = none ∧ s.locked laneModule = true then
    match s.grantWindow with
    | some w =>
      match (s.window w).outfeed with
      | item :: _ => s.startTransfer w item
      | [] => s
    | none => s
  else s

/-- Stops the merge (R144): the deadline is cancelled, the state and cause set, and LANE_FAULT queued. -/
def State.stopMerge (cause : StopCause) (t : Transfer) (s : State) : State :=
  { s with merge := { s.merge with state := .stopped cause,
                                   transfer := some { t with deadline := none, linkLost := false } } }.notify
    (.laneFault cause t.number t.attempt t.window t.item)

/-- Expiry of the attempt in progress (R142, R146): another attempt, or at attempt 3 a merge stop with the given cause. -/
def State.expireAttempt (cause : StopCause) (t : Transfer) (s : State) : State :=
  if t.attempt < 3 then
    let t1 := { t with attempt := t.attempt + 1, deadline := some s.transferDeadline, linkLost := false }
    { s with merge := { s.merge with transfer := some t1 } }.divert t1
  else s.stopMerge cause t

/-- The rank of a window after a transfer from window `w`, whose rank was `r` (R137). -/
def rankAfter (w r v old : Nat) : Nat := if v = w then 0 else if old < r then old + 1 else old

/-- The ranks change at the completion of a transfer from window `w` (R137). -/
def State.changeRanks (w : Nat) (s : State) : State :=
  { s with windows := s.windows.mapIdx fun v win => { win with rank := win.rank.map (rankAfter w (s.rankOf w) v) } }

/-- The order table takes a delivered tyre (R72). -/
def State.deliver (item : Item) (s : State) : State :=
  let s1 := s.onOrder item.order fun o => o.onLine item.line fun l => { l with delivered := l.delivered + 1 }
  match s1.order? item.order with
  | some o =>
    if o.state = .active ∧ o.allDelivered = true then
      (s1.onOrder item.order fun o => { o with state := .assembled }).notifyOrder item.order .assembled
    else if o.state = .cancelled ∧ o.onTheWay = 0 then s1.notifyOrder item.order .drained
    else s1
  | none => s1

/-- Completes the transfer (R140). -/
def State.completeTransfer (t : Transfer) (s : State) : State :=
  let s1 := s.onWindow t.window fun v => { v with outfeed := v.outfeed.tail }
  let s2 := (s1.deliver t.item).onWindow t.window Window.releaseWaits
  let s3 := s2.changeRanks t.window
  { s3 with merge := { s3.merge with transfer := none } }.testGrant

/-- The merge arbiter learns that the lane module's link has left LOCKED (R146). -/
def State.mergeLinkLost (s : State) : State :=
  match s.merge.transfer with
  | some t =>
    if s.merge.state = .running then
      { s with merge := { s.merge with transfer := some { t with deadline := none, linkLost := true } } }
    else s
  | none => s

/-- The merge arbiter learns that the lane module's link has reached LOCKED (R146). -/
def State.mergeLinkRegained (s : State) : State :=
  match s.merge.transfer with
  | some t => if t.linkLost then s.expireAttempt .link t else s.testGrant
  | none => s.testGrant

end Sys2Proof.Machine
end

