-- ==== Sys2Proof/Machine/LinkOps.lean ====
section
/-! DEFINITION. Changes of link state and what they bring about (R169, R170), the end of bridged accesses (R175 to R177) and of
pattern tests (R182). -/

namespace Sys2Proof.Machine

/-! ### Bridged accesses -/

/-- Ends the bridged access in flight of a station: its result is the held reply, or a BRIDGE_RESULT notice (R175 to R177). -/
def State.endAccess (st : Nat) (result : AccessResult) (s : State) : State :=
  match (s.link st).access with
  | some a =>
    let s1 := s.onLink st fun l => { l with access := none }
    match a.ticket with
    | some t => s1.notify (.bridgeResult t st a.item a.dir result)
    | none => s1.endExchange (.access st) .ok (.access st a.item a.dir result)
  | none => s

/-! ### Link states -/

/-- The link takes a new state, with its LINK_STATE notice; a running link settle stops (R169). -/
def State.changeLink (st : Nat) (new : LinkState) (cause : LinkCause) (s : State) : State :=
  (s.onLink st fun l => { l with state := new, settle := none }).notify (.linkState st (s.link st).state new cause)

/-- The traffic of a link is discarded and its reply timer stops (R170). -/
def Link.clearTraffic (l : Link) : Link := { l with queue := [], outstanding := none }

/-- The command outstanding is the bridge's ACCESS. -/
def Link.accessOutstanding (l : Link) : Bool :=
  match l.outstanding with
  | some o => match o.command with
    | .access _ _ _ => true
    | _ => false
  | none => false

/-- The blocks that depend on a link are told that it left LOCKED (R170). -/
def State.tellLost (st : Nat) (s : State) : State := if st = laneModule then s.mergeLinkLost else s.carouselLinkLost st

/-- The link leaves LOCKED (R169, R170): its state changes with the notice, its traffic is cleared, a bridged access in flight
ends, and the blocks are told. -/
def State.leaveLocked (st : Nat) (new : LinkState) (cause : LinkCause) (access : AccessResult) (s : State) : State :=
  (((s.changeLink st new cause).onLink st Link.clearTraffic).endAccess st access).tellLost st

/-- The blocks that depend on a link are told that it reached LOCKED (R170). -/
def State.tellLocked (st : Nat) (s : State) : State := if st = laneModule then s.mergeLinkRegained else s.learnPosition st

/-! ### Pattern tests -/

/-- The test record of a station changed by `f`. -/
def State.onTest (st : Nat) (f : TestRecord → TestRecord) (s : State) : State :=
  s.onLink st fun l => { l with test := l.test.map f }

/-- The test record as replies report it (R183): an OUTBOUND test has no error count while its result is PENDING (R181). -/
def TestRecord.report (t : TestRecord) : TestReport :=
  { dir := t.dir, latch := t.latch, result := t.result,
    errors := if t.dir = .outbound ∧ t.result = .pending then none else some t.errors,
    starting := t.starting, unanswered := t.unanswered, aborted := t.aborted }

/-- Report of a station's test record. -/
def State.testReport (s : State) (st : Nat) : Option TestReport := (s.link st).test.map TestRecord.report

/-- The pattern no longer runs, and the test record stays as it ended (R182): a LIVE result keeps its value. -/
def TestRecord.halt (t : TestRecord) : TestRecord := { t with running := false, failUntil := none, wordExpiry := none }

/-- The test ends: the link becomes TRAINING with cause TEST_END, and its command is no longer outstanding (R182). -/
def State.endTest (st : Nat) (f : TestRecord → TestRecord) (s : State) : State :=
  ((s.onTest st fun t => f t.halt).onLink st Link.clearTraffic).changeLink st .training .testEnd

/-- What the reply of LINK_TEST_STOP carries of a test record (R182). -/
def TestRecord.outcome (station : Nat) (t : TestRecord) : TestOutcome :=
  { station := station, dir := t.report.dir, latch := t.report.latch, result := t.report.result, errors := t.report.errors }

/-- The reply of LINK_TEST_STOP (R182). -/
def State.replyTestStop (st : Nat) (s : State) : State :=
  s.endExchange (.testStop st) .ok (.linkTest ((s.link st).test.map (TestRecord.outcome st)))

/-- An OUTBOUND test that ends without the station's answer has the result NO_RESPONSE (R182). -/
def TestRecord.noAnswer (t : TestRecord) : TestRecord := if t.dir = .outbound then { t with result := .noResponse } else t

/-- Counts one error, saturating at 65535; the result follows the latch (R180). -/
def TestRecord.countError (now : Time) (t : TestRecord) : TestRecord :=
  { t with errors := countUp 65535 t.errors, result := .fail,
           failUntil := match t.latch with
             | .live => some (now + ms Config.testInterval)
             | .latched => none }

end Sys2Proof.Machine
end

