-- ==== Sys2Proof/Machine/Line.lean ====
section
/-! DEFINITION. Meanings of the commands of the host line and the operating modes (10_host_line_and_operating_modes.md): RESET,
FRAME_GAP_TIMEOUT, UNKNOWN_KIND, STATUS, CLEAR_FLAGS, START, STOP, HOLD, RESUME, RESTART; and the receiver byte by byte. The
events that take a waiting frame stand in Machine/Receive.lean. -/

namespace Sys2Proof.Machine

/-- The outcome of a command. -/
abbrev Outcome := Host.Outcome State Fault Refusal

/-- The close of an event (R82, R85, R117, R188): summaries, next targets and headers are brought up to date, and an idle
transmitter chooses. -/
def State.close (s : State) : State := s.refresh.transmit

/-! ### Reset (R196) -/

/-- A reset with the given strap levels: every block takes its value after reset. The presence lines are pins and keep their
levels; the commands that wait and the count of free values drawn are not the part's. -/
def State.performReset (straps : BitVec 2) (s : State) : State :=
  { State.afterReset straps (s.links.map (·.present)) with pending := s.pending, draws := s.draws }

/-- RESET (R196). -/
def execReset (straps : BitVec 2) (s : State) : Outcome := .next (s.performReset straps)

/-! ### The receiver (R185, R186) -/

/-- The start byte of a frame (section 10.2). -/
def startByte : Byte := 0xA5#8

/-- One bit of the CRC: generator polynomial 0x1021 (section 10.2). -/
def crcShift (crc : BitVec 16) : BitVec 16 := if crc.msb then (crc <<< 1) ^^^ 0x1021#16 else crc <<< 1

/-- One byte of the CRC, most significant bit first (section 10.2). -/
def crcByte (crc : BitVec 16) (b : Byte) : BitVec 16 :=
  crcShift (crcShift (crcShift (crcShift (crcShift (crcShift (crcShift (crcShift (crc ^^^ (b.setWidth 16 <<< 8)))))))))

/-- The CRC of a list of bytes: initial value 0xFFFF, no final inversion (section 10.2). -/
def crc16 (bytes : List Byte) : BitVec 16 := bytes.foldl crcByte 0xFFFF#16

/-- Byte `i` of a list as a number. -/
def byteAt (bytes : List Byte) (i : Nat) : Nat := (bytes.getD i 0#8).toNat

/-- The frame of a complete byte sequence, if it arrives: its CRC agrees with the one computed over bytes 1 to 4+n, its address
is the line address, and its kind is below 0x7F (R185). -/
def frameOf (address : Byte) (bytes : List Byte) : Option Frame :=
  let n := byteAt bytes 4
  let crc := crc16 ((bytes.drop 1).take (n + 4))
  if crc.toNat = byteAt bytes (5 + n) * 256 + byteAt bytes (6 + n) ∧ bytes.getD 1 0#8 = address ∧ byteAt bytes 2 < 127 then
    some { kind := byteAt bytes 2, tag := byteAt bytes 3, payload := .bytes ((bytes.drop 5).take n) }
  else none

/-- One byte in HUNTING (R185). -/
def huntByte (now : Time) (b : Byte) : Receiver := if b = startByte then .inFrame [b] now else .hunting

/-- One byte received (R185): the receiver's next state, and the frame that arrives with it. -/
def receiveByte (address : Byte) (now : Time) (r : Receiver) (b : Byte) : Receiver × Option Frame :=
  match r with
  | .hunting => (huntByte now b, none)
  | .inFrame bytes last =>
    if Config.byteGap < (now - last).toNat then (huntByte now b, none)
    else
      let all := bytes ++ [b]
      if all.length < 5 then (.inFrame all now, none)
      else if Config.maxPayload < byteAt all 4 then (.hunting, none)
      else if all.length < byteAt all 4 + 7 then (.inFrame all now, none)
      else (.hunting, frameOf address all)

/-- FRAME_GAP_TIMEOUT (R185): the bytes gathered are dropped. In HUNTING no frame is begun and nothing is dropped. -/
def execFrameGapTimeout (s : State) : Outcome :=
  match s.line.receiver with
  | .inFrame _ last =>
    let s1 := s.reachTime (last + ms (Config.byteGap + 1))
    .next { s1 with line := { s1.line with receiver := .hunting } }
  | .hunting => .next s

/-! ### Requests without an owning block (R187) -/

/-- The request kinds of section 10.4. -/
def requestKinds : List Nat :=
  [0x01, 0x02, 0x03, 0x04, 0x05, 0x06, 0x07, 0x10, 0x11, 0x12, 0x18, 0x19, 0x1A, 0x1B, 0x1C, 0x1D, 0x20, 0x21, 0x22, 0x23,
   0x24, 0x28, 0x29, 0x2A, 0x30, 0x31, 0x32, 0x33, 0x34, 0x38, 0x39, 0x3A, 0x40, 0x41, 0x42, 0x43, 0x48, 0x49, 0x4A, 0x4B,
   0x4C, 0x4D, 0x4E, 0x4F, 0x50, 0x51, 0x52, 0x53]

/-- A taken frame that reaches no owning rule (R187, cases 2 and 3): a kind that names no request gives UNKNOWN_KIND, and a payload
that does not fit a known kind BAD_FIELD. -/
def unknownKind (kind : Nat) (s : State) : Answer :=
  s.refuse (if requestKinds.contains kind then .badField else .unknownKind)

/-- UNKNOWN_KIND (R187): tag 0 gives BAD_FIELD (in `State.handle`), a kind that names no request UNKNOWN_KIND, and a payload
that does not fit a known kind BAD_FIELD. -/
def execUnknownKind (kind tag : Nat) (s : State) : Outcome :=
  .next (s.request kind tag (.unknownKind kind tag) (unknownKind kind))

/-! ### STATUS and CLEAR_FLAGS (R190, R191) -/

/-- What STATUS reports (R191, with B of R36). -/
def State.statusReport (s : State) : StatusReport :=
  { mode := s.mode, address := s.line.address, flags := s.flags, merge := s.merge.state,
    carousels := s.carousels.map fun c? => c?.map fun c =>
      { state := c.state, p := c.p, limit := c.figures.limit, overLimit := c.figures.overLimit,
        committedW := c.figures.committedW, onHandW := c.figures.onHandW },
    links := s.links.map (·.state), articles := s.articles.length, tasks := s.tasks.length, orders := s.orders.length,
    lines := total (s.orders.map fun o => o.lines.length), picks := s.picks.length,
    discrepancies := s.discrepancies.length, notices := s.line.notices.length,
    lanes := (s.lanes.filter Option.isSome).length, freeLanes := s.freeLanes.length,
    putawayClass := s.settings.putawayClass, bridgeMode := s.settings.bridgeMode }

/-- STATUS as its owner handles it (R191). -/
def status (s : State) : Answer :=
  .reply s .ok (.status s.statusReport)

/-- STATUS (R191). -/
def execStatus (tag : Nat) (s : State) : Outcome :=
  .next (s.request 0x01 tag (.status tag) status)

/-- CLEAR_FLAGS as its owner handles it (R190). -/
def clearFlags (noticeLost rxOverrun discrepancyFull : Bool) (s : State) : Answer :=
  let flags := s.flags.clear noticeLost rxOverrun discrepancyFull
  .reply { s with flags := flags } .ok (.flags flags)

/-- CLEAR_FLAGS (R190). -/
def execClearFlags (tag : Nat) (noticeLost rxOverrun discrepancyFull : Bool) (s : State) : Outcome :=
  .next (s.request 0x02 tag (.clearFlags tag noticeLost rxOverrun discrepancyFull) (clearFlags noticeLost rxOverrun discrepancyFull))

/-! ### Operating modes (R192 to R195) -/

/-- The check of one configured window by START (R193, check 2). -/
def State.windowCheck (s : State) (w : Nat) : Option StartCheck :=
  match s.carouselOf w with
  | some k =>
    match s.carousel? k with
    | none => some (.windowCarousel w)
    | some r =>
      if r.geometry.n ≤ s.loopPosition w then some (.windowPosition w)
      else if (s.windowsOf k).any fun v => decide (v < w) && s.loopPosition v == s.loopPosition w then some (.windowPair w)
      else none
  | none => none

/-- The first check of START that fails (R193). -/
def State.startCheck (s : State) : Option StartCheck :=
  match s.configuredCarousels.find? fun k => (s.windowsOf k).isEmpty with
  | some k => some (.carouselWindows k)
  | none =>
    match s.configuredWindows.findSome? s.windowCheck with
    | some c => some c
    | none =>
      if s.configuredWindows.isEmpty then some .noWindow
      else if s.lanes.all Option.isNone then some .noLane
      else none

/-- A configured window at START (R108, R135): rank its number, every key UP, every display record BLANK. -/
def Window.atStart (w : Nat) (v : Window) : Window :=
  if v.assigned.isSome then
    { v with rank := some w, keys := List.replicate Config.positions { minus := .up, confirm := .up }, presses := [],
             displays := blankDisplays, header := Header.blank }
  else v

/-- A carousel at START (R106): OFFLINE with resume state IDLE, position not known, passed-over counts 0. -/
def Carousel.atStart (r : Carousel) : Carousel :=
  { r with state := .offline, resume := some .idle, known := false, passed := r.passed.map fun _ => 0 }

/-- What START does when its checks pass (R193). -/
def State.start (s : State) : State :=
  let s1 := { s with mode := .run, merge := { s.merge with state := .running },
                     windows := s.windows.mapIdx Window.atStart }
  (List.range 4).foldl (fun s k => (s.onCarousel k Carousel.atStart).learnPosition k) s1

/-- START as its owner handles it (R193). -/
def start (s : State) : Answer :=
  if s.mode ≠ .config then s.refuse .wrongMode
  else
    match s.startCheck with
    | some c => .reply s .badConfig (.startCheck c)
    | none => .reply s.start.refresh .ok .none

/-- START (R193). -/
def execStart (tag : Nat) (s : State) : Outcome :=
  .next (s.request 0x03 tag (.start tag) start)

/-- The configured carousels in a state other than IDLE and OFFLINE (R194, check 3). -/
def State.busyCarousels (s : State) : List Nat :=
  s.configuredCarousels.filter fun k => s.carouselState k != some .idle && s.carouselState k != some .offline

/-- The first cause for which STOP is refused (R194). That the lowest-numbered of several busy carousels is named is the model's
choice (notes/assumptions/46). -/
def State.stopRefusal (s : State) : Option StopRefusal :=
  if s.orders ≠ [] then some .orders
  else if s.tasks ≠ [] then some .tasks
  else s.busyCarousels.head?.map StopRefusal.carousel

/-- What STOP does when its checks pass (R194, R106). -/
def State.stop (s : State) : State :=
  (List.range 4).foldl (fun s k =>
    match s.carousel? k with
    | some _ => (s.abandonQuery k).onCarousel k fun r => { r with state := .offline, resume := some .idle, known := false }
    | none => s) { s with mode := .config }

/-- STOP as its owner handles it (R194). -/
def stop (s : State) : Answer :=
  if s.mode = .config then s.refuse .wrongMode
  else
    match s.stopRefusal with
    | some c => .reply s .busy (.stopCause c)
    | none => .reply s.stop.refresh .ok .none

/-- STOP (R194). -/
def execStop (tag : Nat) (s : State) : Outcome :=
  .next (s.request 0x04 tag (.stop tag) stop)

/-- The reaction of a carousel to HOLD (R97). -/
def State.holdCarousel (s : State) (k : Nat) : State :=
  match s.carouselState k with
  | some .moving => s.beginStop k
  | some .suspended => s.beginStop k
  | _ => s

/-- HOLD as its owner handles it (R195). -/
def hold (s : State) : Answer :=
  if s.mode ≠ .run then s.refuse .wrongMode
  else .reply ((List.range 4).foldl State.holdCarousel { s with mode := .hold }).refresh .ok .none

/-- HOLD (R195). -/
def execHold (tag : Nat) (s : State) : Outcome :=
  .next (s.request 0x05 tag (.hold tag) hold)

/-- The reaction of a carousel to RESUME (R99). -/
def State.resumeCarousel (s : State) (k : Nat) : State :=
  match s.carouselState k with
  | some .held => s.resumeHeld k
  | some .idle => s.recompute k
  | _ => s

/-- RESUME as its owner handles it (R195). The carousels react in order of number (notes/assumptions/39). -/
def resume (s : State) : Answer :=
  if s.mode ≠ .hold then s.refuse .wrongMode
  else .reply ((List.range 4).foldl State.resumeCarousel { s with mode := .run }).refresh .ok .none

/-- RESUME (R195). -/
def execResume (tag : Nat) (s : State) : Outcome :=
  .next (s.request 0x06 tag (.resume tag) resume)

/-- Kind code of RESTART (section 10.4). -/
def restartKind : Nat := 7

/-- RESTART as its owner handles it (R196): the reply is OK, and the part resets when it has been sent (`execTransmitDone`). -/
def restart (s : State) : Answer :=
  .reply s .ok .none

/-- RESTART (R196): the reply is OK, and the part resets when it has been sent (`execTransmitDone`). -/
def execRestart (tag : Nat) (s : State) : Outcome :=
  .next (s.request restartKind tag (.restart tag) restart)

end Sys2Proof.Machine
end

