-- ==== Sys2Proof/Machine/Articles.lean ====
section
/-! DEFINITION. Meanings of the requests on the article table (01_articles_and_the_slot_directory.md, section 1.1). -/

namespace Sys2Proof.Machine

/-- The lowest-numbered free place of the article table (R3). -/
def State.freePlace (s : State) : Nat := lowestFree (s.articles.map Prod.fst) Config.articlePlaces 0

/-- Places a new record (R3, check 4): the table stays in order of place. -/
def State.addArticle (a : Article) (s : State) : State :=
  { s with articles := insertBy (fun x y => decide (x.1 < y.1)) (s.freePlace, a) s.articles }

/-- Rewrites the record at a place (R4). -/
def State.rewriteArticle (place : Nat) (a : Article) (s : State) : State :=
  { s with articles := s.articles.map fun q => if q.1 = place then (place, a) else q }

/-- SET_ARTICLE as its owner handles it (R3, R4). -/
def setArticle (a : Article) (s : State) : Answer :=
  if !a.inRange then s.refuse .badField
  else
    match s.articleOf a.code with
    | some (place, old) =>
      if s.inUse place = true ∧ (a.unitWeight ≠ old.unitWeight ∨ a.sizeClass ≠ old.sizeClass) then s.refuse .inUse
      else .reply (s.rewriteArticle place a) .ok (.article a)
    | none =>
      if Config.articlePlaces ≤ s.articles.length then s.refuse .noSpace
      else .reply (s.addArticle a) .ok (.article a)

/-- SET_ARTICLE (R3, R4). -/
def execSetArticle (tag code unitWeight sizeClass stackLimit : Nat) (s : State) : Outcome :=
  .next (s.request 0x10 tag (.setArticle tag code unitWeight sizeClass stackLimit)
    (setArticle { code := code, unitWeight := unitWeight, sizeClass := sizeClass, stackLimit := stackLimit }))

/-- DELETE_ARTICLE as its owner handles it (R5). That a number above 4294967295 gives NOT_FOUND is the model's choice
(notes/assumptions/48). -/
def deleteArticle (code : Nat) (s : State) : Answer :=
  if code = 0 then s.refuse .badField
  else
    match s.articleOf code with
    | none => s.refuse .notFound
    | some (place, _) =>
      if s.inUse place then s.refuse .inUse
      else .reply { s with articles := s.articles.filter fun q => decide (q.1 ≠ place) } .ok .none

/-- DELETE_ARTICLE (R5). -/
def execDeleteArticle (tag code : Nat) (s : State) : Outcome :=
  .next (s.request 0x11 tag (.deleteArticle tag code) (deleteArticle code))

/-- GET_ARTICLE as its owner handles it (R6). That a number above 4294967295 gives NOT_FOUND is the model's choice
(notes/assumptions/48). -/
def getArticle (code : Nat) (s : State) : Answer :=
  if code = 0 then s.refuse .badField
  else
    match s.articleOf code with
    | none => s.refuse .notFound
    | some (place, a) => .reply s .ok (.articleUse a (s.inUse place))

/-- GET_ARTICLE (R6). -/
def execGetArticle (tag code : Nat) (s : State) : Outcome :=
  .next (s.request 0x12 tag (.getArticle tag code) (getArticle code))

end Sys2Proof.Machine
end

