-- ==== Sys2Proof/Machine/Slots.lean ====
section
/-! DEFINITION. Meanings of the slot maintenance requests (01_articles_and_the_slot_directory.md, section 1.5) and of RESOLVE_SLOT
(08_stock_audit.md, section 8.7). -/

namespace Sys2Proof.Machine

/-- LOAD_SLOT accepts a FREE or STOCKED slot (R21), and WITHDRAW too (R18). -/
def SlotState.inService : SlotState → Bool
  | .free => true
  | .stocked => true
  | _ => false

/-- What LOAD_SLOT leaves in a slot (R21). -/
def Slot.loaded (held : Option Holding) (onHand : Nat) : Slot :=
  if onHand = 0 then Slot.freeSlot else { Slot.freeSlot with state := .stocked, held := held, onHand := onHand }

/-- LOAD_SLOT as its owner handles it (R17, R21). -/
def loadSlot (addr : SlotAddr) (code batch onHand : Nat) (s : State) : Answer :=
  if s.mode ≠ .config then s.refuse .wrongMode
  else if !s.contentFields addr batch onHand then s.refuse .badField
  else
    match s.slot? addr with
    | none => s.refuse .badField
    | some slot =>
      if !slot.state.inService then s.refuse .wrongState
      else
        match s.contentChecks addr code batch onHand with
        | .error r => s.refuse r
        | .ok held => .reply (s.writeSlot addr (Slot.loaded held onHand)).refresh .ok .none

/-- LOAD_SLOT (R17, R21). -/
def execLoadSlot (tag : Nat) (addr : SlotAddr) (code batch onHand : Nat) (s : State) : Outcome :=
  .next (s.request 0x1D tag (.loadSlot tag addr code batch onHand) (loadSlot addr code batch onHand))

/-- The carrier of a slot stands at a window with an open presentation, or is under measurement there (R18). -/
def State.carrierEngaged (s : State) (a : SlotAddr) : Bool :=
  (s.windowsOf a.carousel).any fun w =>
    (match (s.window w).presentation with
      | some p => p.carrier == a.carrier
      | none => false) ||
    match (s.window w).measurement with
      | some m => decide (m.purpose = .measure) && m.carrier == a.carrier
      | none => false

/-- WITHDRAW as its owner handles it (R17, R18). -/
def withdraw (addr : SlotAddr) (s : State) : Answer :=
  if s.mode = .config then s.refuse .wrongMode
  else
    match s.slot? addr with
    | none => s.refuse .badField
    | some slot =>
      if !slot.state.inService then s.refuse .wrongState
      else if 0 < slot.reserved ∨ 0 < slot.pending ∨ s.carrierEngaged addr = true ∨ s.inMotion addr.carousel = true then
        s.refuse .busy
      else .reply (s.writeSlot addr { slot with state := .withdrawn }) .ok .none

/-- WITHDRAW (R17, R18). -/
def execWithdraw (tag : Nat) (addr : SlotAddr) (s : State) : Outcome :=
  .next (s.request 0x20 tag (.withdraw tag addr) (withdraw addr))

/-- EDIT_SLOT as its owner handles it (R17, R19). -/
def editSlot (addr : SlotAddr) (code batch onHand : Nat) (s : State) : Answer :=
  if s.mode = .config then s.refuse .wrongMode
  else if !s.contentFields addr batch onHand then s.refuse .badField
  else
    match s.slot? addr with
    | none => s.refuse .badField
    | some slot =>
      if slot.state ≠ .withdrawn then s.refuse .wrongState
      else if s.inMotion addr.carousel then s.refuse .busy
      else
        match s.contentChecks addr code batch onHand with
        | .error r => s.refuse r
        | .ok held => .reply (s.writeSlot addr (slot.withContents held onHand)) .ok .none

/-- EDIT_SLOT (R17, R19). -/
def execEditSlot (tag : Nat) (addr : SlotAddr) (code batch onHand : Nat) (s : State) : Outcome :=
  .next (s.request 0x21 tag (.editSlot tag addr code batch onHand) (editSlot addr code batch onHand))

/-- RESTORE_SLOT as its owner handles it (R17, R20). -/
def restoreSlot (addr : SlotAddr) (s : State) : Answer :=
  if s.mode = .config then s.refuse .wrongMode
  else
    match s.slot? addr with
    | none => s.refuse .badField
    | some slot =>
      if slot.state ≠ .withdrawn then s.refuse .wrongState
      else .reply ((s.writeSlot addr slot.restored).reallocateFor slot.held slot.onHand).refresh .ok .none

/-- RESTORE_SLOT (R17, R20). -/
def execRestoreSlot (tag : Nat) (addr : SlotAddr) (s : State) : Outcome :=
  .next (s.request 0x22 tag (.restoreSlot tag addr) (restoreSlot addr))

/-- What GET_SLOT reports (R22). -/
def State.slotReport (s : State) (a : SlotAddr) (slot : Slot) : SlotReport :=
  { state := slot.state, widthClass := (s.geometryOf a).widthClass a.slot, stackLimit := (s.geometryOf a).stackLimit a.slot,
    onHand := slot.onHand, reserved := slot.reserved, pending := slot.pending,
    code := slot.held.map fun h => s.codeAt h.place, batch := slot.held.map (·.batch), measured := slot.measured,
    reason := slot.reason, baseLimit := slot.held.map fun _ => s.heldLimit a slot,
    effectiveLimit := slot.held.map fun _ => s.effectiveLimit a slot,
    room := if slot.state = .stocked then some (s.room a slot) else none }

/-- GET_SLOT as its owner handles it (R22). -/
def getSlot (addr : SlotAddr) (s : State) : Answer :=
  match s.slot? addr with
  | none => s.refuse .badField
  | some slot => .reply s .ok (.slot (s.slotReport addr slot))

/-- GET_SLOT (R22). -/
def execGetSlot (tag : Nat) (addr : SlotAddr) (s : State) : Outcome :=
  .next (s.request 0x23 tag (.getSlot tag addr) (getSlot addr))

/-- The slot is being counted: a measurement at a window holds its carrier and its position as the current one (R161). -/
def State.beingCounted (s : State) (a : SlotAddr) : Bool :=
  (s.windowsOf a.carousel).any fun w =>
    match (s.window w).measurement with
    | some m => decide (m.purpose = .measure) && m.carrier == a.carrier && m.position == a.slot
    | none => false

/-- The list names a slot. -/
def namesSlot (ds : List Discrepancy) (a : SlotAddr) : Bool := ds.any fun d => d.addr == a

/-- The discrepancy record of a slot is removed, and those after it close up (R158). -/
def State.removeDiscrepancy (a : SlotAddr) (s : State) : State :=
  { s with discrepancies := s.discrepancies.filter fun d => decide (d.addr ≠ a) }

/-- RESOLVE_SLOT as its owner handles it (R161, R16). -/
def resolveSlot (addr : SlotAddr) (code batch onHand : Nat) (s : State) : Answer :=
  if s.mode = .config then s.refuse .wrongMode
  else if !s.contentFields addr batch onHand then s.refuse .badField
  else
    match s.slot? addr with
    | none => s.refuse .badField
    | some slot =>
      if slot.state ≠ .quarantine then s.refuse .wrongState
      else if s.inMotion addr.carousel = true ∨ s.beingCounted addr = true then s.refuse .busy
      else
        match s.contentChecks addr code batch onHand with
        | .error r => s.refuse r
        | .ok held =>
          let new := (slot.withContents held onHand).restored
          .reply (((s.writeSlot addr new).removeDiscrepancy addr).reallocateFor held onHand).refresh .ok
            (.resolved addr new.state (namesSlot s.discrepancies addr))

/-- RESOLVE_SLOT (R161, R16). -/
def execResolveSlot (tag : Nat) (addr : SlotAddr) (code batch onHand : Nat) (s : State) : Outcome :=
  .next (s.request 0x49 tag (.resolveSlot tag addr code batch onHand) (resolveSlot addr code batch onHand))

end Sys2Proof.Machine
end

