-- ==== Sys2Proof/Machine/Carousels.lean ====
section
/-! DEFINITION. Meanings of the requests on a carousel, of the reports of its bay module and of its timers
(02_carousel_load_and_balance.md, 05_dispatch_and_carousel_motion.md). -/

namespace Sys2Proof.Machine

/-! ### SET_CAROUSEL (R8, R36, R81) -/

/-- The step time taken (R81): clamped to 500 to 5000; absent, 1500 the first time and the stored one afterwards. -/
def stepTimeTaken (stored : Option Nat) : Option Nat → Nat
  | some ms => clamp 500 5000 ms
  | none => stored.getD 1500

/-- The record of a carousel whose geometry has just been written (R8, R23, R81). -/
def Carousel.fresh (g : Geometry) (limit stepTime : Nat) : Carousel :=
  { geometry := g, stepTime := stepTime, slots := List.replicate (g.n * g.s) Slot.freeSlot,
    figures := { limit := limit, committed := List.replicate g.n 0, onHand := List.replicate g.n 0, committedW := 0,
                 onHandW := 0, overLimit := false },
    state := .offline, p := 0, known := false, resume := some .idle, move := none, restart := none, query := none,
    work := List.replicate g.n { picks := [0, 0, 0, 0], targets := 0, listed := false },
    passed := List.replicate g.n 0, auditList := [], next := none }

/-- Every guard state of a carousel becomes CLOSED (R81). -/
def State.closeGuards (k : Nat) (s : State) : State :=
  (s.windowsOf k).foldl (fun s w => s.onWindow w fun v => { v with guard := .closed }) s

/-- A SET_CAROUSEL that writes the geometry (R8, R23, R35, R81). A BALANCE_OVER that was set is reported CLEAR. -/
def State.writeGeometry (k : Nat) (g : Geometry) (limit stepTime : Nat) (s : State) : State :=
  let overLimit := match s.carousel? k with
    | some c => c.figures.overLimit
    | none => false
  let s1 := ((s.setCarousel k (Carousel.fresh g limit stepTime)).closeGuards k)
  let s2 := { s1 with discrepancies := s1.discrepancies.filter fun d => decide (d.addr.carousel ≠ k) }
  if overLimit then s2.notify (.balance k false 0 0 limit) else s2

/-- A SET_CAROUSEL that leaves the geometry as it was (R8, R36, R81). -/
def State.writeLimit (k limit stepTime : Nat) (s : State) : State :=
  (s.onCarousel k fun c => { c with stepTime := stepTime, figures := { c.figures with limit := limit } }).judgeOver k

/-- SET_CAROUSEL as its owner handles it (R8, R36, R81). A payload whose list of slot positions does not fit S is a matter of shape,
which R187 tests before the owning rule. -/
def setCarousel (k : Nat) (g : Geometry) (limit : Nat) (step : Option Nat) (s : State) : Answer :=
  if g.positions.length ≠ g.s then s.refuse .badField
  else if s.mode ≠ .config then s.refuse .wrongMode
  else if decide (3 < k) || !g.inRange || !inRange 100 65000 limit then s.refuse .badField
  else
    let old := s.carousel? k
    let taken := stepTimeTaken (old.map (·.stepTime)) step
    .reply (if old.map (·.geometry) = some g then s.writeLimit k limit taken
            else s.writeGeometry k g limit taken).refresh .ok (.stepTime taken)

/-- SET_CAROUSEL (R8, R36, R81). -/
def execSetCarousel (tag k n sl : Nat) (positions : List (Nat × Nat)) (limit : Nat) (step : Option Nat) (s : State) : Outcome :=
  .next (s.request 0x18 tag (.setCarousel tag k n sl positions limit step)
    (setCarousel k { n := n, s := sl, positions := positions } limit step))

/-! ### GET_BALANCE (R39) -/

/-- What GET_BALANCE reports (R39). -/
def Figures.report (f : Figures) (n : Nat) (form : LoadForm) : BalanceReport :=
  let loads := match form with
    | .committed => f.committed
    | .onHand => f.onHand
  { n := n, limit := f.limit, committedW := f.committedW, onHandW := f.onHandW, overLimit := f.overLimit,
    worstPosition := (worstPosition loads).1, upHeavier := (worstPosition loads).2, loads := loads }

/-- GET_BALANCE as its owner handles it (R39). -/
def getBalance (k : Nat) (form : Option LoadForm) (s : State) : Answer :=
  match s.carousel? k, form with
  | some c, some f => .reply s .ok (.balance (c.figures.report c.geometry.n f))
  | _, _ => s.refuse .badField

/-- GET_BALANCE (R39). -/
def execGetBalance (tag k : Nat) (form : Option LoadForm) (s : State) : Outcome :=
  .next (s.request 0x24 tag (.getBalance tag k form) (getBalance k form))

/-! ### RECOVER and GET_CAROUSEL (R105, R107) -/

/-- RECOVER as its owner handles it (R105). -/
def recover (k : Nat) (s : State) : Answer :=
  if s.mode = .config then s.refuse .wrongMode
  else
    match s.carousel? k with
    | none => s.refuse .badField
    | some c =>
      if c.state ≠ .fault then s.refuse .wrongState
      else if c.query.isSome then s.refuse .busy
      else if !s.locked k then s.refuse .linkDown
      else .reply (s.sendPosition k .recover) .ok .none

/-- RECOVER (R105). -/
def execRecover (tag k : Nat) (s : State) : Outcome :=
  .next (s.request 0x38 tag (.recover tag k) (recover k))

/-- What GET_CAROUSEL reports (R107). -/
def State.carouselReport (s : State) (k : Nat) (c : Carousel) : CarouselReport :=
  { state := c.state, p := c.p, known := c.known, resume := c.resume, stepTime := c.stepTime,
    windows := (s.windowsOf k).map fun w => (w, s.loopPosition w, (s.window w).guard),
    move := c.move,
    timeLeft := match c.move.bind (·.deadline), c.restart with
      | some d, _ => some (timeLeft s.now d)
      | none, some d => some (timeLeft s.now d)
      | none, none => none,
    query := c.query, next := c.next, auditList := c.auditList,
    carriers := (List.range c.geometry.n).map fun i =>
      let w := c.work.getD i { picks := [], targets := 0, listed := false }
      { cls := w.cls s.settings.putawayClass, picks := total w.picks, targets := w.targets, listed := w.listed,
        passed := c.passed.getD i 0 } }

/-- GET_CAROUSEL as its owner handles it (R107). -/
def getCarousel (k : Nat) (s : State) : Answer :=
  match s.carousel? k with
  | none => s.refuse .badField
  | some c => .reply s .ok (.carousel (s.carouselReport k c))

/-- GET_CAROUSEL (R107). -/
def execGetCarousel (tag k : Nat) (s : State) : Outcome :=
  .next (s.request 0x39 tag (.getCarousel tag k) (getCarousel k))

/-! ### Reports of the bay module (R174) -/

/-- The carousel that takes a report: the report's link is LOCKED, it is a bay module's of a configured carousel, and the
position is below N (R174). -/
def State.reportTo (s : State) (st p : Nat) : Option Carousel :=
  if s.locked st = true ∧ st < 4 then
    match s.carousel? st with
    | some c => if p < c.geometry.n then some c else none
    | none => none
  else none

/-- MOVE_DONE as the motion controller takes it (R91, R96, R98). -/
def State.moveDone (st p : Nat) (s : State) : State :=
  match (s.reportTo st p).map Carousel.state with
  | some .moving => s.park st p
  | some .suspended => s.park st p
  | some .stopping => s.endStop st p
  | _ => s

/-- MOVE_DONE (R91, R96, R98). -/
def execMoveDone (st p : Nat) (s : State) : Outcome := .next (s.moveDone st p).close

/-- MOVE_FAIL as the motion controller takes it (R92). -/
def State.moveFail (st : Nat) (reason : FailReason) (p : Nat) (s : State) : State :=
  match s.reportTo st p with
  | some c =>
    if c.state.inMotion then
      (s.onCarousel st fun c => { c with p := p }).enterFault st (match reason with
        | .drive => .drive
        | .obstructed => .obstructed)
    else s
  | none => s

/-- MOVE_FAIL (R92). -/
def execMoveFail (st : Nat) (reason : FailReason) (p : Nat) (s : State) : Outcome := .next (s.moveFail st reason p).close

/-- STOPPED as the motion controller takes it (R96, R98). -/
def State.stopped (st p : Nat) (s : State) : State :=
  if (s.reportTo st p).map Carousel.state = some .stopping then s.endStop st p else s

/-- STOPPED (R96, R98). -/
def execStopped (st p : Nat) (s : State) : Outcome := .next (s.stopped st p).close

/-- A GUARD report in MOVING or SUSPENDED, with the guard state rewritten (R94). -/
def State.guardActs (st : Nat) (g : Guard) (p : Nat) (s : State) : State :=
  match s.carouselState st, g with
  | some .moving, .opened =>
    s.onCarousel st fun c =>
      { c with p := p, state := .suspended, restart := none, move := c.move.map fun m => { m with deadline := none } }
  | some .suspended, .opened => s.onCarousel st fun c => { c with p := p, restart := none }
  | some .suspended, .closed =>
    s.onCarousel st fun c =>
      { c with p := p, restart := if s.anyGuardOpen st then c.restart else some (s.now + ms Config.restartDelay) }
  | _, _ => s

/-- GUARD as the motion controller takes it (R94). -/
def State.guardReport (st w : Nat) (g : Guard) (p : Nat) (s : State) : State :=
  match s.reportTo st p with
  | some _ =>
    if s.carouselOf w = some st then (s.onWindow w fun v => { v with guard := g }).guardActs st g p else s
  | none => s

/-- GUARD (R94). -/
def execGuard (st w : Nat) (g : Guard) (p : Nat) (s : State) : Outcome := .next (s.guardReport st w g p).close

/-! ### Timers of the motion controller (R93, R95, R97) -/

/-- Expiry of the move deadline (R93). -/
def State.moveDeadline (k : Nat) (s : State) : State :=
  match s.carousel? k with
  | some c =>
    match c.move.bind (·.deadline) with
    | some d => if c.state = .moving then ((s.reachTime d).handOver k .halt).enterFault k .timeout else s
    | none => s
  | none => s

/-- MOVE_DEADLINE_EXPIRY (R93). -/
def execMoveDeadlineExpiry (k : Nat) (s : State) : Outcome := .next (s.moveDeadline k).close

/-- The move of a suspended carousel is planned again from the P now recorded (R95). -/
def State.resumeMove (k : Nat) (s : State) : State :=
  match s.carousel? k with
  | some c =>
    match c.move with
    | some m =>
      match s.plan k m.carrier with
      | some plan => if plan.steps = 0 then s.park k c.p else s.sendMove k m.carrier plan
      | none => s
    | none => s
  | none => s

/-- Expiry of the restart delay (R95). -/
def State.restartDelay (k : Nat) (s : State) : State :=
  match s.carousel? k with
  | some c =>
    match c.restart with
    | some d => if c.state = .suspended then (s.reachTime d).resumeMove k else s
    | none => s
  | none => s

/-- RESTART_DELAY_EXPIRY (R95). -/
def execRestartDelayExpiry (k : Nat) (s : State) : Outcome := .next (s.restartDelay k).close

/-- Expiry of the stop deadline (R97). -/
def State.stopDeadline (k : Nat) (s : State) : State :=
  match s.carousel? k with
  | some c =>
    match c.move.bind (·.deadline) with
    | some d => if c.state = .stopping then (s.reachTime d).enterFault k .stopTimeout else s
    | none => s
  | none => s

/-- STOP_DEADLINE_EXPIRY (R97). -/
def execStopDeadlineExpiry (k : Nat) (s : State) : Outcome := .next (s.stopDeadline k).close

/-! ### POSITION_REPLY (R102, R103, R105) -/

/-- The guard states in a position reply are rewritten for the carousel's windows (R94, R102). -/
def State.writeGuards (k : Nat) (guards : List (Nat × Guard)) (s : State) : State :=
  guards.foldl (fun s g => if s.carouselOf g.1 = some k then s.onWindow g.1 fun v => { v with guard := g.2 } else s) s

/-- Carousel `k` has learned that it stands at `p`: the query is answered and the resume state removed (R102). -/
def State.learned (k p : Nat) (s : State) : State :=
  s.onCarousel k fun c => { c with p := p, known := true, query := none, resume := none }

/-- Windows of the carousel with an open presentation. -/
def State.presentingWindows (s : State) (k : Nat) : List Nat :=
  (s.windowsOf k).filter fun w => (s.window w).presentation.isSome

/-- The position change of R103. -/
def State.changePosition (k p : Nat) (c : Carousel) (s : State) : State :=
  let ws := s.presentingWindows k
  let s1 := ((ws.foldl (fun s w => s.cancelPresentation w) s).learned k p).notify
    (.positionChanged k c.p p ws.length (total (ws.map fun w => (s.window w).pickEntries)))
  if c.resume = some .held ∧ s.mode = .hold then s1.enterHeld k
  else
    let s2 := s1.idleAndAct k
    match (s2.carousel? k).map (·.state.opensPresentations) with
    | some true => (s2.openStanding k).testWindows k
    | _ => s2

/-- The answer to the position query of an OFFLINE or FAULT carousel (R102, R105). -/
def State.positionAnswer (k p : Nat) (c : Carousel) (s : State) : State :=
  if c.state = .fault then (s.learned k p).idleAndAct k
  else if c.state ≠ .offline then s.onCarousel k fun c => { c with query := none }
  else if !c.known then (s.learned k p).idleAndAct k
  else if p = c.p then
    if c.resume = some .held ∧ s.mode = .hold then (s.learned k p).enterHeld k else (s.learned k p).resumeHeld k
  else s.changePosition k p c

/-- POSITION_REPLY as the link and the motion controller take it (R102, R172, R173). -/
def State.positionReply (st number p : Nat) (guards : List (Nat × Guard)) (s : State) : State :=
  match s.answers st number, s.carousel? st with
  | some (.position live), some c =>
    if c.geometry.n ≤ p then s
    else if live then (((s.takeReply st).writeGuards st guards).positionAnswer st p c) else s.takeReply st
  | _, _ => s

/-- POSITION_REPLY (R102). -/
def execPositionReply (st number p : Nat) (guards : List (Nat × Guard)) (s : State) : Outcome :=
  .next (s.positionReply st number p guards).close

end Sys2Proof.Machine
end

