-- ==== Sys2Proof/Machine/Windows.lean ====
section
/-! DEFINITION. Meanings of the commands of the pick windows and operator panels (06_pick_windows_and_operator_panels.md):
SET_WINDOW, GET_WINDOW, KEY_SAMPLING, MINUS, CONFIRM. -/

namespace Sys2Proof.Machine

/-! ### SET_WINDOW and GET_WINDOW (R109, R128) -/

/-- A window that SET_WINDOW has written, with the rank it is to have (R108, R109): what the audit unit holds for it stays
(R150; notes/assumptions/18). -/
def Window.setTo (v : Window) (assigned : Option (Nat × Nat)) (rank : Option Nat) : Window :=
  { Window.afterReset with assigned := assigned, rank := rank, measurement := v.measurement,
                           counter := v.counter, counterOpen := v.counterOpen, calibrations := v.calibrations }

/-- The ranks 0 to 7 that no configured window other than `w` holds (R137). -/
def State.openRanks (s : State) (w : Nat) : List Nat :=
  (List.range 8).filter fun r => !(s.configuredWindows.any fun v => decide (v ≠ w) && decide ((s.window v).rank = some r))

/-- The rank that a newly configured window takes: a FREE VALUE among the open ranks (R137; notes/assumptions/17). -/
def State.drawRank (s : State) (w : Nat) : Nat := (s.openRanks w).getD (Config.firstRank s.draws % (s.openRanks w).length) 0

/-- Assigns a window (R109, R137): a window that has a rank keeps it, one that is newly configured draws one. -/
def State.assignWindow (w : Nat) (a : Nat × Nat) (s : State) : State :=
  match (s.window w).rank with
  | some r => s.onWindow w fun v => v.setTo (some a) (some r)
  | none => { s with draws := s.draws + 1 }.onWindow w fun v => v.setTo (some a) (some (s.drawRank w))

/-- The carousel has two configured windows other than this one (R109). -/
def State.carouselFull (s : State) (k w : Nat) : Bool := decide (2 ≤ ((s.windowsOf k).filter fun v => decide (v ≠ w)).length)

/-- SET_WINDOW as its owner handles it (R109). -/
def setWindow (w : Nat) (carousel : Option Nat) (pos : Nat) (s : State) : Answer :=
  if s.mode ≠ .config then s.refuse .wrongMode
  else if 7 < w ∨ 47 < pos then s.refuse .badField
  else
    match carousel with
    | none => .reply (s.onWindow w fun v => v.setTo none none).refresh .ok (.window w none)
    | some k =>
      if 3 < k ∨ s.carouselFull k w = true then s.refuse .badField
      else .reply (s.assignWindow w (k, pos)).refresh .ok (.window w (some (k, pos)))

/-- SET_WINDOW (R109). -/
def execSetWindow (tag w : Nat) (carousel : Option Nat) (pos : Nat) (s : State) : Outcome :=
  .next (s.request 0x19 tag (.setWindow tag w carousel pos) (setWindow w carousel pos))

/-- Number of slot positions at a window: S of its carousel. While the carousel is not configured there are none (the model's
choice, notes/assumptions/32). -/
def State.positionsAt (s : State) (w : Nat) : Nat :=
  match (s.carouselOf w).bind s.carousel? with
  | some c => c.geometry.s
  | none => 0

/-- The outfeed queue with the item of the transfer in flight marked (R128). -/
def State.markedOutfeed (s : State) (w : Nat) : List (Item × Bool) :=
  (s.window w).outfeed.mapIdx fun i item =>
    (item, i == 0 && match s.merge.transfer with
      | some t => t.window == w
      | none => false)

/-- What GET_WINDOW reports (R128). -/
def State.windowReport (s : State) (w : Nat) (at_ : Nat × Nat) : WindowReport :=
  let v := s.window w
  { carousel := at_.1, loopPosition := at_.2, header := v.header, presented := v.presentation.map (·.carrier),
    positions := (List.range (s.positionsAt w)).map fun i =>
      (v.displays.getD i Display.blank, match v.presentation with
        | some p => p.queue i
        | none => []),
    outfeed := s.markedOutfeed w, freePlaces := v.freePlaces }

/-- GET_WINDOW as its owner handles it (R128). -/
def getWindow (w : Nat) (s : State) : Answer :=
  if 7 < w then s.refuse .badField
  else
    match (s.window w).assigned with
    | none => s.refuse .notFound
    | some a => .reply s .ok (.windowReport (s.windowReport w a))

/-- GET_WINDOW (R128). -/
def execGetWindow (tag w : Nat) (s : State) : Outcome :=
  .next (s.request 0x3A tag (.getWindow tag w) (getWindow w))

/-! ### KEY_SAMPLING (R118, R119) -/

/-- The next sampling state of a key by whether it is seen down (R119). -/
def KeyState.sample : KeyState → Bool → KeyState
  | .up, true => .downOnce
  | .up, false => .up
  | .downOnce, true => .down
  | .downOnce, false => .up
  | .down, true => .down
  | .down, false => .upOnce
  | .upOnce, true => .down
  | .upOnce, false => .up

/-- The sampling takes a press: the key moves from DOWN_ONCE to DOWN (R119). -/
def KeyState.pressed (k : KeyState) (down : Bool) : Bool := decide (k = .downOnce) && down

/-- Both keys of a group after one sampling (R119). -/
def Keys.sample (k : Keys) (down : Bool × Bool) : Keys :=
  { minus := k.minus.sample down.1, confirm := k.confirm.sample down.2 }

/-- The press taken at a sampling of group `i`, none when both keys move from DOWN_ONCE to DOWN at once (R119). -/
def Keys.press (k : Keys) (down : Bool × Bool) (i : Nat) : List Press :=
  match k.minus.pressed down.1, k.confirm.pressed down.2 with
  | true, false => [.minus i]
  | false, true => [.confirm i]
  | _, _ => []

/-- What a group shows when it is lit in this cycle: a blinking record is dark in alternate cycles (R118). -/
def Display.lit (d : Display) (on : Bool) : Option Display := if d.blink && !on then none else some d

/-- One scan cycle of a configured window with `n` slot positions (R118, R119): groups and header are lit, then every key is
sampled once in the blanking interval. -/
def Window.scan (n : Nat) (down : List (Bool × Bool)) (v : Window) : Window :=
  { v with blinkLit := !v.blinkLit,
           shown := some { groups := (v.displays.take n).map fun d => d.lit !v.blinkLit, header := v.header },
           keys := v.keys.mapIdx fun i k => if i < n then k.sample (down.getD i (false, false)) else k,
           presses := v.presses ++ (v.keys.take n).zipIdx.flatMap fun q => q.1.press (down.getD q.2 (false, false)) q.2 }

/-- KEY_SAMPLING (R118, R119). A window that is not configured is not scanned. That the scan of one whose carousel is not
configured lights the header alone and reads no key is the model's choice (notes/assumptions/32). -/
def execKeySampling (w : Nat) (down : List (Bool × Bool)) (s : State) : Outcome :=
  .next (if (s.window w).assigned.isSome then s.onWindow w (Window.scan (s.positionsAt w) down) else s)

/-! ### MINUS (R120) -/

/-- The press that a command acts on is no longer waiting. -/
def Window.usePress (p : Press) (v : Window) : Window := { v with presses := v.presses.erase p }

/-- A MINUS press on a display record (R120). -/
def Display.lower (d : Display) : Display :=
  match d.mode with
  | .put => { d with quantity := d.quantity - 1 }
  | .pick => { d with quantity := d.quantity - 1 }
  | _ => d

/-- MINUS (R120). -/
def execMinus (w i : Nat) (s : State) : Outcome :=
  .next (s.onWindow w fun v => { v.usePress (.minus i) with displays := modifyAt Display.lower i v.displays })

/-! ### CONFIRM of a PUT entry (R50 to R52, R121) -/

/-- The slot write of a PUT confirm: on-hand rises by `q`, pending falls by the target's quantity (R50, R14). -/
def Slot.placed (slot : Slot) (q quantity : Nat) : Slot :=
  { slot with onHand := slot.onHand + q, pending := slot.pending - quantity }.settled

/-- The OPEN target of a task on a slot. -/
def Task.openTarget (t : Task) (a : SlotAddr) : Option Target := t.targets.find? (Target.openOn a)

/-- A PUT confirm with displayed quantity `shown` (R121), which is at most the target's quantity (R116, R120). -/
def State.confirmPut (a : SlotAddr) (task shown : Nat) (s : State) : State :=
  match s.task? task with
  | some t =>
    match t.openTarget a with
    | some x =>
      let q := min shown x.quantity
      let s1 := (s.updateSlot a fun slot => slot.placed q x.quantity).closeTarget task a (.confirmed q)
      let s2 := (s1.removeEntry a (.put task x.quantity)).endTask task
      (s2.reallocate { lines := [], places := [t.place], except := none }).testEnds
    | none => s
  | none => s

/-! ### CONFIRM of a PICK entry (R123 to R127) -/

/-- The slot write of a pick confirm: on-hand falls by `q`, pick-reserved by the pick's quantity (R125, R14). -/
def Slot.taken (slot : Slot) (q quantity : Nat) : Slot :=
  { slot with onHand := slot.onHand - q, reserved := slot.reserved - quantity }.settled

/-- The order table's side of a pick confirm (R70). -/
def State.pickTaken (p : Pick) (q : Nat) (s : State) : State :=
  let s1 := s.onOrder p.order fun o => o.onLine p.line fun l => { l with picked := l.picked + q, openPicks := l.openPicks - 1 }
  { s1 with picks := s1.picks.filter fun x => decide (x.number ≠ p.number) }

/-- The lane an order's items travel to (R122). -/
def State.laneOf (s : State) (tag : Nat) : Nat :=
  match s.order? tag with
  | some o => o.lane.getD 0
  | none => 0

/-- Adds `q` items of a pick at the tail of a window's outfeed queue (R122, R125). -/
def State.addItems (w : Nat) (p : Pick) (q : Nat) (s : State) : State :=
  s.onWindow w fun v =>
    { v with outfeed := v.outfeed ++ List.replicate q { order := p.order, line := p.line, lane := s.laneOf p.order } }

/-- The SHORT_PICK notice of a short pick at window `w` (R127): `s` is the state its slot writes have left. -/
def State.shortNotice (s : State) (w : Nat) (p : Pick) (q : Nat) (outcome : ShortOutcome) (siblings targets : Nat) : Notice :=
  let code := match s.line? p.order p.line with
    | some l => s.codeAt l.place
    | none => 0
  let onHand := match s.slot? p.addr with
    | some slot => slot.onHand
    | none => 0
  .shortPick { window := w, addr := p.addr, order := p.order, line := p.line, code := code, quantity := p.quantity,
               confirmed := q, outcome := outcome, onHand := onHand, siblings := siblings, targets := targets }

/-- The slot is FREE. -/
def State.isFree (s : State) (a : SlotAddr) : Bool :=
  match s.slot? a with
  | some slot => decide (slot.state = .free)
  | none => false

/-- The short pick of R126, in its order: the slot, the audit list, the notice. -/
def State.shortPick (w : Nat) (p : Pick) (q : Nat) (s : State) : State :=
  let a := p.addr
  if s.isFree a then
    let s1 := s.joinAudit a.carousel a.carrier
    s1.notify (s1.shortNotice w p q .free 0 0)
  else
    let s1 := (s.quarantine a .shortPick none).joinAudit a.carousel a.carrier
    s1.notify (s1.shortNotice w p q .quarantine (s.slotPicks a).length (s.slotTargets a).length)

/-- A pick confirm that is taken, in the order of R125. -/
def State.confirmPick (w : Nat) (p : Pick) (q : Nat) (s : State) : State :=
  let s1 := (s.updateSlot p.addr fun slot => slot.taken q p.quantity).pickTaken p q
  let s2 := ((s1.addItems w p q).testGrant).removeEntry p.addr (.pick p.number p.quantity)
  let lines := (p.order, p.line) :: (if q < p.quantity ∧ s2.isFree p.addr = false then s2.slotLines p.addr else [])
  let s3 := if q < p.quantity then s2.shortPick w p q else s2
  (s3.reallocate { lines := lines, places := [], except := none }).testEnds

/-- A pick confirm held as WAIT for want of outfeed places (R123). -/
def State.holdConfirm (w i : Nat) (s : State) : State :=
  s.onWindow w fun v => { v with displays := modifyAt (fun d => { d with mode := .wait }) i v.displays }

/-- A CONFIRM press on the head entry of a queue, with its display record (R121, R123), whose quantity is at most the entry's (R116,
R120). -/
def State.confirmHead (w i : Nat) (a : SlotAddr) (d : Display) (e : Entry) (s : State) : State :=
  match d.mode, e with
  | .put, .put task _ => s.confirmPut a task d.quantity
  | .pick, .pick number _ =>
    match s.pick? number with
    | some p =>
      let q := min d.quantity p.quantity
      if (s.window w).freePlaces < q then s.holdConfirm w i else s.confirmPick w p q
    | none => s
  | _, _ => s

/-- CONFIRM as the window controller takes it. A position with no entry shows BLANK or AUDIT, and the press is ignored. -/
def State.confirmAt (w i : Nat) (s : State) : State :=
  match s.carouselOf w, (s.window w).presentation with
  | some k, some p =>
    match (p.queue i).head? with
    | some e => s.confirmHead w i ⟨k, p.carrier, i⟩ ((s.window w).displays.getD i Display.blank) e
    | none => s
  | _, _ => s

/-- CONFIRM (R121, R123, R125). -/
def execConfirm (w i : Nat) (s : State) : Outcome :=
  .next ((s.onWindow w (Window.usePress (.confirm i))).confirmAt w i).close

end Sys2Proof.Machine
end

