-- ==== Sys2Proof/Machine/PutAway.lean ====
section
/-! DEFINITION. Meanings of the put-away requests (03_put_away.md). -/

namespace Sys2Proof.Machine

/-- SET_PUTAWAY_CLASS as its owner handles it (R49). -/
def setPutawayClass (cls : Nat) (s : State) : Answer :=
  if s.mode ≠ .config then s.refuse .wrongMode
  else if !inRange 1 4 cls then s.refuse .badField
  else .reply { s with settings := { s.settings with putawayClass := cls } } .ok (.putawayClass cls)

/-- SET_PUTAWAY_CLASS (R49). -/
def execSetPutawayClass (tag cls : Nat) (s : State) : Outcome :=
  .next (s.request 0x1B tag (.setPutawayClass tag cls) (setPutawayClass cls))

/-- The preferred carousel of a PUTAWAY is none or a configured one (R43). -/
def State.preferredFits (s : State) : Option Nat → Bool
  | some k => s.isConfigured k
  | none => true

/-- The field check of PUTAWAY (R43, check 2). -/
def State.putawayFields (s : State) (task code batch quantity : Nat) (preferred : Option Nat) : Bool :=
  inRange 1 65535 task && decide (code ≠ 0) && decide (batch ≤ 4095) && inRange 1 64 quantity && s.preferredFits preferred

/-- The sum of the quantities of a task's targets. -/
def Task.chosen (t : Task) : Nat := total (t.targets.map (·.quantity))

/-- The allocation of a PUTAWAY whose checks have passed (R44): the task with its targets, not yet placed. -/
def State.allocateTask (task place : Nat) (art : Article) (batch quantity : Nat) (preferred : Option Nat) (s : State) : State :=
  let t : Task := { tag := task, place := place, batch := batch, requested := quantity, placed := 0, state := .opened,
                    targets := [] }
  { s with tasks := s.tasks ++ [t] }.allocatePut task place batch art preferred Config.targetsPerTask quantity

/-- PUTAWAY as its owner handles it (R43, R48); of an article code above 4294967295: notes/assumptions/48. -/
def putaway (task code batch quantity : Nat) (preferred : Option Nat) (s : State) : Answer :=
  if s.mode = .config then s.refuse .wrongMode
  else if !s.putawayFields task code batch quantity preferred then s.refuse .badField
  else
    match s.articleOf code with
    | none => s.refuse .notFound
    | some (place, art) =>
      if (s.task? task).isSome then s.refuse .duplicate
      else if Config.taskPool ≤ s.tasks.length then s.refuse .noSpace
      else
        let s1 := s.allocateTask task place art batch quantity preferred
        match s1.task? task with
        | some t =>
          if t.chosen = 0 then s.refuse .noRoom
          else .reply (s1.onTask task fun t => { t with placed := t.chosen }).refresh .ok
            (.placed task quantity t.chosen (t.targets.map fun x => (x.addr, x.quantity)))
        | none => s.refuse .noRoom

/-- PUTAWAY (R43). -/
def execPutaway (tag task code batch quantity : Nat) (preferred : Option Nat) (s : State) : Outcome :=
  .next (s.request 0x28 tag (.putaway tag task code batch quantity preferred) (putaway task code batch quantity preferred))

/-- Cancels every OPEN target of a task in list order, and frees the task (R53, R55). The carousel of a target reacts before the
next is cancelled and before the task is freed (notes/assumptions/40). -/
def State.cancelTask (t : Task) (s : State) : State :=
  (((t.targets.filter Target.isOpen).foldl (fun s x => s.cancelTarget t.tag x .host) s).endTask t.tag).testEnds

/-- CANCEL_PUTAWAY as its owner handles it (R53); of a tag above 65535: notes/assumptions/47. -/
def cancelPutaway (task : Nat) (s : State) : Answer :=
  if s.mode = .config then s.refuse .wrongMode
  else if task = 0 then s.refuse .badField
  else
    match s.task? task with
    | none => s.refuse .notFound
    | some t =>
      .reply (s.cancelTask t).refresh .ok (.putawayCancelled task t.storedTotal (t.placed - t.storedTotal))

/-- CANCEL_PUTAWAY (R53). -/
def execCancelPutaway (tag task : Nat) (s : State) : Outcome :=
  .next (s.request 0x29 tag (.cancelPutaway tag task) (cancelPutaway task))

/-- What GET_PUTAWAY reports (R56). -/
def State.taskReport (s : State) (t : Task) : TaskReport :=
  { tag := t.tag, code := s.codeAt t.place, batch := t.batch, requested := t.requested, placed := t.placed,
    state := t.state, targets := t.targets, storedTotal := t.storedTotal,
    openTotal := total ((t.targets.filter Target.isOpen).map (·.quantity)) }

/-- GET_PUTAWAY as its owner handles it (R56); of a tag above 65535: notes/assumptions/47. -/
def getPutaway (task : Nat) (s : State) : Answer :=
  if task = 0 then s.refuse .badField
  else
    match s.task? task with
    | none => s.refuse .notFound
    | some t => .reply s .ok (.task (s.taskReport t))

/-- GET_PUTAWAY (R56). -/
def execGetPutaway (tag task : Nat) (s : State) : Outcome :=
  .next (s.request 0x2A tag (.getPutaway tag task) (getPutaway task))

end Sys2Proof.Machine
end

