-- ==== Sys2Proof/Machine/Orders.lean ====
section
/-! DEFINITION. Meanings of the order requests (04_orders_lines_and_pick_allocation.md). -/

namespace Sys2Proof.Machine

/-! ### SUBMIT_ORDER (R61, R62) -/

/-- The field check of SUBMIT_ORDER (R61, check 2). -/
def orderFields (tag : Nat) (lines : List (Nat × Nat)) : Bool :=
  inRange 1 65535 tag && inRange 1 16 lines.length && lines.all fun l => decide (l.1 ≠ 0) && inRange 1 32 l.2

/-- Index of the first line whose article the table does not hold (R61, check 3); of an article code above 4294967295:
notes/assumptions/48. -/
def State.unknownLine (s : State) (lines : List (Nat × Nat)) : Option Nat :=
  lines.findIdx? fun l => (s.articleOf l.1).isNone

/-- The requested total is greater than the capacity of every configured lane (R61, check 5). -/
def State.tooLarge (s : State) (requested : Nat) : Bool :=
  s.lanes.all fun l => match l with
    | some l => decide (l.capacity < requested)
    | none => true

/-- Line records held (R57). -/
def State.lineCount (s : State) : Nat := total (s.orders.map fun o => o.lines.length)

/-- The line record of a submitted line (R62, step 2). -/
def State.newLine (s : State) (l : Nat × Nat) : Line :=
  { place := match s.articleOf l.1 with
      | some (place, _) => place
      | none => 0,
    requested := l.2, picked := 0, delivered := 0, openPicks := 0, short := false }

/-- The order record of a SUBMIT_ORDER (R62, step 1). -/
def State.newOrder (s : State) (tag priority : Nat) (lines : List (Nat × Nat)) : Order :=
  { tag := tag, priority := min priority 63, state := .waiting, lane := none, admission := none, lines := lines.map s.newLine }

/-- Stores a submitted order and runs lane binding (R62). -/
def State.submit (o : Order) (s : State) : State :=
  { s with orders := s.orders ++ [o], submission := s.submission ++ [o.tag] }.bindingRun bindFuel

/-- What the reply of SUBMIT_ORDER carries (R62). -/
def State.submitted (s : State) (o : Order) : ReplyBody :=
  match s.order? o.tag with
  | some x => .submitted o.tag o.priority o.cls o.requestedTotal x.state x.lane
  | none => .submitted o.tag o.priority o.cls o.requestedTotal o.state o.lane

/-- SUBMIT_ORDER as its owner handles it (R61, R62). -/
def submitOrder (tag priority : Nat) (lines : List (Nat × Nat)) (s : State) : Answer :=
  if s.mode = .config then s.refuse .wrongMode
  else if !orderFields tag lines then s.refuse .badField
  else
    match s.unknownLine lines with
    | some i => .reply s .notFound (.badLine i)
    | none =>
      if (s.order? tag).isSome then s.refuse .duplicate
      else if s.tooLarge (total (lines.map Prod.snd)) then s.refuse .tooLarge
      else if Config.orderPool ≤ s.orders.length ∨ Config.linePool < s.lineCount + lines.length then s.refuse .noSpace
      else
        let s1 := s.submit (s.newOrder tag priority lines)
        .reply s1.refresh .ok (s1.submitted (s.newOrder tag priority lines))

/-- SUBMIT_ORDER (R61, R62). -/
def execSubmitOrder (tag order priority : Nat) (lines : List (Nat × Nat)) (s : State) : Outcome :=
  .next (s.request 0x30 tag (.submitOrder tag order priority lines) (submitOrder order priority lines))

/-! ### CLOSE_ORDER, CANCEL_ORDER, SHIP (R74 to R78) -/

/-- The checks that the three requests share come first (section 4.8): mode, tag of 0, tag not held. A number above 65535 names no
order held, and gives NOT_FOUND (notes/assumptions/47). -/
def onHeldOrder (order : Nat) (act : Order → State → Answer) (s : State) : Answer :=
  if s.mode = .config then s.refuse .wrongMode
  else if order = 0 then s.refuse .badField
  else
    match s.order? order with
    | none => s.refuse .notFound
    | some o => act o s

/-- Steps 1 and 2 of R74: the order's open picks are cancelled, and each line asks for what it has picked. -/
def State.giveUpRest (tag : Nat) (s : State) : State :=
  (s.cancelOrderPicks tag).onOrder tag fun o =>
    { o with lines := o.lines.map fun l => { l with requested := l.picked, short := false } }

/-- Re-allocation for the articles that a closed or cancelled order released (R67). -/
def State.reallocateReleased (tag : Nat) (places : List Nat) (s : State) : State :=
  s.reallocate { lines := [], places := places, except := some tag }

/-- CLOSE_ORDER on an ACTIVE order, in the order of R74. That the reply of a freed order carries 0 tyres on their way is the
model's choice (notes/assumptions/43). -/
def closeActive (o : Order) (s : State) : Answer :=
  let s1 := s.giveUpRest o.tag
  let finish := fun (t : State) (state : OrderEnd) (onTheWay : Nat) =>
    Answer.reply (t.reallocateReleased o.tag (s.orderPlaces o.tag)).testEnds.refresh .ok (.orderEnded state onTheWay)
  match s1.order? o.tag with
  | some c =>
    if c.pickedTotal = 0 then finish (s1.freeOrder o.tag) .freed 0
    else if c.allDelivered then
      finish ((s1.onOrder o.tag fun o => { o with state := .assembled }).notifyOrder o.tag .assembled) .assembled 0
    else finish s1 .active c.onTheWay
  | none => s.refuse .notFound

/-- CLOSE_ORDER as its owner handles it (R74). -/
def closeOrder (order : Nat) : State → Answer :=
  onHeldOrder order fun o s => if o.state ≠ .active then s.refuse .wrongState else closeActive o s

/-- CLOSE_ORDER (R74). -/
def execCloseOrder (tag order : Nat) (s : State) : Outcome :=
  .next (s.request 0x31 tag (.closeOrder tag order) (closeOrder order))

/-- The lane of an order becomes DRAINING (R131). -/
def State.drainLane (o : Order) (s : State) : State :=
  match o.lane with
  | some n => s.setLaneState n (.draining o.tag)
  | none => s

/-- CANCEL_ORDER on an ACTIVE or ASSEMBLED order, in the order of R76. -/
def cancelHeld (o : Order) (s : State) : Answer :=
  let s1 := ((s.cancelOrderPicks o.tag).onOrder o.tag fun o =>
    { o with state := .cancelled, lines := o.lines.map fun l => { l with short := false } }).drainLane o
  let s2 := if o.onTheWay = 0 then s1.notifyOrder o.tag .drained else s1
  .reply (s2.reallocateReleased o.tag (s.orderPlaces o.tag)).testEnds.refresh .ok (.orderEnded .cancelled o.onTheWay)

/-- CANCEL_ORDER as its owner handles it (R75, R76). That the reply of a freed order carries 0 tyres on their way is the model's
choice (notes/assumptions/43). -/
def cancelOrder (order : Nat) : State → Answer :=
  onHeldOrder order fun o s =>
    match o.state with
    | .waiting => .reply (s.freeOrder order).refresh .ok (.orderEnded .freed 0)
    | .active => cancelHeld o s
    | .assembled => cancelHeld o s
    | .cancelled => s.refuse .wrongState

/-- CANCEL_ORDER (R75, R76). -/
def execCancelOrder (tag order : Nat) (s : State) : Outcome :=
  .next (s.request 0x32 tag (.cancelOrder tag order) (cancelOrder order))

/-- SHIP as its owner handles it (R78). -/
def ship (order : Nat) : State → Answer :=
  onHeldOrder order fun o s =>
    if o.state ≠ .assembled then s.refuse .wrongState
    else .reply (s.freeOrder order).refresh .ok (.shipped order o.lane)

/-- SHIP (R78). -/
def execShip (tag order : Nat) (s : State) : Outcome :=
  .next (s.request 0x33 tag (.ship tag order) (ship order))

/-! ### GET_ORDER (R80) -/

/-- A line as GET_ORDER reports it (R80). -/
def State.lineReport (s : State) (tag i : Nat) (l : Line) : LineReport :=
  { code := s.codeAt l.place, requested := l.requested, picked := l.picked, delivered := l.delivered,
    openPicks := l.openPicks, openQuantity := s.openQuantity tag i, unallocated := s.unallocated tag i l, short := l.short }

/-- What GET_ORDER reports (R80). That each open pick is reported with its whole record, the creation sequence number and the
order tag with it, is the model's choice (notes/assumptions/44). -/
def State.orderReport (s : State) (o : Order) : OrderReport :=
  { tag := o.tag, priority := o.priority, cls := o.cls, state := o.state, lane := o.lane, admission := o.admission,
    waitingPlace := if o.state = .waiting then s.submission.findIdx? fun t => t == o.tag else none,
    onTheWay := o.onTheWay, lines := o.lines.mapIdx (s.lineReport o.tag),
    picks := bySeq (s.picks.filter fun p => p.order == o.tag) }

/-- GET_ORDER as its owner handles it (R80); of a tag above 65535: notes/assumptions/47. -/
def getOrder (order : Nat) (s : State) : Answer :=
  if order = 0 then s.refuse .badField
  else
    match s.order? order with
    | none => s.refuse .notFound
    | some o => .reply s .ok (.order (s.orderReport o))

/-- GET_ORDER (R80). -/
def execGetOrder (tag order : Nat) (s : State) : Outcome :=
  .next (s.request 0x34 tag (.getOrder tag order) (getOrder order))

end Sys2Proof.Machine
end

