-- ==== Sys2Proof/Machine/Consolidation.lean ====
section
/-! DEFINITION. Meanings of the requests on lanes and merge, of the reports of the lane module, and of the transfer deadline
(07_order_consolidation.md). -/

namespace Sys2Proof.Machine

/-! ### Lanes (R130, R134) -/

/-- The capacity of a SET_LANE is NONE or 4 to 48 (R130). -/
def capacityFits : Option Nat → Bool
  | some c => inRange 4 48 c
  | none => true

/-- The lane that SET_LANE stores (R130). -/
def laneOfCapacity (capacity : Option Nat) : Option Lane := capacity.map fun c => { capacity := c, state := .free }

/-- SET_LANE as its owner handles it (R130). -/
def setLane (n : Nat) (capacity : Option Nat) (s : State) : Answer :=
  if s.mode ≠ .config then s.refuse .wrongMode
  else if decide (7 < n) || !capacityFits capacity then s.refuse .badField
  else .reply { s with lanes := s.lanes.set n (laneOfCapacity capacity) } .ok (.lane n (laneOfCapacity capacity))

/-- SET_LANE (R130). -/
def execSetLane (tag n : Nat) (capacity : Option Nat) (s : State) : Outcome :=
  .next (s.request 0x1A tag (.setLane tag n capacity) (setLane n capacity))

/-- An order has a tyre on its way (R72). -/
def State.hasTyreOnTheWay (s : State) (tag : Nat) : Bool :=
  match s.order? tag with
  | some o => decide (0 < o.onTheWay)
  | none => false

/-- LANE_CLEARED as its owner handles it (R134). -/
def laneCleared (n : Nat) (s : State) : Answer :=
  if s.mode = .config then s.refuse .wrongMode
  else
    match s.lanes.getD n none with
    | none => s.refuse .badField
    | some l =>
      match l.state with
      | .draining order =>
        if s.hasTyreOnTheWay order then s.refuse .busy
        else .reply (s.freeOrder order).refresh .ok (.laneCleared n order)
      | _ => s.refuse .wrongState

/-- LANE_CLEARED (R134). -/
def execLaneCleared (tag n : Nat) (s : State) : Outcome :=
  .next (s.request 0x40 tag (.laneCleared tag n) (laneCleared n))

/-! ### The merge (R136, R145, R147) -/

/-- What MERGE_RESUME does when it is taken (R145), with the new number of a transfer that restarts. -/
def State.resumeMerge (s : State) : State × Option Nat :=
  let s1 := { s with merge := { s.merge with state := .running } }
  match s.merge.transfer with
  | some t => (s1.startTransfer t.window t.item, some s.merge.nextNumber)
  | none => (s1.testGrant, none)

/-- MERGE_RESUME as its owner handles it (R145). -/
def mergeResume (s : State) : Answer :=
  if s.mode = .config then s.refuse .wrongMode
  else if s.merge.state = .running then s.refuse .wrongState
  else if !s.locked laneModule then s.refuse .linkDown
  else .reply s.resumeMerge.1 .ok (.mergeResumed s.resumeMerge.2)

/-- MERGE_RESUME (R145). -/
def execMergeResume (tag : Nat) (s : State) : Outcome :=
  .next (s.request 0x41 tag (.mergeResume tag) mergeResume)

/-- SET_MERGE_TIMEOUT as its owner handles it (R136). -/
def setMergeTimeout (len : Nat) (s : State) : Answer :=
  .reply { s with settings := { s.settings with transferTimeout := clamp 2000 30000 len } } .ok
    (.timeout (clamp 2000 30000 len))

/-- SET_MERGE_TIMEOUT (R136). -/
def execSetMergeTimeout (tag len : Nat) (s : State) : Outcome :=
  .next (s.request 0x42 tag (.setMergeTimeout tag len) (setMergeTimeout len))

/-- What GET_MERGE reports (R147). -/
def State.mergeReport (s : State) : MergeReport :=
  { state := s.merge.state, timeout := s.settings.transferTimeout, nextNumber := s.merge.nextNumber,
    transfer := s.merge.transfer, timeLeft := (s.merge.transfer.bind (·.deadline)).map (timeLeft s.now),
    windows := s.configuredWindows.map fun w => (w, (s.window w).rank, s.itemsWaiting w, (s.window w).freePlaces),
    lanes := (List.range 8).filterMap fun n => (s.lanes.getD n none).map fun l => (n, l) }

/-- GET_MERGE as its owner handles it (R147). -/
def getMerge (s : State) : Answer :=
  .reply s .ok (.merge s.mergeReport)

/-- GET_MERGE (R147). -/
def execGetMerge (tag : Nat) (s : State) : Outcome :=
  .next (s.request 0x43 tag (.getMerge tag) getMerge)

/-! ### Reports of the lane module and the transfer deadline (R140 to R143) -/

/-- The transfer that a report of a station names (R141, R174). -/
def State.transferOf (s : State) (st t : Nat) : Option Transfer :=
  if st = laneModule ∧ s.locked laneModule = true then s.merge.transfer.filter fun x => x.number == t else none

/-- ARRIVED as the merge arbiter takes it (R140, R141). -/
def State.arrived (st t : Nat) (s : State) : State :=
  match s.transferOf st t with
  | some x => s.completeTransfer x
  | none => s

/-- ARRIVED (R140). -/
def execArrived (st t : Nat) (s : State) : Outcome := .next (s.arrived st t).close

/-- JAMMED as the merge arbiter takes it (R141, R143). -/
def State.jammed (st t : Nat) (s : State) : State :=
  match s.transferOf st t with
  | some x => if s.merge.state = .running then s.stopMerge .jammed x else s
  | none => s

/-- JAMMED (R143). -/
def execJammed (st t : Nat) (s : State) : Outcome := .next (s.jammed st t).close

/-- Expiry of the transfer deadline (R142). -/
def State.transferExpiry (s : State) : State :=
  match s.merge.transfer with
  | some t =>
    match t.deadline with
    | some d => if s.merge.state = .running then (s.reachTime d).expireAttempt .timeout t else s
    | none => s
  | none => s

/-- TRANSFER_DEADLINE_EXPIRY (R142). -/
def execTransferDeadlineExpiry (s : State) : Outcome := .next s.transferExpiry.close

end Sys2Proof.Machine
end

