-- ==== Sys2Proof/Machine/Audit.lean ====
section
/-! DEFINITION. Meanings of the requests on the audit unit, of the load-sensor inputs and of the settle and gate timers
(08_stock_audit.md). -/

namespace Sys2Proof.Machine

/-! ### AUDIT (R148) -/

/-- The carriers from the first to the last. -/
def carriersFrom (first last : Nat) : List Nat := (List.range (last + 1)).filter fun c => decide (first ≤ c)

/-- The carriers join the list in carrier order, and the carousel reacts to the work it has gained (R85, R88, R89, R148). -/
def State.joinCarriers (k : Nat) (cs joined : List Nat) (s : State) : State :=
  (cs.foldl (fun s c => s.joinAudit k c) s).gainWork k joined

/-- Members of a carousel's audit list. -/
def State.auditMembers (s : State) (k : Nat) : Nat :=
  match s.carousel? k with
  | some c => c.auditList.length
  | none => 0

/-- AUDIT as its owner handles it (R148). -/
def audit (k first last : Nat) (s : State) : Answer :=
  if s.mode = .config then s.refuse .wrongMode
  else
    match s.carousel? k with
    | none => s.refuse .badField
    | some c =>
      if c.geometry.n ≤ first ∨ c.geometry.n ≤ last ∨ last < first then s.refuse .badField
      else
        let joined := (carriersFrom first last).filter fun x => !c.auditList.contains x
        let s1 := s.joinCarriers k (carriersFrom first last) joined
        .reply s1.refresh .ok (.listed joined.length (s1.auditMembers k))

/-- AUDIT (R148). -/
def execAudit (tag k first last : Nat) (s : State) : Outcome :=
  .next (s.request 0x48 tag (.audit tag k first last) (audit k first last))

/-! ### Settings and calibration (R151, R162) -/

/-- SET_AUDIT_TIMING as its owner handles it (R151). -/
def setAuditTiming (settle gate : Nat) (s : State) : Answer :=
  .reply { s with settings := { s.settings with settleTime := clamp 50 1000 settle, gateTime := clamp 10 250 gate } } .ok
    (.auditTiming (clamp 50 1000 settle) (clamp 10 250 gate))

/-- SET_AUDIT_TIMING (R151). -/
def execSetAuditTiming (tag settle gate : Nat) (s : State) : Outcome :=
  .next (s.request 0x4A tag (.setAuditTiming tag settle gate) (setAuditTiming settle gate))

/-- SET_CAL as its owner handles it (R162). -/
def setCal (w i tare slope : Nat) (s : State) : Answer :=
  if 7 < w ∨ 5 < i ∨ 65535 < tare ∨ inRange 1 65535 slope = false then s.refuse .badField
  else
    .reply (s.onWindow w fun v => { v with calibrations := v.calibrations.set i ⟨tare, slope⟩ }) .ok
      (.calibration ⟨tare, slope⟩)

/-- SET_CAL (R162). -/
def execSetCal (tag w i tare slope : Nat) (s : State) : Outcome :=
  .next (s.request 0x4B tag (.setCal tag w i tare slope) (setCal w i tare slope))

/-- GET_CAL as its owner handles it (R162). -/
def getCal (w : Nat) (s : State) : Answer :=
  if 7 < w then s.refuse .badField else .reply s .ok (.calibrations (s.window w).calibrations)

/-- GET_CAL (R162). -/
def execGetCal (tag w : Nat) (s : State) : Outcome :=
  .next (s.request 0x4C tag (.getCal tag w) (getCal w))

/-! ### TARE (R163) -/

/-- Opens a tare count of carrier `c` at a window (R163, R89). A tare count judges no slot: the counts of its record, which R150
gives a measurement, are 0 (notes/assumptions/41). -/
def State.openTare (k w c i : Nat) (s : State) : State :=
  ((s.onWindow w fun v =>
    { v with measurement := some { purpose := .tare, carrier := c, position := i, phase := .channel, judged := 0, skipped := 0,
                                   matched := 0, mismatched := 0 } }).beginCount k w i 0).become k .presenting

/-- The slot facing a position of a window. -/
def State.facingSlot (s : State) (k w i : Nat) (c : Carousel) : Option Slot := s.slot? ⟨k, s.standing c w, i⟩

/-- TARE as its owner handles it (R163). -/
def tare (w i : Nat) (s : State) : Answer :=
  if s.mode = .config then s.refuse .wrongMode
  else
    match s.carouselOf w with
    | none => s.refuse .badField
    | some k =>
      match s.carousel? k with
      | none => s.refuse .badField
      | some c =>
        if c.geometry.s ≤ i then s.refuse .badField
        else if c.state ≠ .presenting ∧ c.state ≠ .idle then s.refuse .wrongState
        else if (s.facingSlot k w i c).map Slot.state ≠ some .free then s.refuse .wrongState
        else if (s.window w).inUse then s.refuse .busy
        else .reply (s.openTare k w (s.standing c w) i).refresh .accepted .none

/-- TARE (R163). -/
def execTare (tag w i : Nat) (s : State) : Outcome := .next (s.request 0x4D tag (.tare tag w i) (tare w i))

/-! ### GET_AUDIT and GET_DISCREPANCIES (R166, R167) -/

/-- Time left on the running timer of a count (R166). -/
def Phase.timeLeft (now : Time) : Phase → Option Nat
  | .channel => none
  | .settle e => some (Machine.timeLeft now e)
  | .gate e => some (Machine.timeLeft now e)

/-- What GET_AUDIT reports (R166). -/
def State.auditReport (s : State) (w : Nat) : AuditReport :=
  let v := s.window w
  { measurement := v.measurement, timeLeft := v.measurement.bind fun m => m.phase.timeLeft s.now, counter := v.counter,
    counterOpen := v.counterOpen, settle := s.settings.settleTime, gate := s.settings.gateTime }

/-- GET_AUDIT as its owner handles it (R166). -/
def getAudit (w : Nat) (s : State) : Answer :=
  if 7 < w then s.refuse .badField else .reply s .ok (.audit (s.auditReport w))

/-- GET_AUDIT (R166). -/
def execGetAudit (tag w : Nat) (s : State) : Outcome :=
  .next (s.request 0x4E tag (.getAudit tag w) (getAudit w))

/-- GET_DISCREPANCIES as its owner handles it (R167). -/
def getDiscrepancies (s : State) : Answer :=
  .reply s .ok (.discrepancies s.discrepancies s.discrepancies.length s.flags.discrepancyFull)

/-- GET_DISCREPANCIES (R167). -/
def execGetDiscrepancies (tag : Nat) (s : State) : Outcome :=
  .next (s.request 0x4F tag (.getDiscrepancies tag) getDiscrepancies)

/-! ### The counter and the settle timer (R154) -/

/-- Greatest value of a counter (R150). -/
def counterLast : Nat := 65535

/-- SENSOR_CYCLE (R154): an open counter rises by one and stays at 65535. -/
def execSensorCycle (w : Nat) (s : State) : Outcome :=
  .next (if (s.window w).counterOpen then s.onWindow w fun v => { v with counter := countUp counterLast v.counter } else s)

/-- Expiry of the settle timer (R154): the counter is cleared and opened, and the gate timer starts. -/
def State.settleExpiry (w : Nat) (s : State) : State :=
  match (s.window w).measurement with
  | some m =>
    match m.phase with
    | .settle e =>
      let s1 := s.reachTime e
      s1.onWindow w fun v =>
        { v with counter := 0, counterOpen := true,
                 measurement := some { m with phase := .gate (s1.now + ms s1.settings.gateTime) } }
    | _ => s
  | none => s

/-- SETTLE_EXPIRY (R154). -/
def execSettleExpiry (w : Nat) (s : State) : Outcome := .next (s.settleExpiry w)

/-! ### Load, estimate and judgement (R155, R156) -/

/-- Measured load from a count and the calibration of the window channel (R155). -/
def measuredLoad (count : Nat) (cal : Calibration) : Nat :=
  if count = counterLast then 9999
  else if count ≤ cal.tare then 0
  else min (((count - cal.tare) * cal.slope + 512) / 1024) 9999

/-- Number of tyres of unit weight `u` that a load represents (R155). -/
def estimateOf (load u : Nat) : Nat := min ((2 * load + u) / (2 * u)) 255

/-- The estimate of a counted slot, where one is formed (R155). -/
def State.estimate (s : State) (slot : Slot) (count load : Nat) : Option Nat :=
  if count = counterLast then none else slot.held.map fun h => estimateOf load (s.weightAt h.place)

/-- The result of a counted slot, by its record at the close of the gate (R156). -/
def judge (onHand count load : Nat) (estimate : Option Nat) : AuditOutcome :=
  if count = counterLast then .overrange
  else
    match estimate with
    | some e => if e = onHand then .matching else .mismatch
    | none => if load < 20 then .matching else .unexpectedLoad

/-- The quarantine reason of a result; none for MATCH (R156). -/
def AuditOutcome.reason : AuditOutcome → Option Reason
  | .mismatch => some .mismatch
  | .unexpectedLoad => some .unexpectedLoad
  | .overrange => some .overrange
  | _ => none

/-- The effect of a result on the slot (R156, step 1). -/
def State.applyResult (a : SlotAddr) (slot : Slot) (reason : Option Reason) (load : Nat) (s : State) : State :=
  match reason with
  | some r =>
    if slot.state = .quarantine then s.updateSlot a fun x => { x with reason := some r, measured := some load }
    else s.quarantine a r (some load)
  | none => if slot.state = .quarantine then s.writeSlot a slot.restored else s

/-- The effect of a result on the discrepancy list (R158), and what became of the slot's record. -/
def State.applyDiscrepancy (a : SlotAddr) (slot : Slot) (reason : Option Reason) (estimate : Option Nat) (load : Nat)
    (s : State) : State × RecordFate :=
  match reason with
  | some r =>
    let d : Discrepancy := { addr := a, kind := r, recorded := slot.onHand,
                             estimate := if r = .mismatch then estimate else none, load := load }
    if namesSlot s.discrepancies a then
      ({ s with discrepancies := s.discrepancies.map fun x => if x.addr = a then d else x }, .updated)
    else if s.discrepancies.length < Config.discrepancyPlaces then ({ s with discrepancies := s.discrepancies ++ [d] }, .made)
    else (s.setDiscrepancyFull, .notMade)
  | none =>
    if slot.state = .quarantine ∧ namesSlot s.discrepancies a = true then (s.removeDiscrepancy a, .removed) else (s, .none)

/-- The counts of a measurement after one judged slot (R156, step 4). -/
def Measurement.judge (m : Measurement) (matched : Bool) : Measurement :=
  { m with judged := m.judged + 1, matched := if matched then m.matched + 1 else m.matched,
           mismatched := if matched then m.mismatched else m.mismatched + 1 }

/-- State of a slot as notices report it. -/
def State.slotState (s : State) (a : SlotAddr) : SlotState :=
  match s.slot? a with
  | some slot => slot.state
  | none => .free

/-- The lines and articles that a result reaches (R156, step 5). -/
def State.resultReach (s : State) (a : SlotAddr) (slot : Slot) (reason : Option Reason) : Reach :=
  match reason with
  | some _ => { lines := if slot.state = .quarantine then [] else s.slotLines a, places := [], except := none }
  | none =>
    { lines := [],
      places := match slot.held with
        | some h => if slot.state = .quarantine ∧ 0 < slot.onHand then [h.place] else []
        | none => [],
      except := none }

/-- The judgement of the slot just counted, with its effects in the order of R156. -/
def State.judgeSlot (w : Nat) (a : SlotAddr) (slot : Slot) (count : Nat) (cal : Calibration) (s : State) : State :=
  let load := measuredLoad count cal
  let estimate := s.estimate slot count load
  let outcome := judge slot.onHand count load estimate
  let s1 := s.applyResult a slot outcome.reason load
  let s2 := s1.applyDiscrepancy a slot outcome.reason estimate load
  let result : AuditResult :=
    { window := w, addr := a, outcome := outcome, count := some count, load := some load, estimate := estimate,
      recorded := slot.onHand, code := slot.held.map (fun h => s.codeAt h.place), state := s1.slotState a, fate := s2.2 }
  let s3 := s2.1.notify (.auditResult result)
  (s3.onMeasurement w fun m => m.judge outcome.reason.isNone).reallocate (s.resultReach a slot outcome.reason)

/-- The end of a measurement or tare count with the dispatcher's test (R159, R164). -/
def State.finishCount (k w c : Nat) (s : State) : State :=
  (s.endMeasurement k w c (State.openAt k w c openFuel)).testWindows k

/-- The close of the gate of a MEASURE count (R156): judgement, then the seek of the next slot (R153). -/
def State.gateMeasure (k w : Nat) (m : Measurement) (s : State) : State :=
  let a : SlotAddr := ⟨k, m.carrier, m.position⟩
  let v := s.window w
  match s.slot? a with
  | some slot =>
    match (s.judgeSlot w a slot v.counter (v.calibrations.getD m.position ⟨0, 41⟩)).seekFrom k w m.carrier (m.position + 1) with
    | (s1, true) => s1.finishCount k w m.carrier
    | (s1, false) => s1
  | none => s.finishCount k w m.carrier

/-- The close of the gate of a TARE count (R164, R165). -/
def State.gateTare (k w : Nat) (m : Measurement) (s : State) : State :=
  let count := (s.window w).counter
  ((s.onWindow w fun v =>
    { v with calibrations := modifyAt (fun cal => { cal with tare := count }) m.position v.calibrations }).notify
      (.tared w m.position m.carrier (some count))).finishCount k w m.carrier

/-- Expiry of the gate timer of a window (R154, R156, R164). -/
def State.gateExpiry (w : Nat) (s : State) : State :=
  match (s.window w).measurement, s.carouselOf w with
  | some m, some k =>
    match m.phase with
    | .gate e =>
      let s1 := (s.reachTime e).onWindow w fun v => { v with counterOpen := false }
      match m.purpose with
      | .measure => s1.gateMeasure k w m
      | .tare => s1.gateTare k w m
    | _ => s
  | _, _ => s

/-- GATE_EXPIRY (R156, R164). -/
def execGateExpiry (w : Nat) (s : State) : Outcome := .next (s.gateExpiry w).close

end Sys2Proof.Machine
end

