-- ==== Sys2Proof/Machine/Links.lean ====
section
/-! DEFINITION. Meanings of the requests on the bay links, of the presence lines, lock reports, link timers, station replies and
test words (09_bay_links.md). -/

namespace Sys2Proof.Machine

/-! ### STATION_ACCESS and SET_BRIDGE_MODE (R175 to R178) -/

/-- A bridged access is handed over and in flight, with its ticket in mode DEFERRED (R175). -/
def State.openAccess (st : Nat) (a : Access) (s : State) : State :=
  (s.onLink st fun l => { l with access := some a }).handOver st (.access a.item a.dir a.value)

/-- The next ticket rises by one, and from 255 it becomes 1 (R177). -/
def nextTicketAfter (t : Nat) : Nat := if t < 255 then t + 1 else 1

/-- A STATION_ACCESS whose checks have passed, by the bridge mode in force (R176, R177). -/
def State.takeAccess (st item : Nat) (dir : AccessDir) (value : Nat) (s : State) : Answer :=
  match s.settings.bridgeMode with
  | .held => .wait (s.openAccess st { item := item, dir := dir, value := value, ticket := none }) (.access st)
  | .deferred =>
    .reply { s.openAccess st { item := item, dir := dir, value := value, ticket := some s.nextTicket } with
             nextTicket := nextTicketAfter s.nextTicket } .accepted (.ticket s.nextTicket)

/-- STATION_ACCESS as its owner handles it (R175). -/
def stationAccess (st item : Nat) (dir : Option AccessDir) (value : Nat) (s : State) : Answer :=
  match dir with
  | none => s.refuse .badField
  | some d =>
    if 4 < st ∨ 255 < item ∨ 65535 < value then s.refuse .badField
    else if !s.locked st then s.refuse .linkDown
    else if (s.link st).access.isSome then s.refuse .busy
    else s.takeAccess st item d value

/-- STATION_ACCESS (R175). -/
def execStationAccess (tag st item : Nat) (dir : Option AccessDir) (value : Nat) (s : State) : Outcome :=
  .next (s.request 0x50 tag (.stationAccess tag st item dir value) (stationAccess st item dir value))

/-- SET_BRIDGE_MODE as its owner handles it (R178). A value other than the two is outside the encodings, which R187 tests before
the owning rule. -/
def setBridgeMode (mode : Option BridgeMode) (s : State) : Answer :=
  match mode with
  | none => s.refuse .badField
  | some m =>
    if s.mode ≠ .config then s.refuse .wrongMode
    else if s.links.any fun l => l.access.isSome then s.refuse .busy
    else .reply { s with settings := { s.settings with bridgeMode := m } } .ok (.bridgeMode m)

/-- SET_BRIDGE_MODE (R178). -/
def execSetBridgeMode (tag : Nat) (mode : Option BridgeMode) (s : State) : Outcome :=
  .next (s.request 0x1C tag (.setBridgeMode tag mode) (setBridgeMode mode))

/-! ### LINK_TEST_START, LINK_TEST_STOP, GET_LINK (R179, R182, R183) -/

/-- The test record at the start of a test (R179, step 1). -/
def TestRecord.atStart (dir : TestDir) (latch : Latch) : TestRecord :=
  { dir := dir, latch := latch, errors := 0,
    result := match dir with
      | .inbound => .pass
      | .outbound => .pending,
    starting := true, unanswered := false, aborted := false, running := false, failUntil := none, wordExpiry := none,
    wordIndex := 0 }

/-- The activity check of LINK_TEST_START (R179, check 4). -/
def State.testWouldDisturb (s : State) (st : Nat) : Bool :=
  (if st = laneModule then s.merge.transfer.isSome
   else match s.carousel? st with
     | some c => decide (c.state ≠ .idle) && decide (c.state ≠ .offline)
     | none => false) || (s.link st).access.isSome

/-- What LINK_TEST_START does when its checks pass (R179). -/
def State.startTest (st : Nat) (dir : TestDir) (latch : Latch) (s : State) : State :=
  let s1 := s.onLink st fun l => { l with test := some (TestRecord.atStart dir latch) }
  let s2 := s1.leaveLocked st .testing .testStart .linkLost
  s2.onLink st (Link.send s2.now (.testStart dir))

/-- LINK_TEST_START as its owner handles it (R179). -/
def linkTestStart (st : Nat) (dir : Option TestDir) (latch : Option Latch) (s : State) : Answer :=
  match dir, latch with
  | some d, some l =>
    if 4 < st ∨ (d = .outbound ∧ l = .live) then s.refuse .badField
    else if (s.link st).state = .testing then s.refuse .busy
    else if !s.locked st then s.refuse .linkDown
    else if s.testWouldDisturb st then s.refuse .busy
    else .wait (s.startTest st d l).refresh (.testStart st)
  | _, _ => s.refuse .badField

/-- LINK_TEST_START (R179). -/
def execLinkTestStart (tag st : Nat) (dir : Option TestDir) (latch : Option Latch) (s : State) : Outcome :=
  .next (s.request 0x51 tag (.linkTestStart tag st dir latch) (linkTestStart st dir latch))

/-- LINK_TEST_STOP as its owner handles it (R182). -/
def linkTestStop (st : Nat) (s : State) : Answer :=
  if 4 < st then s.refuse .badField
  else if (s.link st).state ≠ .testing then s.refuse .wrongState
  else .wait ((s.onTest st TestRecord.halt).onLink st (Link.send s.now .testStop)) (.testStop st)

/-- LINK_TEST_STOP (R182). -/
def execLinkTestStop (tag st : Nat) (s : State) : Outcome :=
  .next (s.request 0x52 tag (.linkTestStop tag st) (linkTestStop st))

/-- Kind of a station command (R173). -/
def Command.kind : Command → CommandKind
  | .move _ _ _ => .move
  | .halt => .halt
  | .position _ => .position
  | .channel _ _ => .channel
  | .divert _ _ _ => .divert
  | .access _ _ _ => .access
  | .testStart _ => .testStart
  | .testStop => .testStop

/-- What GET_LINK reports (R183). -/
def State.linkReport (s : State) (st : Nat) : LinkReport :=
  let l := s.link st
  { state := l.state, present := l.present, settling := l.settle.isSome, queued := l.queue.length,
    outstanding := l.outstanding.map fun o => (o.command.kind, o.number, o.sends),
    access := l.access.map fun a => (a.item, a.dir, a.ticket), test := s.testReport st }

/-- GET_LINK as its owner handles it (R183). -/
def getLink (st : Nat) (s : State) : Answer :=
  if 4 < st then s.refuse .badField else .reply s .ok (.link (s.linkReport st))

/-- GET_LINK (R183). -/
def execGetLink (tag st : Nat) (s : State) : Outcome :=
  .next (s.request 0x53 tag (.getLink tag st) (getLink st))

/-! ### Presence and lock (R169, R182) -/

/-- PRESENCE_ACTIVE as the link takes it (R169). -/
def State.presenceActive (st : Nat) (s : State) : State :=
  let s1 := s.onLink st fun l => { l with present := true }
  if (s1.link st).state = .down then s1.changeLink st .training .presence else s1

/-- PRESENCE_ACTIVE (R169). -/
def execPresenceActive (st : Nat) (s : State) : Outcome := .next (if st < 5 then (s.presenceActive st).close else s)

/-- A test is aborted by a loss of presence (R182): a request that waits for the station's answer has its reply. -/
def State.abortTest (st : Nat) (s : State) : State :=
  let s1 := s.onTest st fun t => { t.halt.noAnswer with aborted := true }
  let s2 := (s1.onLink st Link.clearTraffic).changeLink st .down .presence
  (s2.endExchange (.testStart st) .linkDown .none).replyTestStop st

/-- PRESENCE_INACTIVE as the link takes it (R169, R170, R182). -/
def State.presenceInactive (st : Nat) (s : State) : State :=
  let s1 := s.onLink st fun l => { l with present := false }
  match (s1.link st).state with
  | .down => s1
  | .training => s1.changeLink st .down .presence
  | .locked => s1.leaveLocked st .down .presence .linkLost
  | .testing => s1.abortTest st

/-- PRESENCE_INACTIVE (R169, R182). -/
def execPresenceInactive (st : Nat) (s : State) : Outcome := .next (if st < 5 then (s.presenceInactive st).close else s)

/-- A lock report as the link takes it (R169, R170). That LINK_STATE is queued before what the told block queues, a LANE_FAULT at
attempt 3 (R146), is the model's choice (notes/assumptions/45). -/
def State.lockReport (st : Nat) (s : State) : State :=
  if (s.link st).state = .training then
    ((s.changeLink st .locked .lock).onLink st fun l =>
      { l with settle := some (s.now + ms Config.linkSettle) }).tellLocked st
  else s

/-- LOCK (R169). -/
def execLock (st : Nat) (s : State) : Outcome := .next (if st < 5 then (s.lockReport st).close else s)

/-! ### Link timers (R171, R172) -/

/-- Expiry of the link settle (R171): the head of the send queue is sent. -/
def State.linkSettled (st : Nat) (s : State) : State :=
  match (s.link st).settle with
  | some e =>
    let s1 := s.reachTime e
    s1.onLink st fun l => { l with settle := none }.sendHead s1.now
  | none => s

/-- LINK_SETTLE_EXPIRY (R171). -/
def execLinkSettleExpiry (st : Nat) (s : State) : Outcome := .next (s.linkSettled st)

/-- The command outstanding is sent again (R172). -/
def State.sendAgain (st : Nat) (o : Outstanding) (s : State) : State :=
  s.onLink st fun l => { l with outstanding := some { o with sends := o.sends + 1, expiry := s.now + ms Config.replyTime } }

/-- A TEST_START that goes unanswered ends the test, its record marked NO_RESPONSE (R179, R182). -/
def State.testStartUnanswered (st : Nat) (s : State) : State :=
  (s.endTest st fun t => { t.noAnswer with unanswered := true }).endExchange (.testStart st) .linkDown .none

/-- The third send of the command outstanding goes unanswered (R172, R175, R179, R182). An access that waits behind another command
ends as LINK_LOST (notes/assumptions/42). -/
def State.thirdUnanswered (st : Nat) (o : Outstanding) (s : State) : State :=
  match o.command with
  | .testStart _ => s.testStartUnanswered st
  | .testStop => (s.endTest st TestRecord.noAnswer).replyTestStop st
  | .access _ _ _ => s.leaveLocked st .training .noReply .timeout
  | _ => s.leaveLocked st .training .noReply .linkLost

/-- Expiry of the reply timer (R172). -/
def State.replyExpiry (st : Nat) (s : State) : State :=
  match (s.link st).outstanding with
  | some o =>
    let s1 := s.reachTime o.expiry
    if o.sends < Config.maxSends then s1.sendAgain st o else s1.thirdUnanswered st o
  | none => s

/-- REPLY_TIMER_EXPIRY (R172). -/
def execReplyTimerExpiry (st : Nat) (s : State) : Outcome := .next (s.replyExpiry st).close

/-! ### Replies of stations (R172, R173) -/

/-- The settle timer of a count starts at the ACK of its CHANNEL (R154). -/
def State.channelAcked (w i : Nat) (s : State) : State :=
  s.onMeasurement w fun m =>
    if m.phase = .channel ∧ m.position = i then { m with phase := .settle (s.now + ms s.settings.settleTime) } else m

/-- The station has answered TEST_START (R179, R180): the pattern begins. -/
def TestRecord.begin (now : Time) (t : TestRecord) : TestRecord :=
  { t with starting := false, running := true,
           wordExpiry := match t.dir with
             | .inbound => some (now + ms Config.testInterval)
             | .outbound => none }

/-- The direction of a station's test. -/
def State.testDir (s : State) (st : Nat) : Option TestDir := (s.link st).test.map (·.dir)

/-- ACK as the link and the owner of the command take it (R172, R173). -/
def State.acked (st number : Nat) (s : State) : State :=
  match s.answers st number with
  | some (.move _ _ _) => s.takeReply st
  | some .halt => s.takeReply st
  | some (.divert _ _ _) => s.takeReply st
  | some (.channel w i) => (s.takeReply st).channelAcked w i
  | some (.testStart _) =>
    ((s.takeReply st).onTest st (TestRecord.begin s.now)).endExchange (.testStart st) .ok .none
  | some .testStop => if s.testDir st = some .inbound then (s.endTest st id).replyTestStop st else s
  | _ => s

/-- ACK (R172, R173). -/
def execAck (st number : Nat) (s : State) : Outcome := .next (s.acked st number).close

/-- ACCESS_REPLY as the bridge takes it (R175). -/
def State.accessReply (st number : Nat) (value : Option Nat) (s : State) : State :=
  match s.answers st number with
  | some (.access _ _ _) =>
    (s.takeReply st).endAccess st (match value with
      | some v => .done v
      | none => .refused)
  | _ => s

/-- ACCESS_REPLY (R175). -/
def execAccessReply (st number : Nat) (value : Option Nat) (s : State) : Outcome := .next (s.accessReply st number value).close

/-- The result that an OUTBOUND test takes from the reply to TEST_STOP (R181). -/
def TestRecord.answered (v : TestVerdict) (errors : Nat) (t : TestRecord) : TestRecord :=
  { t with errors := errors,
           result := match v with
             | .pass => .pass
             | .fail => .fail }

/-- TEST_STOP_REPLY as the pattern test takes it (R173, R182): a reply of the wrong kind for the direction is ignored. -/
def State.testStopReply (st number : Nat) (answer : Option (TestVerdict × Nat)) (s : State) : State :=
  match s.answers st number, s.testDir st, answer with
  | some .testStop, some .outbound, some (v, errors) => (s.endTest st (TestRecord.answered v errors)).replyTestStop st
  | some .testStop, some .inbound, none => (s.endTest st id).replyTestStop st
  | _, _, _ => s

/-- TEST_STOP_REPLY (R182). -/
def execTestStopReply (st number : Nat) (answer : Option (TestVerdict × Nat)) (s : State) : Outcome :=
  .next (s.testStopReply st number answer).close

/-! ### The pattern of an INBOUND test (R180) -/

/-- A word of the test sequence is received (R180): the interval starts anew, and a word that differs counts one error. -/
def TestRecord.receive (now : Time) (word : Nat) (t : TestRecord) : TestRecord :=
  if t.running = true ∧ t.dir = .inbound then
    let next := { t with wordExpiry := some (now + ms Config.testInterval), wordIndex := t.wordIndex + 1 }
    if word = Config.testWord t.wordIndex then next else next.countError now
  else t

/-- TEST_WORD (R180). -/
def execTestWord (st word : Nat) (s : State) : Outcome := .next (s.onTest st (TestRecord.receive s.now word))

/-- An interval without a word counts one error, and the next interval starts (R180). -/
def State.testSilence (st : Nat) (s : State) : State :=
  match (s.link st).test.bind (·.wordExpiry) with
  | some e =>
    let s1 := s.reachTime e
    s1.onTest st fun t => { t with wordExpiry := some (e + ms Config.testInterval) }.countError s1.now
  | none => s

/-- TEST_WORD_TIMEOUT (R180). -/
def execTestWordTimeout (st : Nat) (s : State) : Outcome := .next (s.testSilence st)

end Sys2Proof.Machine
end

