-- ==== Sys2Proof/Machine/Receive.lean ====
section
/-! DEFINITION. The taking of the oldest waiting frame (R186): which request a frame spells, which owning rule handles it, and the
two events at which a frame is taken, FRAME_ARRIVAL and TRANSMIT_DONE (10_host_line_and_operating_modes.md). -/

namespace Sys2Proof

/-- Kind and tag of a command that is a request of the host line (section 10.4). -/
def Instr.request? : Instr → Option (Nat × Nat)
  | .unknownKind kind tag => some (kind, tag)
  | .status tag => some (0x01, tag)
  | .clearFlags tag _ _ _ => some (0x02, tag)
  | .start tag => some (0x03, tag)
  | .stop tag => some (0x04, tag)
  | .hold tag => some (0x05, tag)
  | .resume tag => some (0x06, tag)
  | .restart tag => some (0x07, tag)
  | .setArticle tag _ _ _ _ => some (0x10, tag)
  | .deleteArticle tag _ => some (0x11, tag)
  | .getArticle tag _ => some (0x12, tag)
  | .setCarousel tag _ _ _ _ _ _ => some (0x18, tag)
  | .setWindow tag _ _ _ => some (0x19, tag)
  | .setLane tag _ _ => some (0x1A, tag)
  | .setPutawayClass tag _ => some (0x1B, tag)
  | .setBridgeMode tag _ => some (0x1C, tag)
  | .loadSlot tag _ _ _ _ => some (0x1D, tag)
  | .withdraw tag _ => some (0x20, tag)
  | .editSlot tag _ _ _ _ => some (0x21, tag)
  | .restoreSlot tag _ => some (0x22, tag)
  | .getSlot tag _ => some (0x23, tag)
  | .getBalance tag _ _ => some (0x24, tag)
  | .putaway tag _ _ _ _ _ => some (0x28, tag)
  | .cancelPutaway tag _ => some (0x29, tag)
  | .getPutaway tag _ => some (0x2A, tag)
  | .submitOrder tag _ _ _ => some (0x30, tag)
  | .closeOrder tag _ => some (0x31, tag)
  | .cancelOrder tag _ => some (0x32, tag)
  | .ship tag _ => some (0x33, tag)
  | .getOrder tag _ => some (0x34, tag)
  | .recover tag _ => some (0x38, tag)
  | .getCarousel tag _ => some (0x39, tag)
  | .getWindow tag _ => some (0x3A, tag)
  | .laneCleared tag _ => some (0x40, tag)
  | .mergeResume tag => some (0x41, tag)
  | .setMergeTimeout tag _ => some (0x42, tag)
  | .getMerge tag => some (0x43, tag)
  | .audit tag _ _ _ => some (0x48, tag)
  | .resolveSlot tag _ _ _ _ => some (0x49, tag)
  | .setAuditTiming tag _ _ => some (0x4A, tag)
  | .setCal tag _ _ _ _ => some (0x4B, tag)
  | .getCal tag _ => some (0x4C, tag)
  | .tare tag _ _ => some (0x4D, tag)
  | .getAudit tag _ => some (0x4E, tag)
  | .getDiscrepancies tag => some (0x4F, tag)
  | .stationAccess tag _ _ _ _ => some (0x50, tag)
  | .linkTestStart tag _ _ _ => some (0x51, tag)
  | .linkTestStop tag _ => some (0x52, tag)
  | .getLink tag _ => some (0x53, tag)
  | _ => none

end Sys2Proof

namespace Sys2Proof.Machine

/-! ### The request that a frame spells (R187) -/

/-- The owning rule of a request (section 10.4, last column). A command that is no request of the line has none; no frame spells
one (`readRequest`). -/
def ownerOf : Instr → State → Answer
  | .unknownKind kind _ => unknownKind kind
  | .status _ => status
  | .clearFlags _ noticeLost rxOverrun discrepancyFull => clearFlags noticeLost rxOverrun discrepancyFull
  | .start _ => start
  | .stop _ => stop
  | .hold _ => hold
  | .resume _ => resume
  | .restart _ => restart
  | .setArticle _ code unitWeight sizeClass stackLimit => setArticle { code := code, unitWeight := unitWeight, sizeClass := sizeClass, stackLimit := stackLimit }
  | .deleteArticle _ code => deleteArticle code
  | .getArticle _ code => getArticle code
  | .setCarousel _ carousel n s positions limit stepTime => setCarousel carousel { n := n, s := s, positions := positions } limit stepTime
  | .setWindow _ window carousel loopPosition => setWindow window carousel loopPosition
  | .setLane _ lane capacity => setLane lane capacity
  | .setPutawayClass _ cls => setPutawayClass cls
  | .setBridgeMode _ mode => setBridgeMode mode
  | .loadSlot _ addr code batch onHand => loadSlot addr code batch onHand
  | .withdraw _ addr => withdraw addr
  | .editSlot _ addr code batch onHand => editSlot addr code batch onHand
  | .restoreSlot _ addr => restoreSlot addr
  | .getSlot _ addr => getSlot addr
  | .getBalance _ carousel form => getBalance carousel form
  | .putaway _ task code batch quantity preferred => putaway task code batch quantity preferred
  | .cancelPutaway _ task => cancelPutaway task
  | .getPutaway _ task => getPutaway task
  | .submitOrder _ order priority lines => submitOrder order priority lines
  | .closeOrder _ order => closeOrder order
  | .cancelOrder _ order => cancelOrder order
  | .ship _ order => ship order
  | .getOrder _ order => getOrder order
  | .recover _ carousel => recover carousel
  | .getCarousel _ carousel => getCarousel carousel
  | .getWindow _ window => getWindow window
  | .laneCleared _ lane => laneCleared lane
  | .mergeResume _ => mergeResume
  | .setMergeTimeout _ ms => setMergeTimeout ms
  | .getMerge _ => getMerge
  | .audit _ carousel first last => audit carousel first last
  | .resolveSlot _ addr code batch onHand => resolveSlot addr code batch onHand
  | .setAuditTiming _ settle gate => setAuditTiming settle gate
  | .setCal _ window position tare slope => setCal window position tare slope
  | .getCal _ window => getCal window
  | .tare _ window position => tare window position
  | .getAudit _ window => getAudit window
  | .getDiscrepancies _ => getDiscrepancies
  | .stationAccess _ station item dir value => stationAccess station item dir value
  | .linkTestStart _ station dir latch => linkTestStart station dir latch
  | .linkTestStop _ station => linkTestStop station
  | .getLink _ station => getLink station
  | _ => unknownKind 0

/-- The request of a kind whose payload is none (section 10.4). -/
def bareRequest (kind tag : Nat) : Option Instr :=
  match kind with
  | 0x01 => some (.status tag)
  | 0x03 => some (.start tag)
  | 0x04 => some (.stop tag)
  | 0x05 => some (.hold tag)
  | 0x06 => some (.resume tag)
  | 0x07 => some (.restart tag)
  | 0x41 => some (.mergeResume tag)
  | 0x43 => some (.getMerge tag)
  | 0x4F => some (.getDiscrepancies tag)
  | _ => none

/-- The request that a frame of bytes spells (R187): for a kind without payload that request, its payload being empty; for any
other kind what the free reading of the payload gives, as far as it is a request of that kind and tag. Every other frame, one of
a kind that names no request included, is an UNKNOWN_KIND. -/
def readRequest (kind tag : Nat) (payload : List Byte) : Instr :=
  match bareRequest kind tag with
  | some i => if payload = [] then i else .unknownKind kind tag
  | none =>
    match Config.readPayload kind tag payload with
    | some i => if i.request? = some (kind, tag) then i else .unknownKind kind tag
    | none => .unknownKind kind tag

/-- The request that a waiting frame spells. -/
def Frame.instr (f : Frame) : Instr :=
  match f.payload with
  | .bytes b => readRequest f.kind f.tag b
  | .request i => i

/-! ### Taking the oldest waiting frame (R186) -/

/-- With no request in progress the oldest waiting frame is taken and handled, and an idle transmitter chooses (R186 to R188). -/
def State.serve (s : State) : State :=
  match s.line.progress, s.line.buffer with
  | none, f :: _ => (s.handle f.kind f.tag (ownerOf f.instr)).transmit
  | _, _ => s

/-- The part receives one byte: a frame that arrives with it goes to the receive buffer, and is taken at once when no request is
in progress (R185, R186). -/
def State.receive (s : State) (b : Byte) : State :=
  let q := receiveByte s.line.address s.now s.line.receiver b
  let s1 := { s with line := { s.line with receiver := q.1 } }
  match q.2 with
  | some f => (s1.arrive f).serve
  | none => s1

/-- FRAME_ARRIVAL (R185, R186). -/
def execFrameArrival (bytes : List Byte) (s : State) : Outcome := .next (bytes.foldl State.receive s)

/-- The end of a frame sent, when it brings no reset (R186, R188): the reply of the request in progress ends that request, and the
oldest waiting frame is taken; then the transmitter chooses (notes/assumptions/5). -/
def State.sent (f : SentFrame) (s : State) : State :=
  match f.content with
  | .reply _ => (State.serve { s with line := { s.line with sending := none, progress := none } }).transmit
  | .notice _ => State.transmit { s with line := { s.line with sending := none } }

/-- A frame whose end resets the part: a RESTART's reply OK (R196). -/
def SentFrame.resets (f : SentFrame) : Bool :=
  match f.content with
  | .reply r => decide (r.kind = restartKind ∧ r.result = .ok)
  | .notice _ => false

/-- The reset that a RESTART brings (R196): the straps are read anew (R184), and their levels at that moment are a FREE VALUE
(notes/assumptions/2). -/
def State.restartReset (s : State) : State := State.performReset (Config.strapLevels s.draws) { s with draws := s.draws + 1 }

/-- TRANSMIT_DONE (R188): the frame being sent is finished, and a RESTART reply sent resets the part. -/
def execTransmitDone (s : State) : Outcome :=
  match s.line.sending with
  | some f => .next (if f.resets then s.restartReset else s.sent f)
  | none => .next s

end Sys2Proof.Machine
end

