-- ==== Sys2Proof/Machine/Dispatch.lean ====
section
/-! DEFINITION. What each command does: one arm per constructor of `Instr`, each one direct call of its meaning. -/

namespace Sys2Proof.Machine

/-- The effect of a command on everything but the queue of commands that wait. -/
def exec (i : Instr) (s : State) : Host.Outcome State Fault Refusal :=
  match i with
  | .reset straps => Sys2Proof.Machine.execReset straps s
  | .frameArrival bytes => Sys2Proof.Machine.execFrameArrival bytes s
  | .frameGapTimeout => Sys2Proof.Machine.execFrameGapTimeout s
  | .transmitDone => Sys2Proof.Machine.execTransmitDone s
  | .unknownKind kind tag => Sys2Proof.Machine.execUnknownKind kind tag s
  | .status tag => Sys2Proof.Machine.execStatus tag s
  | .clearFlags tag noticeLost rxOverrun discrepancyFull => Sys2Proof.Machine.execClearFlags tag noticeLost rxOverrun discrepancyFull s
  | .start tag => Sys2Proof.Machine.execStart tag s
  | .stop tag => Sys2Proof.Machine.execStop tag s
  | .hold tag => Sys2Proof.Machine.execHold tag s
  | .resume tag => Sys2Proof.Machine.execResume tag s
  | .restart tag => Sys2Proof.Machine.execRestart tag s
  | .setArticle tag code unitWeight sizeClass stackLimit => Sys2Proof.Machine.execSetArticle tag code unitWeight sizeClass stackLimit s
  | .deleteArticle tag code => Sys2Proof.Machine.execDeleteArticle tag code s
  | .getArticle tag code => Sys2Proof.Machine.execGetArticle tag code s
  | .setCarousel tag carousel n sl positions limit stepTime => Sys2Proof.Machine.execSetCarousel tag carousel n sl positions limit stepTime s
  | .setWindow tag window carousel loopPosition => Sys2Proof.Machine.execSetWindow tag window carousel loopPosition s
  | .setLane tag lane capacity => Sys2Proof.Machine.execSetLane tag lane capacity s
  | .setPutawayClass tag cls => Sys2Proof.Machine.execSetPutawayClass tag cls s
  | .setBridgeMode tag mode => Sys2Proof.Machine.execSetBridgeMode tag mode s
  | .loadSlot tag addr code batch onHand => Sys2Proof.Machine.execLoadSlot tag addr code batch onHand s
  | .withdraw tag addr => Sys2Proof.Machine.execWithdraw tag addr s
  | .editSlot tag addr code batch onHand => Sys2Proof.Machine.execEditSlot tag addr code batch onHand s
  | .restoreSlot tag addr => Sys2Proof.Machine.execRestoreSlot tag addr s
  | .getSlot tag addr => Sys2Proof.Machine.execGetSlot tag addr s
  | .getBalance tag carousel form => Sys2Proof.Machine.execGetBalance tag carousel form s
  | .putaway tag task code batch quantity preferred => Sys2Proof.Machine.execPutaway tag task code batch quantity preferred s
  | .cancelPutaway tag task => Sys2Proof.Machine.execCancelPutaway tag task s
  | .getPutaway tag task => Sys2Proof.Machine.execGetPutaway tag task s
  | .submitOrder tag order priority lines => Sys2Proof.Machine.execSubmitOrder tag order priority lines s
  | .closeOrder tag order => Sys2Proof.Machine.execCloseOrder tag order s
  | .cancelOrder tag order => Sys2Proof.Machine.execCancelOrder tag order s
  | .ship tag order => Sys2Proof.Machine.execShip tag order s
  | .getOrder tag order => Sys2Proof.Machine.execGetOrder tag order s
  | .recover tag carousel => Sys2Proof.Machine.execRecover tag carousel s
  | .getCarousel tag carousel => Sys2Proof.Machine.execGetCarousel tag carousel s
  | .getWindow tag window => Sys2Proof.Machine.execGetWindow tag window s
  | .laneCleared tag lane => Sys2Proof.Machine.execLaneCleared tag lane s
  | .mergeResume tag => Sys2Proof.Machine.execMergeResume tag s
  | .setMergeTimeout tag ms => Sys2Proof.Machine.execSetMergeTimeout tag ms s
  | .getMerge tag => Sys2Proof.Machine.execGetMerge tag s
  | .audit tag carousel first last => Sys2Proof.Machine.execAudit tag carousel first last s
  | .resolveSlot tag addr code batch onHand => Sys2Proof.Machine.execResolveSlot tag addr code batch onHand s
  | .setAuditTiming tag settle gate => Sys2Proof.Machine.execSetAuditTiming tag settle gate s
  | .setCal tag window position tare slope => Sys2Proof.Machine.execSetCal tag window position tare slope s
  | .getCal tag window => Sys2Proof.Machine.execGetCal tag window s
  | .tare tag window position => Sys2Proof.Machine.execTare tag window position s
  | .getAudit tag window => Sys2Proof.Machine.execGetAudit tag window s
  | .getDiscrepancies tag => Sys2Proof.Machine.execGetDiscrepancies tag s
  | .stationAccess tag station item dir value => Sys2Proof.Machine.execStationAccess tag station item dir value s
  | .linkTestStart tag station dir latch => Sys2Proof.Machine.execLinkTestStart tag station dir latch s
  | .linkTestStop tag station => Sys2Proof.Machine.execLinkTestStop tag station s
  | .getLink tag station => Sys2Proof.Machine.execGetLink tag station s
  | .presenceActive station => Sys2Proof.Machine.execPresenceActive station s
  | .presenceInactive station => Sys2Proof.Machine.execPresenceInactive station s
  | .lock station => Sys2Proof.Machine.execLock station s
  | .linkSettleExpiry station => Sys2Proof.Machine.execLinkSettleExpiry station s
  | .replyTimerExpiry station => Sys2Proof.Machine.execReplyTimerExpiry station s
  | .ack station number => Sys2Proof.Machine.execAck station number s
  | .positionReply station number p guards => Sys2Proof.Machine.execPositionReply station number p guards s
  | .accessReply station number value => Sys2Proof.Machine.execAccessReply station number value s
  | .testStopReply station number answer => Sys2Proof.Machine.execTestStopReply station number answer s
  | .testWord station word => Sys2Proof.Machine.execTestWord station word s
  | .testWordTimeout station => Sys2Proof.Machine.execTestWordTimeout station s
  | .moveDone station p => Sys2Proof.Machine.execMoveDone station p s
  | .moveFail station reason p => Sys2Proof.Machine.execMoveFail station reason p s
  | .stopped station p => Sys2Proof.Machine.execStopped station p s
  | .guard station window state p => Sys2Proof.Machine.execGuard station window state p s
  | .moveDeadlineExpiry carousel => Sys2Proof.Machine.execMoveDeadlineExpiry carousel s
  | .restartDelayExpiry carousel => Sys2Proof.Machine.execRestartDelayExpiry carousel s
  | .stopDeadlineExpiry carousel => Sys2Proof.Machine.execStopDeadlineExpiry carousel s
  | .minus window position => Sys2Proof.Machine.execMinus window position s
  | .confirm window position => Sys2Proof.Machine.execConfirm window position s
  | .arrived station t => Sys2Proof.Machine.execArrived station t s
  | .jammed station t => Sys2Proof.Machine.execJammed station t s
  | .transferDeadlineExpiry => Sys2Proof.Machine.execTransferDeadlineExpiry s
  | .sensorCycle window => Sys2Proof.Machine.execSensorCycle window s
  | .settleExpiry window => Sys2Proof.Machine.execSettleExpiry window s
  | .gateExpiry window => Sys2Proof.Machine.execGateExpiry window s
  | .keySampling window down => Sys2Proof.Machine.execKeySampling window down s

end Sys2Proof.Machine
end

