-- ==== Sys2Proof/Safety.lean ====
section
/-! DEFINITION. The vocabulary of the statements: when the host line can take a request and what its reply makes of the part;
what the reactions of the blocks leave as it was (four views of the state, each forgetting more than the one before); and the
invariants of the part. -/

namespace Sys2Proof.Machine

/-! ### Requests of the host line -/

/-- No request is in progress and no frame waits in the receive buffer (R186). -/
def State.lineFree (s : State) : Prop := s.line.progress = none ∧ s.line.buffer = []

/-- The reply of the request in progress is formed, and an idle transmitter takes it up (R187, R188). -/
def State.replied (r : Result) (b : ReplyBody) (s : State) : State := (s.formReply r b).transmit

/-- The whole outcome of a request that changes no record: it is in progress, and its reply is formed (R186, R187). -/
def State.answered (kind tag : Nat) (r : Result) (b : ReplyBody) (s : State) : State := (s.take kind tag).replied r b

/-- The bytes of a frame that the CRC covers: address, kind, tag, payload length, payload (section 10.2). -/
def frameBody (address kind tag : Byte) (payload : List Byte) : List Byte :=
  [address, kind, tag, BitVec.ofNat 8 payload.length] ++ payload

/-- The bytes of a frame on the line: start byte, body, and two CRC bytes, the high one first (section 10.2). -/
def frameBytes (address kind tag : Byte) (payload : List Byte) (crc : BitVec 16) : List Byte :=
  startByte :: (frameBody address kind tag payload ++ [(crc >>> 8).setWidth 8, crc.setWidth 8])

/-- The checks of START hold (R193): every configured carousel has a window; every configured window has a configured carousel
with its loop position below N, and no other window at the same place; there is a configured window and a configured lane. -/
def State.readyToStart (s : State) : Prop :=
  (∀ k c, s.carousel? k = some c → ∃ w, w < 8 ∧ s.carouselOf w = some k) ∧
    (∀ w k pos, w < 8 → (s.window w).assigned = some (k, pos) → ∃ c, s.carousel? k = some c ∧ pos < c.geometry.n) ∧
    (∀ w v a, w < 8 → v < 8 → w ≠ v → (s.window w).assigned = some a → (s.window v).assigned ≠ some a) ∧
    (∃ w, w < 8 ∧ (s.window w).assigned.isSome = true) ∧ ∃ l, some l ∈ s.lanes

/-- One slot address is lower than another: by carousel, then carrier, then slot position (00_scope.md, "Slot address"). -/
def addrBelow (a b : SlotAddr) : Prop :=
  a.carousel < b.carousel ∨ (a.carousel = b.carousel ∧
    (a.carrier < b.carrier ∨ (a.carrier = b.carrier ∧ a.slot < b.slot)))

/-! ### What the dispatcher, the windows and the counts leave as it was

A reaction of the dispatcher, of a window controller or of the audit unit (acting on the next target, opening and ending
presentations and measurements, sending a command to a station) changes the state part of carousels, the open presentations,
measurements, displays and headers of windows, the traffic of links, which picks are PRESENTED, and the notice queue. The view
`lasting` forgets exactly those. -/

/-- What reactions leave of a carousel: geometry, step time, slots, balance figures, position. -/
def Carousel.lasting (c : Carousel) : Carousel :=
  { c with state := .offline, resume := none, move := none, restart := none, query := none, work := [], passed := [],
           auditList := [], next := none }

/-- What reactions leave of a window: assignment, guard, rank, keys, outfeed queue, counter and calibrations. -/
def Window.lasting (v : Window) : Window :=
  { v with presentation := none, displays := [], header := Header.blank, measurement := none, counterOpen := false }

/-- What reactions leave of a link: state, presence, settle, bridged access, test record. -/
def Link.lasting (l : Link) : Link := { l with queue := [], outstanding := none, nextNumber := 0 }

/-- What reactions leave of a pick: all but its being PRESENTED. -/
def Pick.lasting (p : Pick) : Pick := { p with presented := false }

/-- What reactions leave of the part. -/
def State.lasting (s : State) : State :=
  { s with carousels := s.carousels.map fun c => c.map Carousel.lasting, windows := s.windows.map Window.lasting,
           links := s.links.map Link.lasting, picks := s.picks.map Pick.lasting, line := { s.line with notices := [] },
           flags := { s.flags with noticeLost := false } }

/-! ### What pick allocation leaves as it was

Allocation and cancellation of picks change also the pick pool with its creation count, the open-pick counts and short flags
of lines, the pick-reserved quantities of slots and with them the balance figures. -/

/-- What pick allocation leaves of a slot: all but pick-reserved. -/
def Slot.stored (x : Slot) : Slot := { x with reserved := 0 }

/-- What pick allocation leaves of a carousel: its slots but for pick-reserved, and of its figures B. -/
def Carousel.stored (c : Carousel) : Carousel :=
  { c with slots := c.slots.map Slot.stored,
           figures := { c.figures with committed := [], onHand := [], committedW := 0, onHandW := 0, overLimit := false } }

/-- What pick allocation leaves of a line: all but its open-pick count and short flag. -/
def Line.stored (l : Line) : Line := { l with openPicks := 0, short := false }

/-- What pick allocation leaves of an order: all but the open-pick counts and short flags of its lines. -/
def Order.stored (o : Order) : Order := { o with lines := o.lines.map Line.stored }

/-- What pick allocation leaves of the part. -/
def State.stored (s : State) : State :=
  { s.lasting with carousels := s.lasting.carousels.map fun c => c.map Carousel.stored, picks := [], creations := 0,
                   orders := s.orders.map Order.stored }

/-! ### What lane binding leaves as it was

A binding run changes also the states of lanes, the submission list and admission count, and the state, lane and admission
number of orders. -/

/-- What lane binding leaves of an order: tag, priority, and its lines but for open picks and short flags. -/
def Order.unbound (o : Order) : Order := { o with state := .waiting, lane := none, admission := none }

/-- What lane binding leaves of the part. -/
def State.unbound (s : State) : State :=
  { s.stored with orders := s.stored.orders.map Order.unbound, submission := [], admissions := 0,
                  lanes := s.lanes.map fun l => l.map fun l => { l with state := .free } }

/-! ### What put-away and quarantine leave as it was

The creation and cancellation of put-away targets, and quarantine entry and release, change also the tasks and the slot
records, of which the tyres that stand in each slot stay. -/

/-- Tyres standing in a slot by its record: its on-hand, none in a FREE slot. -/
def Slot.tyres (x : Slot) : Nat :=
  match x.state with
  | .free => 0
  | _ => x.onHand

/-- A carousel with each slot reduced to the tyres that stand in it. -/
def Carousel.counted (c : Carousel) : Carousel := { c with slots := c.slots.map fun x => { Slot.freeSlot with onHand := x.tyres } }

/-- What put-away and quarantine leave of the part. -/
def State.counted (s : State) : State :=
  { s.unbound with carousels := s.unbound.carousels.map fun c => c.map Carousel.counted, tasks := [] }

/-! ### Invariants -/

/-- The article table is sound (R1): places below 512 and rising, no code held twice, every field in range. -/
def State.articlesSound (s : State) : Prop :=
  s.articles.Pairwise (fun x y => x.1 < y.1 ∧ x.2.code ≠ y.2.code) ∧
    ∀ q ∈ s.articles, q.1 < Config.articlePlaces ∧ q.2.inRange = true

/-- The settings and the next ticket lie in their ranges (R49, R136, R151, R168). -/
def State.settingsInRange (s : State) : Prop :=
  inRange 1 4 s.settings.putawayClass = true ∧ inRange 2000 30000 s.settings.transferTimeout = true ∧
    inRange 50 1000 s.settings.settleTime = true ∧ inRange 10 250 s.settings.gateTime = true ∧
    inRange 1 255 s.nextTicket = true

/-- There are four carousels, eight windows, eight lanes and five links (00_scope.md). -/
def State.shaped (s : State) : Prop :=
  s.carousels.length = 4 ∧ s.windows.length = 8 ∧ s.lanes.length = 8 ∧ s.links.length = 5

/-- The pools hold no more than the part has places for (R41, R57, R158, R186, R189). -/
def State.poolsFit (s : State) : Prop :=
  s.tasks.length ≤ Config.taskPool ∧ s.orders.length ≤ Config.orderPool ∧ s.picks.length ≤ Config.pickPool ∧
    s.discrepancies.length ≤ Config.discrepancyPlaces ∧ s.line.buffer.length ≤ Config.receivePlaces ∧
    s.line.notices.length ≤ Config.noticePlaces

/-- The records held fit their places: 256 line records in all (R57), 8 targets of a task (R41), 8 places of an outfeed queue
(R122); and every priority is at most 63 (R58). -/
def State.recordsFit (s : State) : Prop :=
  total (s.orders.map fun o => o.lines.length) ≤ Config.linePool ∧ (∀ t ∈ s.tasks, t.targets.length ≤ Config.targetsPerTask) ∧
    (∀ v ∈ s.windows, v.outfeed.length ≤ Config.outfeedPlaces) ∧ ∀ o ∈ s.orders, o.priority ≤ 63

/-- The figures of a carousel agree among themselves: both W are the worst imbalances of their loads (R29), and BALANCE_OVER
says whether committed W is above B (R34). -/
def Figures.exact (f : Figures) : Prop :=
  f.committedW = worst f.committed ∧ f.onHandW = worst f.onHand ∧ f.overLimit = f.isOver

/-- The figures of every configured carousel agree among themselves. -/
def State.figuresExact (s : State) : Prop := ∀ k c, s.carousel? k = some c → c.figures.exact

/-- Every configured window has a rank, 0 to 7, no two the same, and no other window has one (R135, R137). -/
def State.ranksSound (s : State) : Prop :=
  (∀ w, w < 8 → ((s.window w).assigned.isSome = true ↔ (s.window w).rank.isSome = true)) ∧
    (∀ w r, w < 8 → (s.window w).rank = some r → r < 8) ∧
    ∀ w v r, w < 8 → v < 8 → w ≠ v → (s.window w).rank = some r → (s.window v).rank ≠ some r

/-- No frame waits while no request is in progress: the oldest would have been taken (R186). -/
def State.noFrameIdles (s : State) : Prop := s.line.progress = none → s.line.buffer = []

/-- The slot directory agrees with the article table and with the balance figures: each carousel has a record for each of its
slots (R7); a slot that holds an article holds one of the table, and fits it (R11); and the loads of a carrier are the sums of
the loads of its slots (R26, R30). -/
def State.directoryWeighed (s : State) : Prop :=
  s.articlesSound ∧ ∀ k c, s.carousel? k = some c →
    c.slots.length = c.geometry.n * c.geometry.s ∧
    c.figures.committed = (List.range c.geometry.n).map (fun i => total ((c.carrierSlots i).map fun x => (s.loads x).1)) ∧
    c.figures.onHand = (List.range c.geometry.n).map (fun i => total ((c.carrierSlots i).map fun x => (s.loads x).2)) ∧
    ∀ i j x h, s.slot? ⟨k, i, j⟩ = some x → x.held = some h →
      ∃ a, s.articleAt h.place = some a ∧ a.sizeClass ≤ c.geometry.widthClass j

/-- The sum of the quantities of the open picks that name a slot (R11). -/
def State.reservedOn (s : State) (a : SlotAddr) : Nat := total ((s.picks.filter fun p => decide (p.addr = a)).map fun p => p.quantity)

/-- The sum of the quantities of the OPEN put-away targets that name a slot (R11). -/
def State.pendingOn (s : State) (a : SlotAddr) : Nat :=
  total ((s.tasks.flatMap fun t => t.targets.filter (Target.openOn a)).map fun x => x.quantity)

/-- What a slot record keeps by itself (R9, and the first law of R11): pick-reserved at most on-hand; on-hand plus pending at most
8, which no limit exceeds, and with an article; a FREE slot with nothing; a STOCKED one with something; a WITHDRAWN or
QUARANTINE one without reservations. -/
def Slot.lawful (x : Slot) : Prop :=
  x.reserved ≤ x.onHand ∧ x.onHand + x.pending ≤ 8 ∧ (0 < x.onHand + x.pending → x.held.isSome = true) ∧
    match x.state with
    | .free => x = Slot.freeSlot
    | .stocked => 0 < x.onHand + x.pending ∧ x.measured = none ∧ x.reason = none
    | .withdrawn => x.reserved = 0 ∧ x.pending = 0 ∧ (x.held.isSome = true → 0 < x.onHand) ∧ x.measured = none ∧ x.reason = none
    | .quarantine => x.reserved = 0 ∧ x.pending = 0 ∧ x.reason.isSome = true

/-- The slot directory agrees with the pick pool and the tasks (R11, second law): what is reserved on a slot and pending on it is
what the open picks and the OPEN targets that name it say. Each of them names a slot there is, and a pick an order that is held;
pick numbers and task tags are distinct; and in CONFIG there is no order, task or pick (R194). -/
def State.reservationsSound (s : State) : Prop :=
  s.articlesSound ∧
    (∀ a x, s.slot? a = some x → x.lawful ∧ x.reserved = s.reservedOn a ∧ x.pending = s.pendingOn a) ∧
    (∀ p ∈ s.picks, 1 ≤ p.quantity ∧ (s.slot? p.addr).isSome = true ∧ (s.order? p.order).isSome = true) ∧
    (∀ t ∈ s.tasks, ∀ x ∈ t.targets, x.isOpen = true → 1 ≤ x.quantity ∧ (s.slot? x.addr).isSome = true) ∧
    (s.picks.map fun p => p.number).Nodup ∧ (s.tasks.map fun t => t.tag).Nodup ∧
    (s.mode = .config → s.orders = [] ∧ s.tasks = [] ∧ s.picks = [])

end Sys2Proof.Machine
end

