-- ==== Sys2Proof/Certificates/Slice0/Obligations.lean ====
section
/-! DEFINITION. The statements for the provers, file by file of the spec. -/

open Sys2Proof Sys2Proof.Machine

/-! ### The queue of commands, reset, the invariants -/

/-- A step takes the command at the front of the queue and runs it on the state with the queue's rest.
On an empty queue one ms passes (the model's choice, notes/assumptions/4): nothing changes but the timebase and the result
of a LIVE pattern test whose 100 ms after the last error have passed (R180). -/
def Obligations.StepTakesOneCommandOrOneMs : Prop :=
  (∀ (c : Instr) (rest : List Instr) (s : State), s.pending = c :: rest → step s = exec c { s with pending := rest }) ∧
  (∀ s : State, s.pending = [] → ∃ t, step s = .next t ∧ t.now = s.now + 1#32 ∧
     ({ t with now := s.now, links := s.links } : State) = s ∧
     t.links = s.links.map fun l => { l with test := l.test.map fun r => match r.failUntil with
       | some e => if expired (s.now + 1#32) e then { r with result := .pass, failUntil := none } else r
       | none => r })

/-- Every command in every state has a next state, and no command changes the queue of the commands that wait. That the queue is
no part of what a command changes, RESET and a sent RESTART reply included, is the model's choice (notes/assumptions/25): the
manual knows no such queue. -/
def Obligations.EveryCommandAnswersNextAndKeepsTheQueue : Prop :=
  ∀ (i : Instr) (s : State), ∃ t, exec i s = .next t ∧ t.pending = s.pending

/-- RESET gives every block its values after reset (R1, R23, R41, R49, R57, R81, R108, R129, R135, R150, R158, R168, R178, R184
to R190, R192, R196). The model's own are: the timebase 0 and the way the straps spell the address (notes/assumptions/1 and 2),
the queue of commands, which stays (notes/assumptions/25), the count of free values drawn, which stays (the same),
the empty list of presses (notes/assumptions/21) and the dark blink phase (notes/assumptions/22). -/
def Obligations.ResetGivesEveryBlockItsValuesAfterReset : Prop :=
  (∀ (straps : BitVec 2) (s : State), exec (.reset straps) s = .next
    { pending := s.pending, draws := s.draws, now := 0#32, straps := straps, mode := .config,
      line := { address := 0x31#8 + straps.setWidth 8, receiver := .hunting, buffer := [], progress := none, reply := none,
                sending := none, notices := [] },
      flags := { noticeLost := false, rxOverrun := false, discrepancyFull := false },
      settings := { putawayClass := 2, bridgeMode := .held, transferTimeout := 8000, settleTime := 200, gateTime := 100 },
      articles := [], carousels := [none, none, none, none],
      windows := List.replicate 8
        { assigned := none, guard := .closed, rank := none, presentation := none,
          displays := List.replicate 6 { mode := .blank, quantity := 0, lane := none, blink := false },
          header := { carrier := none, status := .blank }, keys := List.replicate 6 { minus := .up, confirm := .up },
          presses := [], blinkLit := false, shown := none, outfeed := [], measurement := none, counter := 0,
          counterOpen := false, calibrations := List.replicate 6 { tare := 0, slope := 41 } },
      tasks := [], orders := [], submission := [], admissions := 0, creations := 0, picks := [],
      lanes := List.replicate 8 none, merge := { state := .running, nextNumber := 0, transfer := none }, discrepancies := [],
      links := s.links.map fun l =>
        { state := if l.present then .training else .down, present := l.present, settle := none, queue := [],
          outstanding := none, nextNumber := 0, access := none, test := none },
      nextTicket := 1 }) ∧
    ∀ straps : BitVec 2, 0x31#8 + straps.setWidth 8 ∈ [0x31#8, 0x32#8, 0x33#8, 0x34#8]

/-- The state after reset meets every invariant of the part, and its links are DOWN (no presence, notes/assumptions/2). -/
def Obligations.StateAfterResetMeetsTheInvariants : Prop :=
  State.reset.articlesSound ∧ State.reset.settingsInRange ∧ State.reset.shaped ∧ State.reset.poolsFit ∧
    State.reset.figuresExact ∧ State.reset.lineFree ∧ (∀ l ∈ State.reset.links, l.state = .down) ∧
    State.reset.ranksSound ∧ State.reset.noFrameIdles ∧ State.reset.directoryWeighed ∧ State.reset.reservationsSound ∧
    State.reset.recordsFit

/-- Every step keeps the article table sound (R1, R3 to R5). -/
def Obligations.EveryStepKeepsTheArticleTableSound : Prop :=
  ∀ s t : State, s.articlesSound → step s = .next t → t.articlesSound

/-- Every step keeps the settings and the next ticket in their ranges (R49, R136, R151, R177).
Every step keeps the numbers of carousels, windows, lanes and links, and with them the ranks sound: every configured window has
a rank, 0 to 7, no two the same, and no other window has one (R135, R137).
No frame waits while no request is in progress: the oldest has been taken (R186). -/
def Obligations.EveryStepKeepsTheSettingsAndTheUnits : Prop :=
  (∀ s t : State, s.settingsInRange → step s = .next t → t.settingsInRange) ∧
  (∀ s t : State, s.shaped → step s = .next t → t.shaped) ∧
  (∀ s t : State, s.shaped → s.ranksSound → step s = .next t → t.ranksSound) ∧
  (∀ s t : State, s.noFrameIdles → step s = .next t → t.noFrameIdles)

/-- Every step keeps the pools within their places (R41, R57, R158, R186, R189).
Every step keeps the line records of all orders together at most 256 (R57), the targets of a task at most 8 (R41), the items in a
window's outfeed queue at most 8 (R122), and every priority at most 63 (R58). -/
def Obligations.EveryStepKeepsThePoolsInBounds : Prop :=
  (∀ s t : State, s.poolsFit → step s = .next t → t.poolsFit) ∧
  (∀ s t : State, s.recordsFit → step s = .next t → t.recordsFit)

/-- Every step keeps the balance figures exact (R29, R34): both W are the worst imbalances of the carrier loads, and
BALANCE_OVER is set just when committed W is above B. -/
def Obligations.EveryStepKeepsTheBalanceFiguresExact : Prop :=
  ∀ s t : State, s.figuresExact → step s = .next t → t.figuresExact

/-! ### The host line (10_host_line_and_operating_modes.md) -/

/-- On a free line a request either has a reply that leaves every record as it was, or it is granted with OK or ACCEPTED, or it
waits for its station (STATION_ACCESS, LINK_TEST_START, LINK_TEST_STOP): a refused request changes no record (R187). -/
def Obligations.ARefusedRequestChangesNoRecord : Prop :=
  ∀ (i : Instr) (kind tag : Nat) (s : State), i.request? = some (kind, tag) → s.lineFree →
    (∃ (r : Result) (b : ReplyBody), exec i s = .next (s.answered kind tag r b)) ∨
    (∃ (u : State) (r : Result) (b : ReplyBody), (r = .ok ∨ r = .accepted) ∧ exec i s = .next (u.replied r b)) ∨
    ((kind = 0x50 ∨ kind = 0x51 ∨ kind = 0x52) ∧ ∃ (u : State) (e : Exchange), exec i s = .next (u.awaitExchange e).transmit)

/-- A request with tag 0 is refused BAD_FIELD and changes no record (R187, case 1).
While a request is in progress or a frame waits, another request joins the receive buffer, or is dropped with RX_OVERRUN when two
frames wait there (R186). That a command with the fields of a request stands for the arrival of its frame, kept there as the
request it spells, is the model's choice (notes/assumptions/6). -/
def Obligations.ARequestWithTagZeroIsRefusedAndABusyLineWaits : Prop :=
  (∀ (i : Instr) (kind : Nat) (s : State), i.request? = some (kind, 0) → s.lineFree →
     exec i s = .next (s.answered kind 0 .badField .none)) ∧
  (∀ (i : Instr) (kind tag : Nat) (s : State), i.request? = some (kind, tag) → ¬s.lineFree →
     exec i s = .next (State.transmit
       (if s.line.buffer.length < 2 then
         { s with line := { s.line with buffer := s.line.buffer ++ [{ kind := kind, tag := tag, payload := .request i }] } }
       else { s with flags := { s.flags with rxOverrun := true } })))

/-- A whole frame for this part joins the receive buffer, or is dropped with RX_OVERRUN when two frames wait; one whose CRC,
address or kind does not fit is dropped without trace (R185, R186). A frame that has joined is taken at once when no request is
in progress, the oldest that waits being the one taken: it is handled by its owning rule, and an idle transmitter chooses
(R186 to R188). On a free line a request has the effect of its frame. How the bytes of a payload spell a request is free
(notes/assumptions/6), but for the kinds without payload; the request spelled always has the frame's kind and tag, and a kind
that names no request is an UNKNOWN_KIND.
FRAME_GAP_TIMEOUT drops the frame begun, 11 ms after its last byte at the earliest (R185; notes/assumptions/7): the
receiver hunts, and nothing else changes but the timebase and what time alone changes. -/
def Obligations.FramesArriveWholeOrAreDropped : Prop :=
  (∀ (s : State) (address kind tag : Byte) (payload : List Byte) (crc : BitVec 16),
     s.line.receiver = .hunting → payload.length ≤ 200 →
     exec (.frameArrival (frameBytes address kind tag payload crc)) s = .next
       (if crc = crc16 (frameBody address kind tag payload) ∧ address = s.line.address ∧ kind.toNat < 127 then
         State.serve (if s.line.buffer.length < 2 then
           { s with line := { s.line with
               buffer := s.line.buffer ++ [{ kind := kind.toNat, tag := tag.toNat, payload := .bytes payload }] } }
         else { s with flags := { s.flags with rxOverrun := true } })
       else s)) ∧
  ((∀ s : State, s.line.progress ≠ none ∨ s.line.buffer = [] → s.serve = s) ∧
   (∀ (s : State) (f : Frame) (rest : List Frame), s.line.progress = none → s.line.buffer = f :: rest →
     s.serve = (s.handle f.kind f.tag (ownerOf f.instr)).transmit) ∧
   (∀ (i : Instr) (kind tag : Nat) (s : State), i.request? = some (kind, tag) → s.lineFree →
     exec i s = .next (State.serve { s with line := { s.line with
       buffer := [{ kind := kind, tag := tag, payload := .request i }] } })) ∧
   (∀ (kind tag : Nat) (payload : List Byte), (readRequest kind tag payload).request? = some (kind, tag) ∧
     (kind ∉ requestKinds → readRequest kind tag payload = .unknownKind kind tag)) ∧
   ∀ (tag : Nat) (payload : List Byte), ∀ q ∈ [(0x01, Instr.status tag), (0x03, .start tag), (0x04, .stop tag), (0x05, .hold tag),
     (0x06, .resume tag), (0x07, .restart tag), (0x41, .mergeResume tag), (0x43, .getMerge tag), (0x4F, .getDiscrepancies tag)],
     readRequest q.1 tag payload = if payload = [] then q.2 else .unknownKind q.1 tag) ∧
  (∀ (s : State) (bytes : List Byte) (last : Time), s.line.receiver = .inFrame bytes last →
     ∃ t, exec .frameGapTimeout s = .next t ∧
       t = { s.reachTime (last + 11#32) with line := { s.line with receiver := .hunting } } ∧
       expired t.now (last + 11#32) = true)

/-- TRANSMIT_DONE of a reply ends the request in progress and the oldest waiting frame is taken, that of a RESTART reply resets
the part as RESET does, the straps read anew, and TRANSMIT_DONE of a notice ends the sending; then an idle transmitter takes
the formed reply first, else the oldest notice (R184, R186, R188, R196; the instant: notes/assumptions/5). The strap levels
that a RESTART's reset reads are a free value, and the model counts the reading (notes/assumptions/2). A frame's payload begins
with its code: that of the result in a reply (R187), that of the notice kind in a notice (R188).
A notice is appended while fewer than 32 are held, else it is dropped with NOTICE_LOST set (R189). -/
def Obligations.TheTransmitterAndTheNoticeQueue : Prop :=
  ((∀ (s : State) (f : SentFrame) (r : Reply), s.line.sending = some f → f.content = .reply r →
     ¬(r.kind = 0x07 ∧ r.result = .ok) →
     exec .transmitDone s = .next (State.transmit (State.serve
       { s with line := { s.line with sending := none, progress := none } }))) ∧
   (∀ (s : State) (f : SentFrame) (n : Notice), s.line.sending = some f → f.content = .notice n →
     exec .transmitDone s = .next (State.transmit { s with line := { s.line with sending := none } })) ∧
   (∀ (s : State) (f : SentFrame) (r : Reply), s.line.sending = some f → f.content = .reply r → r.kind = 0x07 →
     r.result = .ok → ∃ straps : BitVec 2, exec .transmitDone s = exec (.reset straps) { s with draws := s.draws + 1 }) ∧
   (∀ s : State, s.line.sending = none → exec .transmitDone s = .next s) ∧
   (∀ (s : State) (r : Reply), s.line.sending = none → s.line.reply = some r →
     s.transmit = { s with line := { s.line with
       reply := none,
       sending := some { address := s.line.address, kind := r.kind + 128, tag := r.tag, code := r.result.code,
                         content := .reply r } } }) ∧
   (∀ (s : State) (n : Notice) (ns : List Notice), s.line.sending = none → s.line.reply = none → s.line.notices = n :: ns →
     s.transmit = { s with line := { s.line with
       notices := ns,
       sending := some { address := s.line.address, kind := 127, tag := 0, code := n.code, content := .notice n } } }) ∧
   (∀ (s : State) (f : SentFrame), s.line.sending = some f → s.transmit = s)) ∧
  ([Result.ok, .accepted, .unknownKind, .badField, .wrongMode, .wrongState, .busy, .noSpace, .noRoom, .notFound, .duplicate,
    .inUse, .linkDown, .tooLarge, .badConfig].map Result.code = List.range 15 ∧
   ∀ n : Notice, n.code = match n with
     | .orderState _ _ _ _ _ _ => 1
     | .lineShort _ _ _ _ _ _ _ _ => 2
     | .putawayDone _ _ _ _ _ _ _ _ => 3
     | .auditResult _ => 4
     | .tared _ _ _ _ => 4
     | .shortPick _ => 5
     | .moveFault _ _ _ _ _ => 6
     | .positionChanged _ _ _ _ _ => 7
     | .linkState _ _ _ _ => 8
     | .laneFault _ _ _ _ _ => 9
     | .balance _ _ _ _ _ => 10
     | .bridgeResult _ _ _ _ _ => 11) ∧
  (∀ (s : State) (n : Notice),
     (s.line.notices.length < 32 → s.notify n = { s with line := { s.line with notices := s.line.notices ++ [n] } }) ∧
     (32 ≤ s.line.notices.length → s.notify n = { s with flags := { s.flags with noticeLost := true } }))

/-- UNKNOWN_KIND, STATUS, CLEAR_FLAGS and RESTART are answered at once; of them CLEAR_FLAGS alone writes a record, the flags it
names (R187, R190, R191, R196). STATUS reports what R191 lists, and B of each carousel (R36). That a command UNKNOWN_KIND with a
kind of the table stands for a payload that does not fit that kind, and gives BAD_FIELD, is deduced (notes/assumptions/24). -/
def Obligations.LineRequestsAreAnsweredAtOnce : Prop :=
  ∀ (s : State) (tag : Nat), s.lineFree → tag ≠ 0 →
    (∀ kind, kind ∉ requestKinds → exec (.unknownKind kind tag) s = .next (s.answered kind tag .unknownKind .none)) ∧
    (∀ kind, kind ∈ requestKinds → exec (.unknownKind kind tag) s = .next (s.answered kind tag .badField .none)) ∧
    exec (.status tag) s = .next (s.answered 0x01 tag .ok (.status
      { mode := s.mode, address := s.line.address, flags := s.flags, merge := s.merge.state,
        carousels := s.carousels.map fun o => o.map fun c =>
          { state := c.state, p := c.p, limit := c.figures.limit, overLimit := c.figures.overLimit,
            committedW := c.figures.committedW, onHandW := c.figures.onHandW },
        links := s.links.map fun l => l.state, articles := s.articles.length, tasks := s.tasks.length,
        orders := s.orders.length, lines := total (s.orders.map fun o => o.lines.length), picks := s.picks.length,
        discrepancies := s.discrepancies.length, notices := s.line.notices.length,
        lanes := (s.lanes.filter fun l => l.isSome).length,
        freeLanes := ((List.range 8).filter fun n => decide ((s.lanes.getD n none).map (fun l => l.state) = some .free)).length,
        putawayClass := s.settings.putawayClass, bridgeMode := s.settings.bridgeMode })) ∧
    (∀ n o d, ∃ f : Flags, f.noticeLost = (s.flags.noticeLost && !n) ∧ f.rxOverrun = (s.flags.rxOverrun && !o) ∧
      f.discrepancyFull = (s.flags.discrepancyFull && !d) ∧
      exec (.clearFlags tag n o d) s = .next (State.answered 0x02 tag .ok (.flags f) { s with flags := f })) ∧
    exec (.restart tag) s = .next (s.answered 0x07 tag .ok .none)

/-- START with its checks passed (R193, R106, R108, R135): RUN mode, merge RUNNING, each configured window with rank its own
number, its keys UP and its displays BLANK, each configured carousel OFFLINE with resume state IDLE, its position not known
and its passed-over counts 0, asking its station for the position if the link is LOCKED and no query is in flight. A window at
which nothing is presented or measured has a BLANK header without carrier number (R117). Nothing else lasting changes but the
model's own list of presses, which is empty (notes/assumptions/21).
STOP with no order, no task and every carousel IDLE or OFFLINE (R194, R106): CONFIG mode, and every configured carousel
OFFLINE with resume state IDLE, position not known and its query abandoned; the header of every configured window is BLANK, and
without carrier number where nothing is presented or measured (R117). Nothing else lasting changes. -/
def Obligations.StartAndStopChangeTheMode : Prop :=
  (∀ (s : State) (tag : Nat), s.lineFree → tag ≠ 0 → s.shaped → s.mode = .config → s.readyToStart →
     ∃ u : State, exec (.start tag) s = .next (u.replied .ok .none) ∧
       (∀ k c, s.carousel? k = some c → ∃ d : Carousel, u.carousel? k = some d ∧ d.state = .offline ∧ d.resume = some .idle ∧
         d.passed = c.passed.map (fun _ => 0) ∧
         d.query = (if c.query = none ∧ s.locked k = true then some .start else c.query) ∧
         u.link k = if c.query = none then (s.link k).handOver s.now (.position true) else s.link k) ∧
       (∀ w, w < 8 → (s.window w).assigned.isSome = true →
         (u.window w).displays = List.replicate 6 Display.blank ∧
         ((s.window w).presentation = none → (s.window w).measurement = none →
           (u.window w).header = { carrier := none, status := .blank })) ∧
       u.lasting = ({ s.take 0x03 tag with
         mode := .run, merge := { s.merge with state := .running },
         carousels := s.carousels.map fun c => c.map fun c => { c with known := false },
         windows := s.windows.mapIdx fun w v =>
           if v.assigned.isSome then
             { v with rank := some w, keys := List.replicate 6 { minus := .up, confirm := .up }, presses := [] }
           else v } : State).lasting) ∧
  (∀ (s : State) (tag : Nat), s.lineFree → tag ≠ 0 → s.shaped → s.mode ≠ .config → s.orders = [] → s.tasks = [] →
     (∀ k c, s.carousel? k = some c → c.state = .idle ∨ c.state = .offline) →
     ∃ u : State, exec (.stop tag) s = .next (u.replied .ok .none) ∧
       (∀ k c, s.carousel? k = some c → ∃ d : Carousel, u.carousel? k = some d ∧ d.state = .offline ∧ d.resume = some .idle ∧
         d.query = none) ∧
       (∀ w, w < 8 → (s.window w).assigned.isSome = true →
         (u.window w).header.status = .blank ∧
         ((s.window w).presentation = none → (s.window w).measurement = none →
           (u.window w).header = { carrier := none, status := .blank })) ∧
       u.lasting = ({ s.take 0x04 tag with
         mode := .config, carousels := s.carousels.map fun c => c.map fun c => { c with known := false } } : State).lasting)

/-- HOLD in RUN mode (R97, R195): HOLD mode; every MOVING or SUSPENDED carousel becomes STOPPING, its restart delay cancelled,
its stop deadline 2 × step time + 2000 ms from now, and HALT handed to its station; every other carousel keeps its state.
Nothing lasting changes but the mode.
RESUME in HOLD mode (R99, R195): RUN mode, and carousel after carousel reacts, 0 to 3 (the order is the model's choice,
notes/assumptions/39): a HELD one becomes PRESENTING while a window of it is in use, else IDLE and acts; an IDLE one acts; any
other stays as it is. Nothing lasting changes but the mode.
An IDLE carousel acts on its next target (R84, R87, R88): with none it stays; a carrier that needs no step has the counts of its
rivals raised and presentations opened at the standing carriers, and if no window is then in use the carousel acts again; any
other has to wait in HOLD mode, is suspended before it starts while a guard of the carousel is OPEN, and is fetched by a MOVE
at the speed the balance unit gives, with its deadline. That the acts of one event are at most 50 in a row is the model's own
bound, above every depth the manual's limits allow (deduced, notes/assumptions/31); the manual gives no number. -/
def Obligations.HoldAndResumeChangeTheMode : Prop :=
  (∀ (s : State) (tag : Nat), s.lineFree → tag ≠ 0 → s.shaped → s.mode = .run →
     ∃ u : State, exec (.hold tag) s = .next (u.replied .ok .none) ∧
       (∀ k c, s.carousel? k = some c → ∃ d : Carousel, u.carousel? k = some d ∧
         if c.state = .moving ∨ c.state = .suspended then
           d.state = .stopping ∧ d.restart = none ∧
           d.move = (c.move.map fun m => { m with deadline := some (s.now + ms (2 * c.stepTime + 2000)) }) ∧
           u.link k = (s.link k).handOver s.now .halt
         else d.state = c.state ∧ d.restart = c.restart ∧ d.move = c.move ∧ u.link k = s.link k) ∧
       u.lasting = ({ s.take 0x05 tag with mode := .hold } : State).lasting) ∧
  (∀ (s : State) (tag : Nat), s.lineFree → tag ≠ 0 → s.mode = .hold →
     let u := State.refresh ([0, 1, 2, 3].foldl State.resumeCarousel { s.take 0x06 tag with mode := .run })
     exec (.resume tag) s = .next (u.replied .ok .none) ∧
       u.lasting = ({ s.take 0x06 tag with mode := .run } : State).lasting ∧
       ((∀ k c, s.carousel? k = some c → c.state ≠ .held ∧ c.state ≠ .idle) →
         u = State.refresh { s.take 0x06 tag with mode := .run })) ∧
  (∀ (s : State) (k : Nat) (c : Carousel), s.carousel? k = some c →
     let used := ∃ w ∈ s.windowsOf k, (s.window w).presentation ≠ none ∨ (s.window w).measurement ≠ none
     (c.state = .held → used → s.resumeCarousel k = s.setCarousel k { c with state := .presenting }) ∧
     (c.state = .held → ¬used → s.resumeCarousel k = (s.setCarousel k { c with state := .idle }).recompute k) ∧
     (c.state = .idle → s.resumeCarousel k = s.recompute k) ∧
     (c.state ≠ .held → c.state ≠ .idle → s.resumeCarousel k = s)) ∧
  (∀ (s : State) (k : Nat), s.recompute k = s.act k 50) ∧
  (∀ (s : State) (k fuel : Nat) (c : Carousel), s.carousel? k = some c → c.state = .idle →
     (s.nextTarget k = none → s.act k (fuel + 1) = s) ∧
     ∀ x cls plan, s.nextTarget k = some (x, cls, plan) →
       let raised := (List.range c.passed.length).map fun i =>
         if i ≠ x ∧ s.carrierClass k i = some cls ∧ c.passed.getD i 0 < 7 then c.passed.getD i 0 + 1 else c.passed.getD i 0
       let opened := (s.setCarousel k { c with passed := raised, state := .presenting }).openStanding k
       let used := ∃ w ∈ opened.windowsOf k, (opened.window w).presentation ≠ none ∨ (opened.window w).measurement ≠ none
       let guarded := ∃ w ∈ s.windowsOf k, (s.window w).guard = .opened
       (plan.steps = 0 → used → s.act k (fuel + 1) = opened) ∧
       (plan.steps = 0 → ¬used →
         s.act k (fuel + 1) = (opened.onCarousel k fun d => { d with state := .idle }).act k fuel) ∧
       (plan.steps ≠ 0 → s.mode = .hold → s.act k (fuel + 1) = s) ∧
       (plan.steps ≠ 0 → s.mode ≠ .hold → guarded → s.act k (fuel + 1) = s.setCarousel k
         { c with passed := raised, state := .suspended, restart := none,
                  move := some { carrier := x, plan := plan, speed := none, deadline := none } }) ∧
       (plan.steps ≠ 0 → s.mode ≠ .hold → ¬guarded → s.act k (fuel + 1) = (s.setCarousel k
         { c with passed := raised, state := .moving, restart := none,
                  move := some { carrier := x, plan := plan, speed := some c.figures.speed,
                                 deadline := some (s.now + ms
                                   (plan.steps * c.stepTime * (if c.figures.speed = .creep then 2 else 1) + 2000)) } }).onLink k
         (Link.handOver s.now (.move plan.targetP plan.direction c.figures.speed))))

/-! ### The article table (01_articles_and_the_slot_directory.md, section 1.1) -/

/-- SET_ARTICLE with fields in range: a code not held goes into the lowest free place while fewer than 512 are held (R3, check
4), and NO_SPACE after that (check 3); a code held is rewritten (R4), and refused IN_USE when the article is in use and its
unit weight or size class would change. No other record changes.
A number above 4294967295 is no article code (R1), and that DELETE_ARTICLE and GET_ARTICLE answer it with NOT_FOUND, as a code
not held, is the model's choice (notes/assumptions/48). -/
def Obligations.SetArticlePlacesOrRewritesOneRecord : Prop :=
  (∀ (s : State) (tag code : Nat), s.lineFree → tag ≠ 0 → 4294967295 < code → s.articleOf code = none →
    exec (.deleteArticle tag code) s = .next (s.answered 0x11 tag .notFound .none) ∧
    exec (.getArticle tag code) s = .next (s.answered 0x12 tag .notFound .none)) ∧
  ∀ (s : State) (tag code u cls lim : Nat), s.lineFree → tag ≠ 0 → 1 ≤ code → code ≤ 4294967295 → 40 ≤ u → u ≤ 600 →
    cls ≤ 3 → 1 ≤ lim → lim ≤ 8 →
    (s.articleOf code = none → s.articles.length < 512 → ∃ place, place < 512 ∧ s.articleAt place = none ∧
      (∀ p, p < place → s.articleAt p ≠ none) ∧
      ∃ t : List (Nat × Article),
        exec (.setArticle tag code u cls lim) s =
          .next (State.answered 0x10 tag .ok (.article ⟨code, u, cls, lim⟩) { s with articles := t }) ∧
        ∀ q, q ∈ t ↔ q ∈ s.articles ∨ q = (place, ⟨code, u, cls, lim⟩)) ∧
    (s.articleOf code = none → 512 ≤ s.articles.length →
      exec (.setArticle tag code u cls lim) s = .next (s.answered 0x10 tag .noSpace .none)) ∧
    (∀ place old, s.articlesSound → s.articleOf code = some (place, old) →
      ¬(s.inUse place = true ∧ (u ≠ old.unitWeight ∨ cls ≠ old.sizeClass)) →
      ∃ t : List (Nat × Article),
        exec (.setArticle tag code u cls lim) s =
          .next (State.answered 0x10 tag .ok (.article ⟨code, u, cls, lim⟩) { s with articles := t }) ∧
        ∀ q, q ∈ t ↔ (q ∈ s.articles ∧ q.1 ≠ place) ∨ q = (place, ⟨code, u, cls, lim⟩)) ∧
    (∀ place old, s.articleOf code = some (place, old) → s.inUse place = true → (u ≠ old.unitWeight ∨ cls ≠ old.sizeClass) →
      exec (.setArticle tag code u cls lim) s = .next (s.answered 0x10 tag .inUse .none))

/-- DELETE_ARTICLE (R5), in every operating mode: the three refusals in their order, none of which changes a record; otherwise
the record is removed, its place is free, and every other record stays. An article code is at most 4294967295 (R1). -/
def Obligations.DeleteArticleRemovesTheRecord : Prop :=
  ∀ (s : State) (tag code : Nat), s.lineFree → tag ≠ 0 →
    (code = 0 → exec (.deleteArticle tag code) s = .next (s.answered 0x11 tag .badField .none)) ∧
    (code ≠ 0 → code ≤ 4294967295 → s.articleOf code = none →
      exec (.deleteArticle tag code) s = .next (s.answered 0x11 tag .notFound .none)) ∧
    (∀ place a, code ≠ 0 → s.articleOf code = some (place, a) → s.inUse place = true →
      exec (.deleteArticle tag code) s = .next (s.answered 0x11 tag .inUse .none)) ∧
    (∀ place a, code ≠ 0 → s.articleOf code = some (place, a) → s.inUse place = false →
      ∃ t : List (Nat × Article),
        exec (.deleteArticle tag code) s = .next (State.answered 0x11 tag .ok .none { s with articles := t }) ∧
        (∀ q, q ∈ t ↔ q ∈ s.articles ∧ q.1 ≠ place) ∧ ({ s with articles := t } : State).articleAt place = none)

/-- GET_ARTICLE (R6), in every operating mode; an article code is at most 4294967295 (R1).
GET_SLOT (R22), in every operating mode. -/
def Obligations.GetArticleAndGetSlotReportTheRecords : Prop :=
  (∀ (s : State) (tag code : Nat), s.lineFree → tag ≠ 0 →
     (code = 0 → exec (.getArticle tag code) s = .next (s.answered 0x12 tag .badField .none)) ∧
     (code ≠ 0 → code ≤ 4294967295 → s.articleOf code = none →
       exec (.getArticle tag code) s = .next (s.answered 0x12 tag .notFound .none)) ∧
     (∀ place a, code ≠ 0 → s.articleOf code = some (place, a) →
       exec (.getArticle tag code) s = .next (s.answered 0x12 tag .ok (.articleUse a (s.inUse place))))) ∧
  (∀ (s : State) (tag : Nat) (a : SlotAddr), s.lineFree → tag ≠ 0 →
     (s.slot? a = none → exec (.getSlot tag a) s = .next (s.answered 0x23 tag .badField .none)) ∧
     (∀ x, s.slot? a = some x →
       exec (.getSlot tag a) s = .next (s.answered 0x23 tag .ok (.slot
         { state := x.state, widthClass := (s.geometryOf a).widthClass a.slot, stackLimit := (s.geometryOf a).stackLimit a.slot,
           onHand := x.onHand, reserved := x.reserved, pending := x.pending,
           code := x.held.map fun h => s.codeAt h.place, batch := x.held.map fun h => h.batch, measured := x.measured,
           reason := x.reason, baseLimit := x.held.map fun _ => s.heldLimit a x,
           effectiveLimit := x.held.map fun _ => max (s.heldLimit a x) (x.onHand + x.pending),
           room := if x.state = .stocked then some (max (s.heldLimit a x) (x.onHand + x.pending) - x.onHand - x.pending)
                   else none }))) ∧
     (∀ x h art, s.slot? a = some x → x.held = some h → s.articleAt h.place = some art →
       s.heldLimit a x = min ((s.geometryOf a).stackLimit a.slot) art.stackLimit))

/-! ### The slot directory and the figures it reports to (R7 to R22, R30, R34, R35) -/

/-- One write of a slot record: the slot holds the new record, every other slot keeps its own, the slot's share in the two loads
of its carrier is replaced, exact figures stay exact, and a BALANCE notice is queued just when BALANCE_OVER changes. Every
other record stays (R12, R30, R34, R35). -/
def Obligations.OneWriteOfASlotKeepsTheFigures : Prop :=
  ∀ (s : State) (a : SlotAddr) (x new : Slot) (c : Carousel), s.slot? a = some x → s.carousel? a.carousel = some c →
    (s.writeSlot a new).slot? a = some new ∧
    (∀ b, b ≠ a → (s.writeSlot a new).slot? b = s.slot? b) ∧
    (∀ k, k ≠ a.carousel → (s.writeSlot a new).carousel? k = s.carousel? k) ∧
    ∃ f : Figures,
      (s.writeSlot a new).carousel? a.carousel =
        some { c with slots := c.slots.set (c.geometry.index a.carrier a.slot) new, figures := f } ∧
      f.limit = c.figures.limit ∧
      f.committed = modifyAt (fun l => l + (s.loads new).1 - (s.loads x).1) a.carrier c.figures.committed ∧
      f.onHand = modifyAt (fun l => l + (s.loads new).2 - (s.loads x).2) a.carrier c.figures.onHand ∧
      (c.figures.exact → f.exact) ∧
      (let base : State := { s with carousels := (s.writeSlot a new).carousels }
       s.writeSlot a new =
        if f.overLimit = c.figures.overLimit then base
        else base.notify (.balance a.carousel f.overLimit f.committedW f.onHandW f.limit))

/-- LOAD_SLOT, WITHDRAW and EDIT_SLOT whose checks hold (R17 to R19, R21) write one record of the slot and nothing else. That a
carrier whose slot is under a tare count, and not a measurement, may be withdrawn or resolved is deduced (notes/assumptions/19).
RESTORE_SLOT and RESOLVE_SLOT whose checks hold (R16, R20, R161): the slot becomes STOCKED if its on-hand is above 0, else
FREE with its article absent; RESOLVE_SLOT writes the contents of the request and removes the slot's discrepancy record; and
when the slot became STOCKED, the short lines of its article are re-allocated (R67), which reserves tyres and changes nothing
else that lasts. -/
def Obligations.SlotRequestsWriteOneRecordOrRelease : Prop :=
  (∀ (s : State) (tag : Nat) (a : SlotAddr) (x : Slot) (code batch onHand : Nat) (held : Option Holding),
     s.lineFree → tag ≠ 0 → s.slot? a = some x →
     (s.mode = .config → x.state = .free ∨ x.state = .stocked → s.contentFields a batch onHand = true →
       s.contentChecks a code batch onHand = .ok held →
       exec (.loadSlot tag a code batch onHand) s = .next
         (((s.take 0x1D tag).writeSlot a
           (if onHand = 0 then Slot.freeSlot
            else { state := .stocked, held := held, onHand := onHand, reserved := 0, pending := 0, measured := none,
                   reason := none })).refresh.replied .ok .none)) ∧
     (s.mode ≠ .config → x.state = .free ∨ x.state = .stocked → x.reserved = 0 → x.pending = 0 → s.carrierEngaged a = false →
       s.inMotion a.carousel = false →
       exec (.withdraw tag a) s = .next (((s.take 0x20 tag).writeSlot a { x with state := .withdrawn }).replied .ok .none)) ∧
     (s.mode ≠ .config → x.state = .withdrawn → s.contentFields a batch onHand = true → s.inMotion a.carousel = false →
       s.contentChecks a code batch onHand = .ok held →
       exec (.editSlot tag a code batch onHand) s = .next
         (((s.take 0x21 tag).writeSlot a { x with held := if onHand = 0 then none else held, onHand := onHand }).replied
           .ok .none))) ∧
  (∀ (s : State) (tag : Nat) (a : SlotAddr) (x : Slot) (code batch onHand : Nat) (held : Option Holding),
     s.lineFree → tag ≠ 0 → s.slot? a = some x → s.mode ≠ .config →
     let refill := fun (stock : Option Holding) (n : Nat) (t : State) =>
       match stock with
       | some h => if 0 < n then t.reallocate { lines := [], places := [h.place], except := none } else t
       | none => t
     (x.state = .withdrawn →
       let written := (s.take 0x22 tag).writeSlot a
         (if 0 < x.onHand then { x with state := .stocked, measured := none, reason := none } else Slot.freeSlot)
       let u := (refill x.held x.onHand written).refresh
       exec (.restoreSlot tag a) s = .next (u.replied .ok .none) ∧ u.stored = written.stored) ∧
     (x.state = .quarantine → s.contentFields a batch onHand = true → s.inMotion a.carousel = false →
       s.beingCounted a = false → s.contentChecks a code batch onHand = .ok held →
       let written : State := { (s.take 0x49 tag).writeSlot a
           (if 0 < onHand then
             { x with state := .stocked, held := held, onHand := onHand, measured := none, reason := none }
            else Slot.freeSlot) with
           discrepancies := s.discrepancies.filter fun d => decide (d.addr ≠ a) }
       let u := (refill held onHand written).refresh
       exec (.resolveSlot tag a code batch onHand) s = .next (u.replied .ok
         (.resolved a (if 0 < onHand then .stocked else .free) (s.discrepancies.any fun d => d.addr == a))) ∧
       u.stored = written.stored))

/-! ### The balance unit (02_carousel_load_and_balance.md) -/

/-- The stepping relation, with every carrier number taken mod N, and the mirror relation of the imbalance (R28), for every
loading of a carousel with an even number of carriers.
W, which the unit forms by stepping over half a turn, is the largest |D(P)| over all N positions (R29). -/
def Obligations.TheImbalanceProfileAndItsWorstValue : Prop :=
  (∀ (loads : List Nat) (p : Nat), loads.length % 2 = 0 → p < loads.length →
     imbalance loads (p + 1) = imbalance loads p - 2 * (loads.getD p 0 : Int) +
       2 * (loads.getD ((p + loads.length / 2) % loads.length) 0 : Int) ∧
     imbalance loads (p + loads.length / 2) = -imbalance loads p) ∧
  (∀ loads : List Nat, loads.length % 2 = 0 → 0 < loads.length →
     (∀ p, p < loads.length → (imbalance loads p).natAbs ≤ worst loads) ∧
     ∃ p, p < loads.length / 2 ∧ (imbalance loads p).natAbs = worst loads)

/-- A proposal is granted when the committed W after it is at most B, or at most the committed W before it, and refused in any
other case (R32); BALANCE_OVER stands for committed W above B (R34); a MOVE goes at CREEP just when on-hand W is above B
(R37). -/
def Obligations.TheLimitJudgesProposalsFlagAndSpeed : Prop :=
  ∀ (f : Figures) (carrier : Nat) (change : Nat → Nat),
    (f.grants (f.proposedW carrier change) = true ↔
      worst (modifyAt change carrier f.committed) ≤ f.limit ∨ worst (modifyAt change carrier f.committed) ≤ f.committedW) ∧
    (f.isOver = true ↔ f.limit < f.committedW) ∧ (f.speed = .creep ↔ f.limit < f.onHandW) ∧
    (f.speed = .normal ↔ f.onHandW ≤ f.limit)

/-- GET_BALANCE (R39), in every operating mode: the figures of a configured carousel in the form asked for; anything else is
BAD_FIELD. The worst position it reports is the lowest P, 0 to N/2 − 1, at which |D(P)| equals the W of the loads, and the up side
is reported the heavier just when D is not negative there; with W = 0 that is position 0 and the up side.
GET_ORDER (R80), in every operating mode: the order with its place among the WAITING orders, its lines with what their open picks
hold and what is unallocated, and its open picks in the order of their creation. That each open pick is given with its whole
record is the model's choice (notes/assumptions/44), and so is that a tag above 65535 names no order (notes/assumptions/47).
GET_AUDIT (R166), in every operating mode: the measurement with the time left on its timer, the counter and the two lengths. -/
def Obligations.GetBalanceGetOrderAndGetAuditReport : Prop :=
  (∀ (s : State) (tag k : Nat) (c : Carousel), s.lineFree → tag ≠ 0 →
     (s.carousel? k = some c → ∀ form loads,
       (form = LoadForm.committed ∧ loads = c.figures.committed) ∨ (form = LoadForm.onHand ∧ loads = c.figures.onHand) →
       exec (.getBalance tag k (some form)) s = .next (s.answered 0x24 tag .ok (.balance
         { n := c.geometry.n, limit := c.figures.limit, committedW := c.figures.committedW, onHandW := c.figures.onHandW,
           overLimit := c.figures.overLimit, worstPosition := (worstPosition loads).1, upHeavier := (worstPosition loads).2,
           loads := loads }))) ∧
     (s.carousel? k = none → ∀ form, exec (.getBalance tag k form) s = .next (s.answered 0x24 tag .badField .none)) ∧
     exec (.getBalance tag k none) s = .next (s.answered 0x24 tag .badField .none)) ∧
  (∀ loads : List Nat, loads.length % 2 = 0 → 0 < loads.length →
     let p := (worstPosition loads).1
     p < loads.length / 2 ∧ (imbalance loads p).natAbs = worst loads ∧
     (∀ m, m < p → (imbalance loads m).natAbs ≠ worst loads) ∧
     ((worstPosition loads).2 = true ↔ 0 ≤ imbalance loads p) ∧ (worst loads = 0 → worstPosition loads = (0, true))) ∧
  (∀ (s : State) (tag order : Nat), s.lineFree → tag ≠ 0 →
     (order = 0 → exec (.getOrder tag order) s = .next (s.answered 0x34 tag .badField .none)) ∧
     (order ≠ 0 → s.order? order = none → exec (.getOrder tag order) s = .next (s.answered 0x34 tag .notFound .none)) ∧
     (∀ o, order ≠ 0 → s.order? order = some o →
       exec (.getOrder tag order) s = .next (s.answered 0x34 tag .ok (.order
         { tag := o.tag, priority := o.priority, cls := o.priority / 16, state := o.state, lane := o.lane,
           admission := o.admission,
           waitingPlace := if o.state = .waiting then s.submission.findIdx? fun t => t == o.tag else none,
           onTheWay := total (o.lines.map fun l => l.picked - l.delivered),
           lines := o.lines.mapIdx fun i l =>
             let held := total ((s.picks.filter fun p => p.order == o.tag && p.line == i).map fun p => p.quantity)
             { code := s.codeAt l.place, requested := l.requested, picked := l.picked, delivered := l.delivered,
               openPicks := l.openPicks, openQuantity := held, unallocated := l.requested - l.picked - held,
               short := l.short },
           picks := sortBy (fun a b => lexPair (a.seq, a.number) (b.seq, b.number))
             (s.picks.filter fun p => p.order == o.tag) })))) ∧
  (∀ (s : State) (tag w : Nat), s.lineFree → tag ≠ 0 →
     (w ≤ 7 → exec (.getAudit tag w) s = .next (s.answered 0x4E tag .ok (.audit
       { measurement := (s.window w).measurement,
         timeLeft := (s.window w).measurement.bind fun m => match m.phase with
           | .channel => none
           | .settle e => some (timeLeft s.now e)
           | .gate e => some (timeLeft s.now e),
         counter := (s.window w).counter, counterOpen := (s.window w).counterOpen, settle := s.settings.settleTime,
         gate := s.settings.gateTime }))) ∧
     (7 < w → exec (.getAudit tag w) s = .next (s.answered 0x4E tag .badField .none)))

/-- SET_CAROUSEL with fields in range in CONFIG mode. A geometry that differs from the stored one is written: every slot FREE,
every load 0, no audit list, discrepancy records of the carousel removed, guards CLOSED, and a BALANCE_OVER that was set
reported CLEAR with both W 0 (R8, R23, R35, R81) and the B that the request writes (deduced, notes/assumptions/28). Otherwise B
and the step time are written and BALANCE_OVER is judged anew, with a BALANCE notice when it changes (R35, R36). The step time
is clamped to 500 to 5000, and absent it is 1500 or the stored one (R81). -/
def Obligations.SetCarouselWritesTheGeometryOrTheLimit : Prop :=
  ∀ (s : State) (tag k : Nat) (g : Geometry) (limit : Nat) (step : Option Nat), s.lineFree → tag ≠ 0 → s.shaped →
    s.mode = .config → k ≤ 3 → 8 ≤ g.n → g.n ≤ 48 → g.n % 2 = 0 → 1 ≤ g.s → g.s ≤ 6 → g.positions.length = g.s →
    (∀ q ∈ g.positions, q.1 ≤ 3 ∧ 1 ≤ q.2 ∧ q.2 ≤ 8) → 100 ≤ limit → limit ≤ 65000 →
    ∀ taken, taken = (match step with
      | some v => if v < 500 then 500 else if 5000 < v then 5000 else v
      | none => match s.carousel? k with
        | some c => c.stepTime
        | none => 1500) →
    ((∀ c, s.carousel? k = some c → c.geometry ≠ g) → ∃ (u : State) (c : Carousel),
      exec (.setCarousel tag k g.n g.s g.positions limit step) s = .next (u.replied .ok (.stepTime taken)) ∧
      u.carousel? k = some c ∧ c.geometry = g ∧ c.stepTime = taken ∧ c.slots = List.replicate (g.n * g.s) Slot.freeSlot ∧
      c.figures = { limit := limit, committed := List.replicate g.n 0, onHand := List.replicate g.n 0, committedW := 0,
                    onHandW := 0, overLimit := false } ∧
      c.state = .offline ∧ c.p = 0 ∧ c.known = false ∧ c.resume = some .idle ∧ c.move = none ∧ c.restart = none ∧
      c.query = none ∧ c.passed = List.replicate g.n 0 ∧ c.auditList = [] ∧
      u.lasting = ({ s.take 0x18 tag with
        carousels := s.carousels.set k (some c),
        windows := s.windows.map fun v => if v.assigned.map Prod.fst = some k then { v with guard := .closed } else v,
        discrepancies := s.discrepancies.filter fun d => decide (d.addr.carousel ≠ k) } : State).lasting ∧
      ∀ d, s.carousel? k = some d → d.figures.overLimit = true → s.line.notices.length < 32 →
        u.line.notices = s.line.notices ++ [.balance k false 0 0 limit]) ∧
    (∀ c, s.carousel? k = some c → c.geometry = g → ∃ u : State,
      exec (.setCarousel tag k g.n g.s g.positions limit step) s = .next (u.replied .ok (.stepTime taken)) ∧
      u.lasting = ((s.take 0x18 tag).setCarousel k
        { c with stepTime := taken,
                 figures := { c.figures with limit := limit, overLimit := decide (limit < c.figures.committedW) } }).lasting ∧
      (s.line.notices.length < 32 → u.line.notices =
        if decide (limit < c.figures.committedW) = c.figures.overLimit then s.line.notices
        else s.line.notices ++
          [.balance k (decide (limit < c.figures.committedW)) c.figures.committedW c.figures.onHandW limit]))

/-! ### Settings (R49, R109, R130, R136, R151, R162, R178) -/

/-- SET_PUTAWAY_CLASS, SET_BRIDGE_MODE, SET_LANE, SET_CAL and GET_CAL with fields in range: the value is stored and given back,
and no other record changes (R49, R130, R162, R178). -/
def Obligations.SettingsAreStoredAndGivenBack : Prop :=
  ∀ (s : State) (tag : Nat), s.lineFree → tag ≠ 0 →
    (∀ cls, s.mode = .config → 1 ≤ cls → cls ≤ 4 → exec (.setPutawayClass tag cls) s = .next
      (State.answered 0x1B tag .ok (.putawayClass cls) { s with settings := { s.settings with putawayClass := cls } })) ∧
    (∀ m, s.mode = .config → (∀ l ∈ s.links, l.access = none) → exec (.setBridgeMode tag (some m)) s = .next
      (State.answered 0x1C tag .ok (.bridgeMode m) { s with settings := { s.settings with bridgeMode := m } })) ∧
    (∀ n c, s.mode = .config → n ≤ 7 → 4 ≤ c → c ≤ 48 → exec (.setLane tag n (some c)) s = .next
      (State.answered 0x1A tag .ok (.lane n (some ⟨c, .free⟩)) { s with lanes := s.lanes.set n (some ⟨c, .free⟩) })) ∧
    (∀ n, s.mode = .config → n ≤ 7 → exec (.setLane tag n none) s = .next
      (State.answered 0x1A tag .ok (.lane n none) { s with lanes := s.lanes.set n none })) ∧
    (∀ w i t k, w ≤ 7 → i ≤ 5 → t ≤ 65535 → 1 ≤ k → k ≤ 65535 → exec (.setCal tag w i t k) s = .next
      (State.answered 0x4B tag .ok (.calibration ⟨t, k⟩)
        (s.onWindow w fun v => { v with calibrations := v.calibrations.set i ⟨t, k⟩ }))) ∧
    (∀ w, w ≤ 7 → exec (.getCal tag w) s = .next (s.answered 0x4C tag .ok (.calibrations (s.window w).calibrations)))

/-- SET_MERGE_TIMEOUT (R136), in every operating mode: the value taken is the nearer end of 2000 to 30000 when it lies outside;
deadlines set afterwards have it, and no deadline already set changes.
SET_AUDIT_TIMING (R151), in every operating mode: each value taken is the nearer end of its range when it lies outside; a
timer started afterwards has it, and no timer already running changes. The last clause starts the gate timer at the time the
expiry of the settle timer takes the timebase to (notes/assumptions/3). -/
def Obligations.TimeSettingsAreClamped : Prop :=
  (∀ (s : State) (tag v : Nat), s.lineFree → tag ≠ 0 →
     ∃ taken : Nat, taken = (if v < 2000 then 2000 else if 30000 < v then 30000 else v) ∧
       let u : State := { s with settings := { s.settings with transferTimeout := taken } }
       exec (.setMergeTimeout tag v) s = .next (State.answered 0x42 tag .ok (.timeout taken) u) ∧
       (State.answered 0x42 tag .ok (.timeout taken) u).merge = s.merge ∧
       (∀ w item, ((u.startTransfer w item).merge.transfer.bind fun t => t.deadline) = some (s.now + ms taken)) ∧
       ∀ cause t, t.attempt < 3 →
         ((u.expireAttempt cause t).merge.transfer.bind fun t => t.deadline) = some (s.now + ms taken)) ∧
  (∀ (s : State) (tag v g : Nat), s.lineFree → tag ≠ 0 →
     ∃ settle gate : Nat, settle = (if v < 50 then 50 else if 1000 < v then 1000 else v) ∧
       gate = (if g < 10 then 10 else if 250 < g then 250 else g) ∧
       let u : State := { s with settings := { s.settings with settleTime := settle, gateTime := gate } }
       exec (.setAuditTiming tag v g) s = .next (State.answered 0x4A tag .ok (.auditTiming settle gate) u) ∧
       (State.answered 0x4A tag .ok (.auditTiming settle gate) u).windows = s.windows ∧
       (∀ w i m, w < s.windows.length → (s.window w).measurement = some m → m.phase = .channel → m.position = i →
         ((u.channelAcked w i).window w).measurement = some { m with phase := .settle (s.now + ms settle) }) ∧
       ∀ w m e, w < s.windows.length → (s.window w).measurement = some m → m.phase = .settle e →
         (((u.settleExpiry w).window w).measurement.map fun m => m.phase) = some (.gate ((u.reachTime e).now + ms gate)))

/-! ### Put-away (03_put_away.md) -/

/-- PUTAWAY whose checks hold and for which some candidate is granted (R43 to R48): the task is created with 1 to 8 OPEN
targets, the placed quantity is the sum of their quantities and lies between 1 and the quantity asked for, the other tasks
stay, and no tyre moves. With no candidate granted the result is NO_ROOM and no record changes.
The targets come from choices made one after another, each on the state that the target before it has left, until nothing
remains, the task has 8 targets or a choice finds no candidate (R44). A target is created in the order of R47: its record is
appended, OPEN; a FREE slot becomes STOCKED with the task's article and batch week and the quantity pending, and of a top-up the
pending rises, in one write of the slot; the carousel reacts to the work; and the PUT entry joins where the carrier is presented.
CANCEL_PUTAWAY (R53, R55): the task is freed, its reply carries the stored and unplaced totals, the other tasks stay, and no
tyre moves. Each OPEN target is cancelled in list order: the pending falls, and a STOCKED slot left with nothing becomes FREE; the
target is CANCELLED with its cause; the entry leaves the panel; and the carousel reacts, before the next target and before the end
of the task (the model's choice, notes/assumptions/40). By a quarantine entry it is the same with its own cause, and the slot does
not become FREE (R54).
A task without OPEN target is removed with one PUTAWAY_DONE notice of its tag, article code, batch week, requested and placed
quantity, stored total, unplaced total and targets; a task with one stays, without notice (R55). -/
def Obligations.PutawayCreatesAndCancelPutawayFreesTheTask : Prop :=
  (∀ (s : State) (tag task code batch q : Nat) (pref : Option Nat) (place : Nat) (art : Article), s.lineFree → tag ≠ 0 →
     s.mode ≠ .config → s.putawayFields task code batch q pref = true → s.articleOf code = some (place, art) →
     s.task? task = none → s.tasks.length < 32 →
     ((s.choosePut place batch art pref q).isSome = true → ∃ (u : State) (t : Task),
       exec (.putaway tag task code batch q pref) s = .next (u.replied .ok
         (.placed task q t.placed (t.targets.map fun x => (x.addr, x.quantity)))) ∧
       u = (((State.allocatePut task place batch art pref 8 q { s.take 0x28 tag with
         tasks := s.tasks ++ [{ tag := task, place := place, batch := batch, requested := q, placed := 0, state := .opened,
                                targets := [] }] }).onTask task fun x =>
           { x with placed := total (x.targets.map fun y => y.quantity) })).refresh ∧
       u.task? task = some t ∧ t.place = place ∧ t.batch = batch ∧ t.requested = q ∧
       t.placed = total (t.targets.map fun x => x.quantity) ∧ 1 ≤ t.placed ∧ t.placed ≤ q ∧ 1 ≤ t.targets.length ∧
       t.targets.length ≤ 8 ∧ (∀ x ∈ t.targets, x.outcome = .opened ∧ 1 ≤ x.quantity) ∧
       u.tasks.filter (fun x => decide (x.tag ≠ task)) = s.tasks ∧ u.counted = (s.take 0x28 tag).counted) ∧
     (s.choosePut place batch art pref q = none →
       exec (.putaway tag task code batch q pref) s = .next (s.answered 0x28 tag .noRoom .none))) ∧
  (∀ (s : State) (tag task : Nat) (t : Task), s.lineFree → tag ≠ 0 → s.mode ≠ .config → task ≠ 0 → s.task? task = some t →
     ∃ u : State,
       exec (.cancelPutaway tag task) s = .next (u.replied .ok
         (.putawayCancelled task t.storedTotal (t.placed - t.storedTotal))) ∧
       u = ((State.endTask task ((t.targets.filter fun x => decide (x.outcome = .opened)).foldl
         (fun s x => s.cancelTarget task x .host) (s.take 0x29 tag))).testEnds).refresh ∧
       u.task? task = none ∧ u.tasks = s.tasks.filter (fun x => decide (x.tag ≠ task)) ∧
       u.counted = (s.take 0x29 tag).counted) ∧
  (∀ (s : State) (task place batch left remaining : Nat) (art : Article) (pref : Option Nat),
     s.allocatePut task place batch art pref 0 remaining = s ∧
     (remaining = 0 ∨ s.choosePut place batch art pref remaining = none →
       s.allocatePut task place batch art pref (left + 1) remaining = s) ∧
     ∀ c, remaining ≠ 0 → s.choosePut place batch art pref remaining = some c →
       s.allocatePut task place batch art pref (left + 1) remaining =
         (s.createTarget task place batch c).allocatePut task place batch art pref left (remaining - c.quantity)) ∧
  (∀ (s : State) (task place batch : Nat) (c : Candidate) (x : Slot), s.slot? c.addr = some x →
     s.createTarget task place batch c = State.joinEntry c.addr (.put task c.quantity) (State.gainWork c.addr.carousel
       [c.addr.carrier] ((s.onTask task fun t =>
         { t with targets := t.targets ++ [{ addr := c.addr, quantity := c.quantity, outcome := .opened }] }).writeSlot c.addr
           (if x.state = .free then
              { state := .stocked, held := some ⟨place, batch⟩, onHand := 0, reserved := 0, pending := c.quantity,
                measured := none, reason := none }
            else { x with pending := x.pending + c.quantity })))) ∧
  (∀ (s : State) (task : Nat) (x : Target) (y : Slot) (cause : CancelCause), s.slot? x.addr = some y →
     s.cancelTarget task x cause = State.recompute x.addr.carousel (State.removeEntry x.addr (.put task x.quantity)
       ((s.writeSlot x.addr
         (if cause = .host ∧ y.state = .stocked ∧ y.onHand = 0 ∧ y.pending - x.quantity = 0 then Slot.freeSlot
          else { y with pending := y.pending - x.quantity })).onTask task fun t =>
            let isIt := fun (z : Target) => decide (z.outcome = .opened) && z.addr == x.addr
            { t with targets := modifyAt (fun z => { z with outcome := .cancelled cause }) (t.targets.findIdx isIt) t.targets }))) ∧
  (∀ (s : State) (task : Nat) (t : Task), s.task? task = some t →
     ((∃ x ∈ t.targets, x.outcome = .opened) → s.endTask task = s) ∧
     ((∀ x ∈ t.targets, x.outcome ≠ .opened) →
       let stored := total (t.targets.map fun x => match x.outcome with
         | .confirmed n => n
         | _ => 0)
       s.endTask task = ({ s with tasks := s.tasks.filter fun x => decide (x.tag ≠ task) } : State).notify
         (.putawayDone task (s.codeAt t.place) t.batch t.requested t.placed stored (t.placed - stored) t.targets)))

/-- A put-away candidate chosen is one the balance unit grants (R32, R46); none of a later tier is chosen while an earlier one has
one (R44, R45), and within the tier it has the smallest W, then the lowest slot address (R46). None is chosen just when no tier
has a candidate granted. The tiers are the ten of R45, in its order. The candidates of a tier are the slots on the preferred
carousel, or on the others, that are STOCKED with the task's article and batch week and have room, offered the smaller of room
and what remains, or FREE and of the tier's width class, offered the smaller of what remains and the base limit, whose proposal
is granted (R31, R32, R45, R46); the room is the effective limit less on-hand and pending (R10).
The candidates for a line are the STOCKED slots of its article with on-hand above pick-reserved that no open pick of the line
names and whose proposal, the smaller of what is available and what is unallocated, is granted. The one chosen is of the oldest
batch, then the smallest W, then the lowest slot address; none just when there is none (R64, R31, R32). Its pick takes the
lowest free number and the creation count, and its quantity is reserved (R65).
The allocation of a line stops, in this order, when nothing is unallocated, at 4 open picks (PICKS), with 256 picks held (POOL),
and without candidate (STOCK); else it takes the candidate chosen and goes on (R66). That its repetitions are bounded is the
model's own (deduced, notes/assumptions/31). At the stop the short flag is cleared with nothing unallocated, else it is set with
one LINE_SHORT notice that carries the cause, and if it was set it stays, without notice (R66).
Re-allocation reaches the lines of ACTIVE orders that the event names, and the short lines of its articles in other orders than
the one it excepts, each once, by admission, then order tag (R57), then line, each to its stop before the next (R67, R68). An
order that becomes ACTIVE has every line allocated, line 0 first (R63). -/
def Obligations.ChoicesAreGrantedAndLinesGoToTheirStop : Prop :=
  (∀ (s : State) (place batch : Nat) (art : Article) (pref : Option Nat) (remaining : Nat) (c : Candidate),
    s.choosePut place batch art pref remaining = some c →
    1 ≤ c.quantity ∧ c.quantity ≤ remaining ∧
    (∃ (x : Slot) (r : Carousel), s.slot? c.addr = some x ∧ s.carousel? c.addr.carousel = some r ∧
      (x.state = .free ∨ (x.state = .stocked ∧ x.held = some ⟨place, batch⟩)) ∧
      c.w = r.figures.proposedW c.addr.carrier (fun l => l + c.quantity * art.unitWeight) ∧
      (c.w ≤ r.figures.limit ∨ c.w ≤ r.figures.committedW)) ∧
    ∃ t before after, tiers art.sizeClass = before ++ t :: after ∧
      c ∈ s.putCandidates place batch art pref remaining t ∧
      (∀ d ∈ s.putCandidates place batch art pref remaining t, c.w < d.w ∨ (c.w = d.w ∧ (c.addr = d.addr ∨ addrBelow c.addr d.addr))) ∧
      ∀ b ∈ before, s.putCandidates place batch art pref remaining b = []) ∧
  (∀ (s : State) (place batch : Nat) (art : Article) (pref : Option Nat) (remaining : Nat),
    (s.choosePut place batch art pref remaining = none ↔
      ∀ t ∈ tiers art.sizeClass, s.putCandidates place batch art pref remaining t = []) ∧
    ∀ (t : Tier) (c : Candidate), c ∈ s.putCandidates place batch art pref remaining t ↔ ∃ (x : Slot) (r : Carousel),
      c.addr.carousel < 4 ∧ s.slot? c.addr = some x ∧ s.carousel? c.addr.carousel = some r ∧
      (t.preferred = true ↔ pref = some c.addr.carousel) ∧
      (t.topUp = true → x.state = .stocked ∧ x.held = some ⟨place, batch⟩ ∧ c.quantity = min (s.room c.addr x) remaining) ∧
      (t.topUp = false → x.state = .free ∧ (r.geometry.positions.getD c.addr.slot (0, 0)).1 = t.width ∧
        c.quantity = min remaining (min (r.geometry.positions.getD c.addr.slot (0, 0)).2 art.stackLimit)) ∧
      1 ≤ c.quantity ∧ c.w = r.figures.proposedW c.addr.carrier (fun l => l + c.quantity * art.unitWeight) ∧
      (c.w ≤ r.figures.limit ∨ c.w ≤ r.figures.committedW)) ∧
  (∀ n : Nat, tiers n = [⟨true, 0, true⟩, ⟨true, 0, false⟩, ⟨false, n, true⟩, ⟨false, n, false⟩, ⟨false, n + 1, true⟩,
    ⟨false, n + 1, false⟩, ⟨false, n + 2, true⟩, ⟨false, n + 2, false⟩, ⟨false, n + 3, true⟩, ⟨false, n + 3, false⟩]) ∧
  (∀ (s : State) (a : SlotAddr) (x : Slot) (h : Holding) (b : Article) (r : Carousel), s.carousel? a.carousel = some r →
    x.held = some h → s.articleAt h.place = some b →
    s.room a x = max (min (r.geometry.positions.getD a.slot (0, 0)).2 b.stackLimit) (x.onHand + x.pending) - x.onHand - x.pending) ∧
  (∀ (s : State) (tag i : Nat) (l : Line),
    let u := l.requested - l.picked - total ((s.picks.filter fun p => p.order == tag && p.line == i).map fun p => p.quantity)
    (∀ c : PickCandidate, c ∈ s.pickCandidates tag i l ↔ ∃ (x : Slot) (h : Holding) (r : Carousel), c.addr.carousel < 4 ∧
      s.slot? c.addr = some x ∧ s.carousel? c.addr.carousel = some r ∧ x.state = .stocked ∧ x.held = some h ∧
      h.place = l.place ∧ x.reserved < x.onHand ∧ (∀ p ∈ s.picks, p.order = tag → p.line = i → p.addr ≠ c.addr) ∧
      c.batch = h.batch ∧ c.quantity = min (x.onHand - x.reserved) u ∧
      c.w = r.figures.proposedW c.addr.carrier (fun load => load - c.quantity * s.weightAt l.place) ∧
      (c.w ≤ r.figures.limit ∨ c.w ≤ r.figures.committedW)) ∧
    (∀ c, s.choosePick tag i l = some c → c ∈ s.pickCandidates tag i l ∧ ∀ d ∈ s.pickCandidates tag i l,
      c.batch < d.batch ∨ (c.batch = d.batch ∧ (c.w < d.w ∨ (c.w = d.w ∧ (c.addr = d.addr ∨ addrBelow c.addr d.addr))))) ∧
    (s.choosePick tag i l = none ↔ s.pickCandidates tag i l = [])) ∧
  (∀ (s : State) (tag i : Nat) (l : Line) (c : PickCandidate) (x : Slot), s.line? tag i = some l → s.slot? c.addr = some x →
    s.picks.length < 256 →
    let t := s.createPick tag i c
    let new := fun (n : Nat) =>
      ({ number := n, order := tag, line := i, addr := c.addr, quantity := c.quantity, presented := false,
         seq := s.creations } : Pick)
    (∃ n, (∀ p ∈ s.picks, p.number ≠ n) ∧ (∀ m, m < n → ∃ p ∈ s.picks, p.number = m) ∧
      (t.picks.map Pick.lasting).Perm (new n :: s.picks.map Pick.lasting)) ∧
    t.creations = (if s.creations < 4294967295 then s.creations + 1 else s.creations) ∧
    t.slot? c.addr = some { x with reserved := x.reserved + c.quantity } ∧
    t.line? tag i = some { l with openPicks := l.openPicks + 1 } ∧ t.stored = s.stored) ∧
  (∀ (s : State) (tag i : Nat) (l : Line), s.line? tag i = some l →
    let held := total ((s.picks.filter fun p => p.order == tag && p.line == i).map fun p => p.quantity)
    let u := l.requested - l.picked - held
    (u = 0 → s.allocateLine tag i lineFuel = s.onOrder tag fun o => o.onLine i fun l => { l with short := false }) ∧
    (u ≠ 0 → 4 ≤ l.openPicks → s.allocateLine tag i lineFuel = s.judgeShort tag i .picks) ∧
    (u ≠ 0 → l.openPicks < 4 → 256 ≤ s.picks.length → s.allocateLine tag i lineFuel = s.judgeShort tag i .pool) ∧
    (u ≠ 0 → l.openPicks < 4 → s.picks.length < 256 → s.choosePick tag i l = none →
      s.allocateLine tag i lineFuel = s.judgeShort tag i .stock) ∧
    (∀ c, u ≠ 0 → l.openPicks < 4 → s.picks.length < 256 → s.choosePick tag i l = some c →
      s.allocateLine tag i lineFuel = (s.createPick tag i c).allocateLine tag i lineFuel) ∧
    (∀ cause, u ≠ 0 → l.short = true → s.judgeShort tag i cause = s) ∧
    (∀ cause, u ≠ 0 → l.short = false → s.judgeShort tag i cause =
      (s.onOrder tag fun o => o.onLine i fun l => { l with short := true }).notify
        (.lineShort tag i (s.codeAt l.place) l.requested l.picked held u cause))) ∧
  (∀ (s : State) (r : Reach),
    (∀ tag i, (tag, i) ∈ s.reached r ↔ ∃ o ∈ s.orders, o.tag = tag ∧ o.state = .active ∧ ∃ l, o.lines[i]? = some l ∧
      ((tag, i) ∈ r.lines ∨ (l.place ∈ r.places ∧ l.short = true ∧ r.except ≠ some tag))) ∧
    ((s.orders.map fun o => o.tag).Nodup → (s.reached r).Pairwise fun a b =>
      ∀ o p, s.order? a.1 = some o → s.order? b.1 = some p → ∀ m n, o.admission = some m → p.admission = some n →
        m < n ∨ (m = n ∧ (a.1 < b.1 ∨ (a.1 = b.1 ∧ a.2 < b.2)))) ∧
    s.reallocate r = (s.reached r).foldl (fun s q => s.allocateLine q.1 q.2 lineFuel) s) ∧
  (∀ (s : State) (tag : Nat) (o : Order), s.order? tag = some o →
    s.allocateOrder tag = (List.range o.lines.length).foldl (fun s i => s.allocateLine tag i lineFuel) s)

/-- GET_PUTAWAY (R56), in every operating mode: the task with its state, which is OPEN as long as the task is held (R41, R55), its
targets with their outcomes, the stored total and the quantity still OPEN. That a tag above 65535 names no task is the model's
choice (notes/assumptions/47).
GET_DISCREPANCIES (R167), in every operating mode: the list in its order, the number of records and DISCREPANCY_FULL, and
nothing changes. -/
def Obligations.GetPutawayAndGetDiscrepanciesReport : Prop :=
  (∀ (s : State) (tag task : Nat), s.lineFree → tag ≠ 0 →
     (task = 0 → exec (.getPutaway tag task) s = .next (s.answered 0x2A tag .badField .none)) ∧
     (task ≠ 0 → s.task? task = none → exec (.getPutaway tag task) s = .next (s.answered 0x2A tag .notFound .none)) ∧
     (∀ t, task ≠ 0 → s.task? task = some t → exec (.getPutaway tag task) s = .next (s.answered 0x2A tag .ok (.task
       { tag := t.tag, code := s.codeAt t.place, batch := t.batch, requested := t.requested, placed := t.placed,
         state := .opened, targets := t.targets, storedTotal := total (t.targets.map Target.stored),
         openTotal := total ((t.targets.filter Target.isOpen).map fun x => x.quantity) })))) ∧
  (∀ (s : State) (tag : Nat), s.lineFree → tag ≠ 0 →
     exec (.getDiscrepancies tag) s = .next (s.answered 0x4F tag .ok
       (.discrepancies s.discrepancies s.discrepancies.length s.flags.discrepancyFull)) ∧
     ∀ r b, (s.answered 0x4F tag r b).discrepancies = s.discrepancies ∧ (s.answered 0x4F tag r b).flags = s.flags)

/-! ### Orders, lines and pick allocation (04_orders_lines_and_pick_allocation.md) -/

/-- SUBMIT_ORDER whose checks hold (R61, R62): the order is stored with the priority taken as at most 63 and one line record for
each line of the request, WAITING at the end of the submission list; then a binding run is made (R132, R133), and the reply
reports the order as the run leaves it, WAITING, or ACTIVE with its lane. Nothing but the order and what lane binding writes
changes; and while no FREE lane fits a WAITING order, the run changes nothing. -/
def Obligations.SubmitOrderStoresTheOrder : Prop :=
  ∀ (s : State) (tag order priority : Nat) (lines : List (Nat × Nat)), s.lineFree → tag ≠ 0 → s.mode ≠ .config →
    orderFields order lines = true → s.unknownLine lines = none → s.order? order = none →
    s.tooLarge (total (lines.map Prod.snd)) = false → s.orders.length < 64 → s.lineCount + lines.length ≤ 256 →
    let o : Order := { tag := order, priority := min priority 63, state := .waiting, lane := none, admission := none,
                       lines := lines.map s.newLine }
    let s1 : State := { s.take 0x30 tag with orders := s.orders ++ [o], submission := s.submission ++ [order] }
    let u : State := s1.bindingRun bindFuel
    (∀ l ∈ lines, ∃ place a, s.articleOf l.1 = some (place, a) ∧
      s.newLine l = { place := place, requested := l.2, picked := 0, delivered := 0, openPicks := 0, short := false }) ∧
    (∃ x, u.order? order = some x ∧ x.stored.unbound = o.stored.unbound ∧
      exec (.submitOrder tag order priority lines) s = .next (u.refresh.replied .ok
        (.submitted order (min priority 63) (min priority 63 / 16) (total (lines.map Prod.snd)) x.state x.lane))) ∧
    u.unbound = s1.unbound ∧ (s1.nextBinding = none → u = s1)

/-- A binding run considers the WAITING orders by class, 3 first, and within a class by submission, oldest first; it chooses the
first that a FREE lane fits, and the FREE lane of smallest capacity that fits its requested total, the lowest-numbered of
several; and it goes on from the state that the binding leaves, until no FREE lane fits any WAITING order (R132). A bound order
is ACTIVE with that lane and the next admission number, and its lane is BOUND to it (R63, R131). -/
def Obligations.LaneBindingTakesTheSmallestLaneThatFits : Prop :=
  (∀ (s : State) (q n : Nat), s.laneFor q = some n → n < 8 ∧
    (∃ l, s.lanes.getD n none = some l ∧ l.state = .free ∧ q ≤ l.capacity ∧
      ∀ m l', m < 8 → s.lanes.getD m none = some l' → l'.state = .free → q ≤ l'.capacity →
        l.capacity < l'.capacity ∨ (l.capacity = l'.capacity ∧ n ≤ m))) ∧
  (∀ (s : State) (q : Nat), s.laneFor q = none ↔
    ∀ n l, n < 8 → s.lanes.getD n none = some l → l.state = .free → l.capacity < q) ∧
  (∀ (s : State) (o : Order) (n : Nat), s.nextBinding = some (o, n) → s.laneFor o.requestedTotal = some n ∧
    ∃ before after, s.waiting = before ++ o :: after ∧ ∀ x ∈ before, s.laneFor x.requestedTotal = none) ∧
  (∀ s : State, s.nextBinding = none ↔ ∀ x ∈ s.waiting, s.laneFor x.requestedTotal = none) ∧
  (∀ s : State, s.waiting.Perm (s.submission.filterMap s.order?) ∧
    (s.waiting.Pairwise fun a b => b.cls ≤ a.cls) ∧
    ∀ cls, s.waiting.filter (fun o => decide (o.cls = cls)) =
      (s.submission.filterMap s.order?).filter fun o => decide (o.cls = cls)) ∧
  (∀ s : State, (s.nextBinding = none → s.bindingRun bindFuel = s) ∧
    (∀ o n, s.nextBinding = some (o, n) → s.bindingRun bindFuel = (s.bind o.tag n).bindingRun bindFuel) ∧
    (s.bindingRun bindFuel).nextBinding = none) ∧
  ∀ (s : State) (o : Order) (n : Nat) (l : Lane), s.order? o.tag = some o → n < s.lanes.length →
    s.lanes.getD n none = some l →
    (∃ x, (s.bind o.tag n).order? o.tag = some x ∧ x.state = .active ∧ x.lane = some n ∧
      x.admission = some s.admissions ∧ x.stored.lines = o.stored.lines) ∧
    (s.bind o.tag n).lanes.getD n none = some { l with state := .bound o.tag } ∧ o.tag ∉ (s.bind o.tag n).submission ∧
    (s.bind o.tag n).admissions = if s.admissions < 4294967295 then s.admissions + 1 else s.admissions

/-- CLOSE_ORDER of an ACTIVE order (R74), in its order: its open picks are cancelled and every line asks for what it has picked;
with nothing picked it is freed, and its lane with it (a binding run follows at once, R133); with everything picked delivered it
is ASSEMBLED, with its notice; else it stays ACTIVE. Then the short lines of other orders for the articles whose reservations
were released are allocated anew (R67), and presentations left without an entry end (R114). No pick of the order is left, and
beyond that order nothing but what pick allocation and lane binding write changes. That the reply of a freed order carries 0
tyres on their way is the model's choice (notes/assumptions/43). -/
def Obligations.CloseOrderGivesUpTheRest : Prop :=
  ∀ (s : State) (tag order : Nat) (o : Order), s.lineFree → tag ≠ 0 → s.mode ≠ .config → order ≠ 0 →
    s.order? order = some o → o.state = .active →
    let s0 := s.take 0x31 tag
    let closed : Order := { o with lines := o.lines.map fun l => { l with requested := l.picked } }
    let s1 := (s0.cancelOrderPicks order).onOrder order fun y =>
      { y with lines := y.lines.map fun l => { l with requested := l.picked, short := false } }
    let rest := fun (t : State) => (t.reallocate
      { lines := [], places := s0.orderPlaces order, except := some order }).testEnds.refresh
    (o.pickedTotal = 0 →
      let u := rest (s1.freeOrder order)
      exec (.closeOrder tag order) s = .next (u.replied .ok (.orderEnded .freed 0)) ∧ u.order? order = none ∧
      (∀ p ∈ u.picks, p.order ≠ order) ∧
      u.unbound = ({ s0 with orders := s.orders.filter fun x => decide (x.tag ≠ order) } : State).unbound) ∧
    (o.pickedTotal ≠ 0 → (∀ l ∈ o.lines, l.delivered = l.picked) →
      let u := rest ((s1.onOrder order fun y => { y with state := .assembled }).notifyOrder order .assembled)
      exec (.closeOrder tag order) s = .next (u.replied .ok (.orderEnded .assembled 0)) ∧
      (∃ x, u.order? order = some x ∧ x.stored = ({ closed with state := .assembled } : Order).stored) ∧
      (∀ p ∈ u.picks, p.order ≠ order) ∧
      u.stored = (s0.onOrder order fun y =>
        { y with state := .assembled, lines := y.lines.map fun l => { l with requested := l.picked } }).stored) ∧
    (o.pickedTotal ≠ 0 → (∃ l ∈ o.lines, l.delivered ≠ l.picked) →
      let u := rest s1
      exec (.closeOrder tag order) s = .next (u.replied .ok (.orderEnded .active o.onTheWay)) ∧
      (∃ x, u.order? order = some x ∧ x.stored = closed.stored) ∧ (∀ p ∈ u.picks, p.order ≠ order) ∧
      u.stored = (s0.onOrder order fun y =>
        { y with lines := y.lines.map fun l => { l with requested := l.picked } }).stored)

/-- CANCEL_ORDER frees a WAITING order (R75); an ACTIVE or ASSEMBLED one becomes CANCELLED with its open picks cancelled and
its lane DRAINING (R76, R131), with an ORDER_STATE notice when none of its tyres is on the way (R73); then the short lines of
other orders for the articles whose reservations were released are allocated anew (R67), presentations left without an entry end
(R114), and beyond it nothing but what pick allocation writes changes. That the reply of a freed order carries 0 tyres on their
way is the model's choice (notes/assumptions/43). -/
def Obligations.CancelOrderFreesOrDrains : Prop :=
  ∀ (s : State) (tag order : Nat) (o : Order), s.lineFree → tag ≠ 0 → s.mode ≠ .config → order ≠ 0 →
    s.order? order = some o →
    (o.state = .waiting → ∃ u : State,
      exec (.cancelOrder tag order) s = .next (u.replied .ok (.orderEnded .freed 0)) ∧ u.order? order = none ∧
      order ∉ u.submission ∧
      u.unbound = ({ s.take 0x32 tag with orders := s.orders.filter fun x => decide (x.tag ≠ order) } : State).unbound) ∧
    (o.state = .active ∨ o.state = .assembled →
      let s0 := s.take 0x32 tag
      let drained := ((s0.cancelOrderPicks order).onOrder order fun y =>
        { y with state := .cancelled, lines := y.lines.map fun l => { l with short := false } }).drainLane o
      let told := if o.onTheWay = 0 then drained.notifyOrder order .drained else drained
      let u := ((told.reallocate { lines := [], places := s0.orderPlaces order, except := some order }).testEnds).refresh
      exec (.cancelOrder tag order) s = .next (u.replied .ok (.orderEnded .cancelled o.onTheWay)) ∧
      (∃ x, u.order? order = some x ∧ x.stored = ({ o with state := .cancelled } : Order).stored) ∧
      (∀ p ∈ u.picks, p.order ≠ order) ∧
      u.stored = (((s.take 0x32 tag).onOrder order fun y => { y with state := .cancelled }).drainLane o).stored)

/-- SHIP of an ASSEMBLED order (R78) and LANE_CLEARED of a DRAINING lane whose order has no tyre on its way (R134): the order
is freed; while no order waits, its lane becomes FREE. Beyond the order, nothing but what lane binding writes changes.
Freeing an order that has no open pick removes its record and its place in the submission list, and with a lane makes that lane
FREE and a binding run (R79, R132, R133). -/
def Obligations.ShipAndLaneClearedFreeTheOrder : Prop :=
  (∀ (s : State) (tag order : Nat) (o : Order), s.lineFree → tag ≠ 0 → s.mode ≠ .config → order ≠ 0 →
    s.order? order = some o →
    (o.state = .assembled →
      let u := ((s.take 0x33 tag).freeOrder order).refresh
      exec (.ship tag order) s = .next (u.replied .ok (.shipped order o.lane)) ∧ u.order? order = none ∧
      u.unbound = ({ s.take 0x33 tag with orders := s.orders.filter fun x => decide (x.tag ≠ order) } : State).unbound ∧
      (s.submission = [] → ∀ n l, o.lane = some n → n < s.lanes.length → s.lanes.getD n none = some l →
        u.lanes = s.lanes.set n (some { l with state := .free }))) ∧
    (∀ n l, s.lanes.getD n none = some l → n < s.lanes.length → l.state = .draining order → o.onTheWay = 0 →
      let u := ((s.take 0x40 tag).freeOrder order).refresh
      exec (.laneCleared tag n) s = .next (u.replied .ok (.laneCleared n order)) ∧ u.order? order = none ∧
      u.unbound = ({ s.take 0x40 tag with orders := s.orders.filter fun x => decide (x.tag ≠ order) } : State).unbound ∧
      (s.submission = [] → o.lane = some n → u.lanes = s.lanes.set n (some { l with state := .free })))) ∧
  (∀ (s : State) (order : Nat) (o : Order), s.order? order = some o → (∀ p ∈ s.picks, p.order ≠ order) →
    let freed : State := { s with orders := s.orders.filter fun x => decide (x.tag ≠ order),
                                  submission := s.submission.filter fun t => decide (t ≠ order) }
    (∀ n, o.lane = some n → s.freeOrder order = State.bindingRun bindFuel
      { freed with lanes := modifyAt (fun l => l.map fun l => { l with state := .free }) n s.lanes }) ∧
    (o.lane = none → s.freeOrder order = freed))

/-! ### Dispatch and carousel motion (05_dispatch_and_carousel_motion.md) -/

/-- The rotation plan of a carrier (R86): the chain moved by the plan's steps in its direction stands at the target P, where the
carrier stands at the window; the steps are at most half a turn, and FORWARD when both ways are of the same length.
Of the windows of the carousel the plan takes the one that needs fewer steps, of two that need as many the lower-numbered one;
there is no plan just when the carousel has no window (R86).
The dispatch class of a carrier is the highest class among its work, none without work (R82): 1 + the order class for each
PENDING pick on it, the put-away class for each OPEN target on it, and 0 in the audit list.
There is no next target just when no carrier is a candidate. The next target ranks first among the candidates (R85): no
candidate of the carousel has a higher class; none of its class is due while it is not; none of its class and due alike needs
fewer steps, or as many with a lower carrier number. -/
def Obligations.ThePlanAndTheNextTarget : Prop :=
  (∀ n p c w pos : Nat, 0 < n → n % 2 = 0 → p < n → c < n → pos < n →
     let q := planFor n p c w pos
     q.window = w ∧ q.targetP < n ∧ (pos + q.targetP) % n = c ∧ q.steps ≤ n / 2 ∧
       (q.direction = .forward → (p + q.steps) % n = q.targetP) ∧
       (q.direction = .reverse → (q.targetP + q.steps) % n = p ∧ q.steps < n / 2)) ∧
  (∀ (s : State) (k c cls : Nat) (plan : Plan) (r : Carousel), s.settingsInRange →
     s.carousel? k = some r → s.nextTarget k = some (c, cls, plan) →
     c < r.geometry.n ∧ s.carrierClass k c = some cls ∧ s.plan k c = some plan ∧ s.standsInUse k c = false ∧
     ∀ d dcls dplan, d < r.geometry.n → s.carrierClass k d = some dcls → s.plan k d = some dplan → s.standsInUse k d = false →
       dcls < cls ∨ (dcls = cls ∧
         ((r.due c = true ∧ r.due d = false) ∨ (r.due d = r.due c ∧
           (plan.steps < dplan.steps ∨ (plan.steps = dplan.steps ∧ c ≤ d)))))) ∧
  (∀ (s : State) (k c : Nat) (r : Carousel), s.carousel? k = some r →
     (s.nextTarget k = none ↔ ∀ d, d < r.geometry.n →
       s.carrierClass k d = none ∨ s.plan k d = none ∨ s.standsInUse k d = true) ∧
     (s.standsInUse k c = true ↔ ∃ w, w < 8 ∧ ∃ pos, (s.window w).assigned = some (k, pos) ∧
       ((s.window w).presentation ≠ none ∨ (s.window w).measurement ≠ none) ∧ (pos + r.p) % r.geometry.n = c) ∧
     (s.plan k c = none ↔ ∀ w, w < 8 → s.carouselOf w ≠ some k) ∧
     ∀ q, s.plan k c = some q → ∃ w pos, w < 8 ∧ (s.window w).assigned = some (k, pos) ∧ q = planFor r.geometry.n r.p c w pos ∧
       ∀ v posv, v < 8 → (s.window v).assigned = some (k, posv) →
         q.steps < (planFor r.geometry.n r.p c v posv).steps ∨
           (q.steps = (planFor r.geometry.n r.p c v posv).steps ∧ w ≤ v)) ∧
  (∀ (s : State) (k c : Nat) (r : Carousel), s.carousel? k = some r → s.settingsInRange → s.recordsFit →
     (∀ p ∈ s.picks, (s.order? p.order).isSome = true) →
     let work := fun m : Nat =>
       (∃ p ∈ s.picks, p.presented = false ∧ p.addr.carousel = k ∧ p.addr.carrier = c ∧
         ∃ o, s.order? p.order = some o ∧ m = 1 + o.priority / 16) ∨
       (∃ t ∈ s.tasks, ∃ x ∈ t.targets, x.outcome = .opened ∧ x.addr.carousel = k ∧ x.addr.carrier = c ∧
         m = s.settings.putawayClass) ∨
       (c ∈ r.auditList ∧ m = 0)
     (s.carrierClass k c = none ↔ ∀ m, ¬work m) ∧
     ∀ m, s.carrierClass k c = some m ↔ work m ∧ ∀ n, work n → n ≤ m)

/-- What a carousel and its windows do of themselves moves no tyre: acting on the next target, opening and ending
presentations and measurements, parking, stopping and losing the link leave everything lasting as it was, a park and the end
of a stop but for the position reported (R88 to R91, R98 to R101, R114, R152, R159).
Entries stand in the order of R110: PUT before PICK, PUT by task tag, PICK by creation sequence number, then pick number (R57).
A presentation that opens (R111) has one queue for each slot position, with a PUT entry for each OPEN target and a PICK entry for
each PENDING pick on the slot, in that order; the picks become PRESENTED, the displays are set from the heads, the passed-over
count of the carrier becomes 0 (R84), and an IDLE carousel becomes PRESENTING (R89). It opens at a window not in use whose
standing carrier has work, and one without an entry ends at once (R89, R111; that such ends and openings follow each other at
most as often as the bound allows is the model's own, deduced, notes/assumptions/31).
At its end (R114) the panel is BLANK, and the measurement of the carrier begins if the carrier is in the audit list, the audit
test holds (R149) and the carousel is not OFFLINE; the end test finds the presentations whose queues are all empty, and then
makes the dispatcher's test (R100).
An entry that joins (R112) leaves the head; if it would stand before the head it stands directly behind it, else in its order
among those behind the head (the model's choice where these are not in order, notes/assumptions/11); an empty queue takes it as
its head.
An entry that leaves (R113) changes the display when the head leaves: the record is set afresh from the new head, or BLANK.
A cancelled presentation (R115) returns its picks to PENDING and leaves the panel BLANK, and changes no target and no count. -/
def Obligations.ReactionsMoveNoTyre : Prop :=
  (∀ (s : State) (k w c p : Nat) (cs : List Nat) (reason : MoveFaultReason),
    (s.idleAndAct k).lasting = s.lasting ∧ (s.openStanding k).lasting = s.lasting ∧ s.testEnds.lasting = s.lasting ∧
    (s.testWindows k).lasting = s.lasting ∧ (s.gainWork k cs).lasting = s.lasting ∧ (s.enterFault k reason).lasting = s.lasting ∧
    (s.startMeasurement k w c).1.lasting = s.lasting ∧ (s.finishCount k w c).lasting = s.lasting ∧
    (s.carouselLinkLost k).lasting = s.lasting ∧ (s.learnPosition k).lasting = s.lasting ∧ s.refresh.lasting = s.lasting ∧
    (s.park k p).lasting = (s.onCarousel k fun r => { r with p := p }).lasting ∧
    (s.endStop k p).lasting = (s.onCarousel k fun r => { r with p := p }).lasting) ∧
  (∀ (s : State) (t u q r : Nat),
    (s.entryBefore (.put t q) (.put u r) = true ↔ t < u) ∧ s.entryBefore (.put t q) (.pick u r) = true ∧
    s.entryBefore (.pick t q) (.put u r) = false ∧
    ∀ x y, s.pick? t = some x → s.pick? u = some y →
      (s.entryBefore (.pick t q) (.pick u r) = true ↔ x.seq < y.seq ∨ (x.seq = y.seq ∧ t < u))) ∧
  (∀ (s : State) (k c i : Nat),
    (s.fillQueue k c i).Perm
      ((s.tasks.flatMap fun t => (t.targets.filter fun x => decide (x.outcome = .opened ∧ x.addr = ⟨k, c, i⟩)).map fun x =>
          Entry.put t.tag x.quantity) ++
        (s.picks.filter fun p => decide (p.presented = false ∧ p.addr = ⟨k, c, i⟩)).map fun p =>
          Entry.pick p.number p.quantity) ∧
    (s.fillQueue k c i).Pairwise fun a b => s.entryBefore b a = false) ∧
  (∀ (s : State) (k w c n : Nat) (r : Carousel), s.carousel? k = some r →
    let queues := (List.range r.geometry.s).map fun i => s.fillQueue k c i
    let filled : State := { (s.onWindow w fun v => { v with
        presentation := some { carrier := c, queues := queues },
        displays := (List.range 6).map fun i => s.displayOf (queues.getD i []) }).setCarousel k
      { r with passed := r.passed.set c 0, state := if r.state = .idle then .presenting else r.state } with
      picks := s.picks.map fun p =>
        if p.presented = false ∧ p.addr.carousel = k ∧ p.addr.carrier = c then { p with presented := true } else p }
    s.fillPresentation k w c = filled ∧
    (w < s.windows.length → s.openAt k w c (n + 1) =
      if ∀ i, i < r.geometry.s → s.fillQueue k c i = [] then filled.endPresentation k w c (State.openAt k w c n) else filled) ∧
    ((s.window w).presentation ≠ none ∨ (s.window w).measurement ≠ none ∨
      s.carrierClass k ((s.loopPosition w + r.p) % r.geometry.n) = none → s.openWindow k w = s) ∧
    ((s.window w).presentation = none → (s.window w).measurement = none →
      s.carrierClass k ((s.loopPosition w + r.p) % r.geometry.n) ≠ none →
      s.openWindow k w = s.openAt k w ((s.loopPosition w + r.p) % r.geometry.n) openFuel)) ∧
  (∀ (s : State) (k w c : Nat) (r : Carousel) (opening : State → State), s.carousel? k = some r →
    let dropped := s.onWindow w fun v => { v with presentation := none, displays := List.replicate 6 Display.blank }
    (r.state = .offline ∨ c ∉ r.auditList ∨ s.auditTest k c = false → s.endPresentation k w c opening = dropped) ∧
    (r.state ≠ .offline → c ∈ r.auditList → s.auditTest k c = true → s.endPresentation k w c opening =
      match dropped.startMeasurement k w c with
      | (t, true) => t.endMeasurement k w c opening
      | (t, false) => t) ∧
    (c < r.geometry.n → r.slots.length = r.geometry.n * r.geometry.s → (s.auditTest k c = true ↔
      ∀ j x, s.slot? ⟨k, c, j⟩ = some x → x.reserved = 0 ∧ x.pending = 0))) ∧
  (∀ (s : State) (w k : Nat) (pr : Presentation), (s.window w).presentation = some pr → s.carouselOf w = some k →
    ((∀ q ∈ pr.queues, q = []) → s.testEnd w =
      (s.endPresentation k w pr.carrier (State.openAt k w pr.carrier openFuel)).testWindows k) ∧
    ((∃ q ∈ pr.queues, q ≠ []) → s.testEnd w = s)) ∧
  (∀ (s : State) (w : Nat), ((s.window w).presentation = none → s.testEnd w = s) ∧
    s.testEnds = [0, 1, 2, 3, 4, 5, 6, 7].foldl State.testEnd s) ∧
  (∀ (s : State) (k c : Nat), (s.presentingWindow k c = none ↔ ∀ w pr, w < 8 → s.carouselOf w = some k →
      (s.window w).presentation = some pr → pr.carrier ≠ c) ∧
    ∀ w, s.presentingWindow k c = some w → w < 8 ∧ s.carouselOf w = some k ∧
      ∃ pr, (s.window w).presentation = some pr ∧ pr.carrier = c) ∧
  (∀ (s : State) (a : SlotAddr) (e h : Entry) (rest : List Entry),
    (s.presentingWindow a.carousel a.carrier = none → s.joinEntry a e = s ∧ s.removeEntry a e = s) ∧
    (∀ w pr, s.presentingWindow a.carousel a.carrier = some w → (s.window w).presentation = some pr →
      let old := pr.queues.getD a.slot []
      let put := fun (q : List Entry) => s.onWindow w fun v => { v with
        presentation := some { pr with queues := pr.queues.set a.slot q },
        displays := if old.head? = q.head? then v.displays else v.displays.set a.slot (s.displayOf q) }
      s.joinEntry a e = put (if e ∈ old then old else s.joinQueue e old) ∧
      s.removeEntry a e = put (old.filter fun x => decide (x ≠ e))) ∧
    s.joinQueue e [] = [e] ∧ (s.entryBefore e h = true → s.joinQueue e (h :: rest) = h :: e :: rest) ∧
    (s.entryBefore e h = false → ∃ l r, rest = l ++ r ∧ s.joinQueue e (h :: rest) = h :: (l ++ e :: r) ∧
      (∀ x ∈ l, s.entryBefore e x = false) ∧ ∀ x ∈ r.head?, s.entryBefore e x = true)) ∧
  (∀ (s : State) (w : Nat), ((s.window w).presentation = none → s.cancelPresentation w = s) ∧
    ∀ pr, (s.window w).presentation = some pr → s.cancelPresentation w = State.onWindow { s with
      picks := s.picks.map fun p =>
        let isOf := fun (e : Entry) => match e with
          | .pick number _ => number == p.number
          | .put _ _ => false
        if pr.queues.any fun q => q.any isOf then { p with presented := false } else p }
      w fun v => { v with presentation := none, displays := List.replicate 6 Display.blank })

/-- RECOVER of a carousel in FAULT with no query in flight and its link LOCKED hands POSITION to the station (R105);
GET_CAROUSEL reports a configured carousel in every operating mode (R107).
POSITION_REPLY to the query in flight (R102, R103, R105): the query is answered at the link, the guards reported are written,
and the carousel takes the answer. A FAULT carousel, and an OFFLINE one whose position was not known, becomes IDLE at the
position reported and acts. An OFFLINE one that stands where it stood goes on from its resume state: HELD in HOLD mode stays
HELD, else PRESENTING while a window of it is in use, else IDLE, and acts. One that stands elsewhere has its presentations
cancelled by rising window number (notes/assumptions/37), the change reported, and goes on as HELD, or as IDLE with
presentations opened at the standing carriers. Two points of this are the model's readings of R89, R102 and R103: that an answer
into HELD opens presentations at the standing carriers (deduced, notes/assumptions/14), and that after a changed position the
carousel first acts and only then opens them, if it is still in a state that does (deduced, notes/assumptions/15). In each case
the position is recorded and known, the query and the resume state are gone, and of what else lasts nothing changes. -/
def Obligations.PositionsAreAskedForAndRecorded : Prop :=
  (∀ (s : State) (tag k : Nat) (c : Carousel), s.lineFree → tag ≠ 0 → s.carousel? k = some c →
     (s.mode ≠ .config → c.state = .fault → c.query = none → s.locked k = true →
       exec (.recover tag k) s = .next (((((s.take 0x38 tag).setCarousel k { c with query := some .recover }).onLink k
         (Link.handOver s.now (.position true)))).replied .ok .none)) ∧
     exec (.getCarousel tag k) s = .next (s.answered 0x39 tag .ok (.carousel
       { state := c.state, p := c.p, known := c.known, resume := c.resume, stepTime := c.stepTime,
         windows := (s.windowsOf k).map fun w => (w, s.loopPosition w, (s.window w).guard),
         move := c.move,
         timeLeft := match c.move.bind (fun m => m.deadline), c.restart with
           | some d, _ => some (timeLeft s.now d)
           | none, some d => some (timeLeft s.now d)
           | none, none => none,
         query := c.query, next := c.next, auditList := c.auditList,
         carriers := (List.range c.geometry.n).map fun i =>
           let work := c.work.getD i { picks := [], targets := 0, listed := false }
           { cls := work.cls s.settings.putawayClass, picks := total work.picks, targets := work.targets,
             listed := work.listed, passed := c.passed.getD i 0 } }))) ∧
  (∀ (s : State) (st number p : Nat) (guards : List (Nat × Guard)) (c : Carousel), s.carousel? st = some c →
     s.answers st number = some (.position true) → p < c.geometry.n →
     exec (.positionReply st number p guards) s = .next (State.close
       (((s.onLink st (Link.answered s.now)).writeGuards st guards).positionAnswer st p c)) ∧
     (c.state = .offline ∨ c.state = .fault → ∃ u : State, exec (.positionReply st number p guards) s = .next u.transmit ∧
       u.lasting = ((s.writeGuards st guards).setCarousel st { c with p := p, known := true }).lasting)) ∧
  (∀ (s : State) (k p : Nat) (c : Carousel), s.carousel? k = some c →
     let learned : Carousel := { c with p := p, known := true, query := none, resume := none }
     let idle : State := (s.setCarousel k { learned with state := .idle }).recompute k
     let used := ∃ w ∈ s.windowsOf k, (s.window w).presentation ≠ none ∨ (s.window w).measurement ≠ none
     (c.state = .fault → s.positionAnswer k p c = idle) ∧
     (c.state = .offline → c.known = false → s.positionAnswer k p c = idle) ∧
     (c.state = .offline → c.known = true → p = c.p → c.resume = some .held ∧ s.mode = .hold →
       s.positionAnswer k p c = (s.setCarousel k { learned with state := .held }).openStanding k) ∧
     (c.state = .offline → c.known = true → p = c.p → ¬(c.resume = some .held ∧ s.mode = .hold) →
       (used → s.positionAnswer k p c = s.setCarousel k { learned with state := .presenting }) ∧
       (¬used → s.positionAnswer k p c = idle)) ∧
     (c.state = .offline → c.known = true → p ≠ c.p →
       let ws := (s.windowsOf k).filter fun w => (s.window w).presentation.isSome
       let told := ((ws.foldl (fun s w => s.cancelPresentation w) s).setCarousel k learned).notify
         (.positionChanged k c.p p ws.length (total (ws.map fun w => (s.window w).pickEntries)))
       (c.resume = some .held ∧ s.mode = .hold →
         s.positionAnswer k p c = (told.onCarousel k fun d => { d with state := .held }).openStanding k) ∧
       (¬(c.resume = some .held ∧ s.mode = .hold) →
         let acted := (told.onCarousel k fun d => { d with state := .idle }).recompute k
         ∀ d, acted.carousel? k = some d →
           (d.state = .idle ∨ d.state = .presenting ∨ d.state = .held →
             s.positionAnswer k p c = (acted.openStanding k).testWindows k) ∧
           (d.state ≠ .idle → d.state ≠ .presenting → d.state ≠ .held → s.positionAnswer k p c = acted))) ∧
     (c.state ≠ .offline → c.state ≠ .fault → s.positionAnswer k p c = s.setCarousel k { c with query := none }))

/-- MOVE_DONE of a MOVING or SUSPENDED carousel parks it (R91, R96): it stands at the position reported, PRESENTING, its move
record, deadline and restart delay removed, presentations open at the standing carriers, and with no window then in use it
becomes IDLE and acts (R100). MOVE_DONE and STOPPED of a STOPPING one end the stop (R98): in HOLD mode as HELD with presentations
at the standing carriers, in RUN mode PRESENTING while a window is in use, else IDLE, and acts. Of what lasts, the position
reported alone changes. In any other state, for STOPPED also while MOVING or SUSPENDED, from a link that is not LOCKED, from a
station that is no bay module and with a position not below N, the report changes no record: the event closes with nothing done
(R96, R174).
MOVE_FAIL while MOVING, STOPPING or SUSPENDED records the position and ends the move in FAULT with the reason reported; in
any other state it is ignored (R92, R104). -/
def Obligations.ReportsOfTheMoveEndItOrFault : Prop :=
  (∀ (s : State) (st p : Nat) (c : Carousel), s.carousel? st = some c →
     let stands : Carousel := { c with p := p, move := none, restart := none }
     let used := ∃ w ∈ s.windowsOf st, (s.window w).presentation ≠ none ∨ (s.window w).measurement ≠ none
     (s.locked st = true → st < 4 → p < c.geometry.n → c.state = .moving ∨ c.state = .suspended →
       exec (.moveDone st p) s = .next (State.close (State.testWindows st
         ((s.setCarousel st { stands with state := .presenting }).openStanding st)))) ∧
     (s.locked st = true → st < 4 → p < c.geometry.n → c.state = .moving ∨ c.state = .suspended ∨ c.state = .stopping →
       ∃ u : State, exec (.moveDone st p) s = .next u.transmit ∧
         u.lasting = (s.setCarousel st { c with p := p }).lasting) ∧
     (s.locked st = true → st < 4 → p < c.geometry.n → c.state = .stopping →
       exec (.stopped st p) s = exec (.moveDone st p) s ∧
       (s.mode = .hold → exec (.stopped st p) s = .next (State.close
         ((s.setCarousel st { stands with state := .held }).openStanding st))) ∧
       (s.mode = .hold → ∃ (u : State) (d : Carousel), exec (.stopped st p) s = .next u.transmit ∧
         u.carousel? st = some d ∧ d.state = .held ∧ d.p = p ∧ d.move = none) ∧
       (s.mode ≠ .hold → used →
         exec (.stopped st p) s = .next (State.close (s.setCarousel st { stands with state := .presenting }))) ∧
       (s.mode ≠ .hold → ¬used → exec (.stopped st p) s = .next (State.close
         ((s.setCarousel st { stands with state := .idle }).recompute st)))) ∧
     ((s.locked st = false ∨ c.state = .idle ∨ c.state = .presenting ∨ c.state = .held ∨ c.state = .offline ∨ c.state = .fault) →
       exec (.moveDone st p) s = .next s.close ∧ exec (.stopped st p) s = .next s.close) ∧
     (c.state = .moving ∨ c.state = .suspended → exec (.stopped st p) s = .next s.close) ∧
     (c.geometry.n ≤ p ∨ 4 ≤ st → exec (.moveDone st p) s = .next s.close ∧ exec (.stopped st p) s = .next s.close)) ∧
  (∀ (s : State) (k : Nat) (c : Carousel), s.carousel? k = some c →
     let used := ∃ w ∈ s.windowsOf k, (s.window w).presentation ≠ none ∨ (s.window w).measurement ≠ none
     (c.state = .presenting → ¬used → s.testWindows k = (s.setCarousel k { c with state := .idle }).recompute k) ∧
     (c.state ≠ .presenting ∨ used → s.testWindows k = s)) ∧
  (∀ (s : State) (st p : Nat) (reason : FailReason) (c : Carousel), s.carousel? st = some c → s.locked st = true → st < 4 →
     p < c.geometry.n →
     (c.state = .moving ∨ c.state = .stopping ∨ c.state = .suspended →
       exec (.moveFail st reason p) s = .next (State.close
         ((s.setCarousel st { c with state := .fault, p := p, move := none, restart := none }).notify
           (.moveFault st (match reason with | .drive => .drive | .obstructed => .obstructed) p
             (c.move.map fun m => m.carrier) (c.move.map fun m => m.plan.targetP))))) ∧
     (c.state ≠ .moving → c.state ≠ .stopping → c.state ≠ .suspended →
       exec (.moveFail st reason p) s = .next s.close))

/-- GUARD of a window of the carousel (R94): the guard state is written in every state; OPEN while MOVING suspends the move, and
CLOSED while SUSPENDED starts the restart delay of 1000 ms when no guard of the carousel is left OPEN, and P becomes the
position reported; an OPEN while SUSPENDED cancels the delay. A report of a window that is no window of the carousel, one from a
link that is not LOCKED or a station that is no bay module of a configured carousel, and one with a position not below N change no
record (R94, R174). -/
def Obligations.GuardReportsSuspendAndResume : Prop :=
  (∀ (s : State) (st w p : Nat) (g : Guard),
    s.carouselOf w ≠ some st ∨ s.locked st = false ∨ 4 ≤ st ∨ s.carousel? st = none ∨
      (∃ c, s.carousel? st = some c ∧ c.geometry.n ≤ p) →
    exec (.guard st w g p) s = .next s.close) ∧
  ∀ (s : State) (st w p : Nat) (g : Guard) (c : Carousel), s.carousel? st = some c → s.locked st = true → st < 4 →
    p < c.geometry.n → s.carouselOf w = some st →
    let s1 := s.onWindow w fun v => { v with guard := g }
    (c.state = .moving → g = .opened → exec (.guard st w g p) s = .next (State.close (s1.setCarousel st
      { c with p := p, state := .suspended, restart := none, move := c.move.map fun m => { m with deadline := none } }))) ∧
    (c.state = .suspended → g = .opened → exec (.guard st w g p) s = .next (State.close (s1.setCarousel st
      { c with p := p, restart := none }))) ∧
    (c.state = .suspended → g = .closed → exec (.guard st w g p) s = .next (State.close (s1.setCarousel st
      { c with p := p, restart := if s1.anyGuardOpen st then c.restart else some (s.now + ms 1000) }))) ∧
    ((c.state = .moving ∧ g = .closed) ∨ (c.state ≠ .moving ∧ c.state ≠ .suspended) →
      exec (.guard st w g p) s = .next s1.close)

/-- The move deadline of a MOVING carousel ends the move in FAULT with HALT sent (R93), the stop deadline of a STOPPING one ends
it in FAULT (R97), and the restart delay of a SUSPENDED one plans the move again from P: a park with no step to go (R91), else a
MOVE at the speed the balance unit gives, with its deadline (R87, R95). P stays. That an expiry takes the timebase to its own
time is the model's choice (notes/assumptions/3). -/
def Obligations.MotionTimersFaultOrRestart : Prop :=
  ∀ (s : State) (k : Nat) (c : Carousel) (m : MoveRecord) (d : Time), s.carousel? k = some c → c.move = some m →
    (c.state = .moving → m.deadline = some d → exec (.moveDeadlineExpiry k) s = .next (State.close
      ((((s.reachTime d).onLink k (Link.handOver (s.reachTime d).now .halt)).setCarousel k
        { c with state := .fault, move := none, restart := none }).notify
          (.moveFault k .timeout c.p (some m.carrier) (some m.plan.targetP))))) ∧
    (c.state = .stopping → m.deadline = some d → exec (.stopDeadlineExpiry k) s = .next (State.close
      (((s.reachTime d).setCarousel k { c with state := .fault, move := none, restart := none }).notify
        (.moveFault k .stopTimeout c.p (some m.carrier) (some m.plan.targetP))))) ∧
    (∀ plan, c.state = .suspended → c.restart = some d → s.plan k m.carrier = some plan →
      (plan.steps = 0 → exec (.restartDelayExpiry k) s = .next (State.close (State.testWindows k
          (((s.reachTime d).setCarousel k { c with state := .presenting, move := none, restart := none }).openStanding k)))) ∧
      (plan.steps = 0 → ∃ u : State, exec (.restartDelayExpiry k) s = .next u.transmit ∧
        u.lasting = (s.reachTime d).lasting) ∧
      (plan.steps ≠ 0 → exec (.restartDelayExpiry k) s = .next (State.close
        (((s.reachTime d).setCarousel k
          { c with state := .moving, restart := none,
                   move := some { carrier := m.carrier, plan := plan, speed := some c.figures.speed,
                                  deadline := some ((s.reachTime d).now + ms
                                    (plan.steps * c.stepTime * (if c.figures.speed = .creep then 2 else 1) + 2000)) } }).onLink
          k (Link.handOver (s.reachTime d).now (.move plan.targetP plan.direction c.figures.speed))))))

/-! ### Pick windows and operator panels (06_pick_windows_and_operator_panels.md) -/

/-- SET_WINDOW in CONFIG mode with fields in range (R108, R109): the window is configured at the place, or not configured, with
the values of R108; what the audit unit holds for it stays (deduced, notes/assumptions/18). Not configured it has no rank; a
window that has a rank keeps it, and a newly configured one takes a rank, 0 to 7, that no other configured window has (R137),
of which the manual does not say which: the value is free, and the model counts the draw (notes/assumptions/17).
GET_WINDOW reports a configured window in every mode (R128). That it reports no slot positions of a window whose carousel is not
configured, so that S is not known, is the model's choice (notes/assumptions/32). -/
def Obligations.SetWindowAssignsAndGetWindowReports : Prop :=
  ∀ (s : State) (tag w : Nat), s.lineFree → tag ≠ 0 → w ≤ 7 →
    (let written := fun (a : Option (Nat × Nat)) (rank : Option Nat) (v : Window) =>
       ({ assigned := a, guard := .closed, rank := rank, presentation := none,
          displays := List.replicate 6 { mode := .blank, quantity := 0, lane := none, blink := false },
          header := { carrier := none, status := .blank }, keys := List.replicate 6 { minus := .up, confirm := .up },
          presses := [], blinkLit := false, shown := none, outfeed := [], measurement := v.measurement, counter := v.counter,
          counterOpen := v.counterOpen, calibrations := v.calibrations } : Window)
     ∀ pos : Nat, s.mode = .config → pos ≤ 47 →
      exec (.setWindow tag w none pos) s = .next
        (((s.take 0x19 tag).onWindow w (written none none)).refresh.replied .ok (.window w none)) ∧
      ∀ k, k ≤ 3 → ((s.windowsOf k).filter fun v => decide (v ≠ w)).length < 2 →
        (∀ r, (s.window w).rank = some r → exec (.setWindow tag w (some k) pos) s = .next
          (((s.take 0x19 tag).onWindow w (written (some (k, pos)) (some r))).refresh.replied .ok (.window w (some (k, pos))))) ∧
        ((s.window w).rank = none → ∃ r, r < 8 ∧
          (∀ v, v < 8 → v ≠ w → (s.window v).assigned.isSome = true → (s.window v).rank ≠ some r) ∧
          exec (.setWindow tag w (some k) pos) s = .next
            ((State.onWindow { s.take 0x19 tag with draws := s.draws + 1 } w (written (some (k, pos)) (some r))).refresh.replied
              .ok (.window w (some (k, pos)))))) ∧
    (∀ a, (s.window w).assigned = some a →
      exec (.getWindow tag w) s = .next (s.answered 0x3A tag .ok (.windowReport
        { carousel := a.1, loopPosition := a.2, header := (s.window w).header,
          presented := (s.window w).presentation.map fun p => p.carrier,
          positions := (List.range (match s.carousel? a.1 with | some c => c.geometry.s | none => 0)).map fun i =>
            ((s.window w).displays.getD i Display.blank, match (s.window w).presentation with
              | some p => p.queues.getD i []
              | none => []),
          outfeed := (s.window w).outfeed.mapIdx fun i item =>
            (item, i == 0 && match s.merge.transfer with
              | some t => t.window == w
              | none => false),
          freePlaces := 8 - (s.window w).outfeed.length }))) ∧
    ((s.window w).assigned = none → exec (.getWindow tag w) s = .next (s.answered 0x3A tag .notFound .none))

/-- KEY_SAMPLING of a configured window samples each key of its slot positions once: a press is taken at the second sampling in
a row that sees the key down, and none when both keys of a group are pressed at once; nothing else changes but what the panel
shows (R118, R119): the records of its slot positions as they stand, those with blink dark in alternate cycles, and the header.
The list of presses taken is the model's own (notes/assumptions/21), that one scan cycle is one step with its blink phase is its
choice (notes/assumptions/22), and so is that a window whose carousel is not configured has no slot position to light or to read
(notes/assumptions/32).
MINUS lowers the displayed quantity of a PUT or PICK record by 1, and at 0 leaves it; on a BLANK, AUDIT or WAIT record it
is ignored (R120); nothing else changes but the press, which is no longer waiting. That MINUS is a command of its own, obeyed
also when no press waits, is the model's choice (notes/assumptions/21).
A display record set from a queue (R116) is BLANK for an empty one, PUT with the entry's quantity and no lane for a PUT entry at
its head, and PICK with the entry's quantity, the lane of the pick's order and blink for order class 3 for a PICK entry.
At the close of an event the header of a configured window (R117) has the status MEASURE with a measurement or tare count open,
else OPEN with a presentation, else FAULT with its carousel in FAULT, else HELD in HOLD mode or with its carousel STOPPING or
HELD, else BLANK; in CONFIG mode it is BLANK. Its carrier number is that under measurement or presented, else the one standing
at the window while the position is known. A window not configured keeps its header. -/
def Obligations.KeysAreDebouncedAndMinusLowers : Prop :=
  ((∀ (s : State) (w : Nat) (down : List (Bool × Bool)), (s.window w).assigned.isSome = true → ∃ v : Window,
     exec (.keySampling w down) s = .next { s with windows := s.windows.set w v } ∧
     ({ v with keys := (s.window w).keys, presses := (s.window w).presses, blinkLit := (s.window w).blinkLit,
               shown := (s.window w).shown } : Window) = s.window w ∧
     v.blinkLit = !(s.window w).blinkLit ∧
     v.shown = some {
       groups := ((s.window w).displays.take (s.positionsAt w)).map fun d =>
         if d.blink = true ∧ (s.window w).blinkLit = true then none else some d,
       header := (s.window w).header } ∧
     (∀ i k, i < s.positionsAt w → (s.window w).keys[i]? = some k →
       v.keys[i]? = some ⟨k.minus.sample (down.getD i (false, false)).1, k.confirm.sample (down.getD i (false, false)).2⟩) ∧
     ∃ new, v.presses = (s.window w).presses ++ new ∧ ∀ i,
       (Press.minus i ∈ new ↔ ∃ k, (s.window w).keys[i]? = some k ∧ i < s.positionsAt w ∧ k.minus = .downOnce ∧
         (down.getD i (false, false)).1 = true ∧ ¬(k.confirm = .downOnce ∧ (down.getD i (false, false)).2 = true)) ∧
       (Press.confirm i ∈ new ↔ ∃ k, (s.window w).keys[i]? = some k ∧ i < s.positionsAt w ∧ k.confirm = .downOnce ∧
         (down.getD i (false, false)).2 = true ∧ ¬(k.minus = .downOnce ∧ (down.getD i (false, false)).1 = true))) ∧
   (∀ k : KeyState, k.sample true = (if k = .up then .downOnce else .down) ∧
     k.sample false = if k = .down then .upOnce else .up)) ∧
  (∀ (s : State) (w i : Nat) (d : Display), (s.window w).displays[i]? = some d →
     exec (.minus w i) s = .next (s.onWindow w fun v =>
       { v with presses := v.presses.erase (.minus i),
                displays := v.displays.set i
                  (if d.mode = .put ∨ d.mode = .pick then { d with quantity := d.quantity - 1 } else d) })) ∧
  (∀ (s : State) (rest : List Entry) (n q : Nat),
     s.displayOf [] = { mode := .blank, quantity := 0, lane := none, blink := false } ∧
     s.displayOf (.put n q :: rest) = { mode := .put, quantity := q, lane := none, blink := false } ∧
     ∀ x o, s.pick? n = some x → s.order? x.order = some o →
       s.displayOf (.pick n q :: rest) = { mode := .pick, quantity := q, lane := o.lane, blink := o.priority / 16 == 3 }) ∧
  (∀ (s : State) (w : Nat),
     ((s.window w).assigned = none → (s.refresh.window w).header = (s.window w).header) ∧
     ∀ k pos, w < 8 → (s.window w).assigned = some (k, pos) →
       let state := (s.carousel? k).map fun r => r.state
       (s.refresh.window w).header =
         { carrier := match (s.window w).measurement, (s.window w).presentation, s.carousel? k with
             | some m, _, _ => some m.carrier
             | none, some pr, _ => some pr.carrier
             | none, none, some r => if r.known then some ((pos + r.p) % r.geometry.n) else none
             | none, none, none => none,
           status := if s.mode = .config then .blank
             else if (s.window w).measurement ≠ none then .measure
             else if (s.window w).presentation ≠ none then .opened
             else if state = some .fault then .fault
             else if s.mode = .hold ∨ state = some .stopping ∨ state = some .held then .held
             else .blank })

/-- CONFIRM of a PUT entry (R50, R51, R121): the displayed quantity, which is at most the target's, is added to the slot's on-hand
and the target's whole quantity leaves its pending, in one write, and a slot left with nothing is FREE; the target is CONFIRMED
with that quantity, its entry leaves the queue, and the task is freed when it was its last OPEN one. Then the short lines of
the article are re-allocated (R52, R67), and the end test of R114 is made. Beyond that, nothing but what pick allocation writes
changes, and the press, which is no longer waiting: that CONFIRM is a command of its own is the model's choice
(notes/assumptions/21). An entry whose task has no OPEN target on the slot has no effect. -/
def Obligations.ConfirmOfAPutStoresTheTyres : Prop :=
  ∀ (s : State) (w i k : Nat) (pr : Presentation) (task quantity : Nat) (rest : List Entry) (d : Display),
    s.carouselOf w = some k → (s.window w).presentation = some pr → pr.queue i = .put task quantity :: rest →
    (s.window w).displays.getD i Display.blank = d → d.mode = .put →
    let a : SlotAddr := ⟨k, pr.carrier, i⟩
    let s0 := s.onWindow w fun v => { v with presses := v.presses.erase (.confirm i) }
    let isIt := fun (y : Target) => decide (y.outcome = .opened) && y.addr == a
    (∀ t x, s.task? task = some t → t.targets.find? isIt = some x →
      let q := min d.quantity x.quantity
      let placed := (s0.updateSlot a fun y =>
        if y.state = .stocked ∧ y.onHand + q = 0 ∧ y.pending - x.quantity = 0 then Slot.freeSlot
        else { y with onHand := y.onHand + q, pending := y.pending - x.quantity }).onTask task fun t =>
          { t with targets := modifyAt (fun y => { y with outcome := .confirmed q }) (t.targets.findIdx isIt) t.targets }
      let u := ((((placed.removeEntry a (.put task x.quantity)).endTask task).reallocate
        { lines := [], places := [t.place], except := none }).testEnds).refresh
      exec (.confirm w i) s = .next u.transmit ∧ u.stored = (placed.endTask task).stored) ∧
    ((s.task? task).bind (fun t => t.targets.find? isIt) = none → exec (.confirm w i) s = .next s0.close)

/-- CONFIRM of a PICK entry whose outfeed places suffice (R123, R125, R126): the displayed quantity, which is at most the pick's,
leaves the slot's on-hand and the pick's whole quantity its pick-reserved; the line has picked that many more; as many items join
the tail of the window's outfeed queue, from which the merge may grant; the entry leaves its queue; the line is re-allocated (R67)
and the end test of R114 is made; and on a full confirm nothing else changes but what pick allocation and a grant of the merge
write. A confirm of less than the pick's quantity is a short pick (R126, R127): a STOCKED slot left with no on-hand and nothing
pending has become FREE and stays so; any other enters QUARANTINE as SHORT_PICK, its other open picks and OPEN targets cancelled
and its on-hand kept. In both cases its carrier then joins the audit list, where it stays if it stands there, the SHORT_PICK
notice is queued, and the lines re-allocated are that of the pick and those of the picks cancelled. With too few places the
record turns to WAIT and nothing else changes. In each case the press is no longer waiting: that CONFIRM is a command of its
own is the model's choice (notes/assumptions/21). -/
def Obligations.ConfirmOfAPickTakesTheTyres : Prop :=
  ∀ (s : State) (w i k : Nat) (pr : Presentation) (number quantity : Nat) (rest : List Entry) (d : Display) (p : Pick),
    s.carouselOf w = some k → (s.window w).presentation = some pr → pr.queue i = .pick number quantity :: rest →
    (s.window w).displays.getD i Display.blank = d → d.mode = .pick → s.pick? number = some p →
    let q := min d.quantity p.quantity
    let s0 := s.onWindow w fun v => { v with presses := v.presses.erase (.confirm i) }
    let took := ((s0.updateSlot p.addr fun x =>
        if x.state = .stocked ∧ x.onHand - q = 0 ∧ x.pending = 0 then Slot.freeSlot
        else { x with onHand := x.onHand - q, reserved := x.reserved - p.quantity }).onOrder p.order fun o =>
          o.onLine p.line fun l => { l with picked := l.picked + q, openPicks := l.openPicks - 1 }).onWindow w fun v =>
            { v with outfeed := v.outfeed ++ List.replicate q { order := p.order, line := p.line, lane := s.laneOf p.order } }
    let left := State.removeEntry p.addr (.pick p.number p.quantity)
      (State.testGrant { took with picks := took.picks.filter fun y => decide (y.number ≠ p.number) })
    let ends := fun (lines : List (Nat × Nat)) (t : State) =>
      ((t.reallocate { lines := (p.order, p.line) :: lines, places := [], except := none }).testEnds).refresh
    let listed := fun (t : State) => t.onCarousel p.addr.carousel fun r =>
      { r with auditList := if p.addr.carrier ∈ r.auditList then r.auditList else r.auditList ++ [p.addr.carrier] }
    let told := fun (outcome : ShortOutcome) (onHand siblings targets : Nat) (t : State) => t.notify (.shortPick
      { window := w, addr := p.addr, order := p.order, line := p.line,
        code := match s.line? p.order p.line with
          | some l => s.codeAt l.place
          | none => 0,
        quantity := p.quantity, confirmed := q, outcome := outcome, onHand := onHand, siblings := siblings, targets := targets })
    (q ≤ (s.window w).freePlaces → q = p.quantity →
      let u := ends [] left
      exec (.confirm w i) s = .next u.transmit ∧
      ({ u.stored with merge := s.merge } : State) = { took.stored with merge := s.merge }) ∧
    (∀ x, q ≤ (s.window w).freePlaces → q < p.quantity → s.slot? p.addr = some x → x.state = .stocked →
      (x.onHand - q = 0 → x.pending = 0 → left.slot? p.addr = some Slot.freeSlot ∧
        exec (.confirm w i) s = .next (ends [] (told .free 0 0 0 (listed left))).transmit) ∧
      (x.onHand - q ≠ 0 ∨ x.pending ≠ 0 →
        left.slot? p.addr = some { x with onHand := x.onHand - q, reserved := x.reserved - p.quantity } ∧
        exec (.confirm w i) s = .next (ends ((left.slotPicks p.addr).map fun y => (y.order, y.line))
          (told .quarantine (x.onHand - q) (s.picks.filter fun y => decide (y.addr = p.addr ∧ y.number ≠ p.number)).length
            (s.tasks.flatMap fun t => t.targets.filter fun y => decide (y.outcome = .opened ∧ y.addr = p.addr)).length
            (listed (left.quarantine p.addr .shortPick none)))).transmit)) ∧
    (q ≤ (s.window w).freePlaces → q < p.quantity → ∃ u : State,
      exec (.confirm w i) s = .next u.transmit ∧
      ({ u.counted with merge := s.merge } : State) = { took.counted with merge := s.merge } ∧
      ∀ x, s.slot? p.addr = some x → ∃ y, u.slot? p.addr = some y ∧ y.onHand = x.onHand - q ∧
        (y.state = .free ∨ (y.state = .quarantine ∧ y.reason = some .shortPick ∧ y.measured = none))) ∧
    ((s.window w).freePlaces < q → exec (.confirm w i) s = .next (State.close (s0.onWindow w fun v =>
      { v with displays := v.displays.set i { d with mode := .wait } })))

/-! ### Order consolidation (07_order_consolidation.md) -/

/-- A grant is made when the merge is RUNNING with no transfer, the lane module's link is LOCKED and an item waits: to the
window of highest rank among those with an item waiting, its head item with the next transfer number, attempt 1 and a deadline
a transfer timeout from now, and DIVERT is handed over. Otherwise nothing changes (R138).
The ranks at the completion of a transfer from a window of rank r (R137): that window takes 0, ranks below r rise by one,
ranks above r stay, and distinct ranks stay distinct. -/
def Obligations.TheGrantAndTheRanks : Prop :=
  (∀ s : State,
     (∀ w, s.grantWindow = some w → w < 8 ∧ (s.window w).assigned.isSome = true ∧ 0 < s.itemsWaiting w ∧
       ∀ v, v < 8 → (s.window v).assigned.isSome = true → 0 < s.itemsWaiting v → s.rankOf v ≤ s.rankOf w) ∧
     (s.grantWindow = none ↔ ∀ v, v < 8 → (s.window v).assigned.isSome = true → s.itemsWaiting v = 0) ∧
     (∀ w item rest, s.merge.state = .running → s.merge.transfer = none → s.locked 4 = true → s.grantWindow = some w →
       (s.window w).outfeed = item :: rest →
       s.testGrant = ({ s with merge := { s.merge with
         nextNumber := (s.merge.nextNumber + 1) % 256,
         transfer := some { number := s.merge.nextNumber, window := w, item := item, attempt := 1,
                            deadline := some (s.now + ms s.settings.transferTimeout), linkLost := false } } } : State).onLink 4
         (Link.handOver s.now (.divert s.merge.nextNumber w item.lane))) ∧
     (s.merge.state ≠ .running ∨ s.merge.transfer ≠ none ∨ s.locked 4 = false ∨ s.grantWindow = none → s.testGrant = s)) ∧
  (∀ (s : State) (w r : Nat), (s.windows[w]?.bind Window.rank) = some r →
     ((s.changeRanks w).windows[w]?.bind Window.rank) = some 0 ∧
     (∀ (v a : Nat), v ≠ w → (s.windows[v]?.bind Window.rank) = some a →
       ((s.changeRanks w).windows[v]?.bind Window.rank) = some (if a < r then a + 1 else a)) ∧
     ((∀ (u v a : Nat), u ≠ v → (s.windows[u]?.bind Window.rank) = some a → (s.windows[v]?.bind Window.rank) ≠ some a) →
       ∀ (u v a : Nat), u ≠ v → ((s.changeRanks w).windows[u]?.bind Window.rank) = some a →
         ((s.changeRanks w).windows[v]?.bind Window.rank) ≠ some a))

/-- A delivered tyre raises its line's delivered by one, and the order is ASSEMBLED when every line of an ACTIVE order has
delivered what it asks for (R72, R73); nothing else changes but the notice queue. An order that becomes ASSEMBLED gives one
ORDER_STATE notice of that occasion, a CANCELLED order with no more tyre on its way one of the occasion DRAINED, each with the
order's tag, lane, requested, picked and delivered total after the change, and any other delivery gives none (R72, R73). -/
def Obligations.ADeliveredTyreIsCounted : Prop :=
  ∀ (s : State) (item : Item) (o : Order) (l : Line), s.order? item.order = some o → o.lines[item.line]? = some l →
    let o' := o.onLine item.line fun l => { l with delivered := l.delivered + 1 }
    (s.deliver item).order? item.order =
      some (if o.state = .active ∧ o'.allDelivered = true then { o' with state := .assembled } else o') ∧
    o'.lines[item.line]? = some { l with delivered := l.delivered + 1 } ∧
    ({ (s.deliver item).lasting with orders := s.orders } : State) = s.lasting ∧
    (∀ tag, tag ≠ item.order → (s.deliver item).order? tag = s.order? tag) ∧
    let counted := s.onOrder item.order fun x => x.onLine item.line fun l => { l with delivered := l.delivered + 1 }
    let told := fun (occasion : Occasion) (t : State) => t.notify (.orderState item.order occasion o.lane
      (total (o'.lines.map fun l => l.requested)) (total (o'.lines.map fun l => l.picked))
      (total (o'.lines.map fun l => l.delivered)))
    let assembled := o.state = .active ∧ ∀ l ∈ o'.lines, l.delivered = l.requested
    let drained := o.state = .cancelled ∧ total (o'.lines.map fun l => l.picked - l.delivered) = 0
    (assembled → s.deliver item = told .assembled (counted.onOrder item.order fun x => { x with state := .assembled })) ∧
    (drained → s.deliver item = told .drained counted) ∧
    (¬assembled → ¬drained → s.deliver item = counted)

/-- ARRIVED of the transfer in flight (R140), in its order: its item leaves the head of its window's outfeed queue and is
delivered (R72), confirms held for want of places that now suffice return to PICK (R124), the ranks change (R137), the transfer
is removed and the grant is tested (R138), which with the merge stopped makes none. JAMMED of it with the merge RUNNING stops
the merge (R143, R144), and with the merge stopped leaves it. A report that names no transfer in flight, or comes while the
link is not LOCKED, changes no record (R141, R174).
The transfer deadline with the merge RUNNING (R142): at attempt 1 or 2 the attempt rises, the deadline is set anew and
DIVERT is sent again with the same number; at attempt 3 the merge stops with cause TIMEOUT (R144). That the expiry takes the
timebase to its own time is the model's choice (notes/assumptions/3). -/
def Obligations.TransfersEndTryAgainOrStop : Prop :=
  (∀ (s : State) (n : Nat),
     (∀ t, s.locked 4 = true → s.merge.transfer = some t → t.number = n →
       (let left := State.deliver t.item (s.onWindow t.window fun v => { v with outfeed := v.outfeed.tail })
        let released := left.onWindow t.window fun v => { v with displays := v.displays.map fun d =>
          if d.mode = .wait ∧ d.quantity ≤ 8 - v.outfeed.length then { d with mode := .pick } else d }
        let done : State := { released.changeRanks t.window with merge := { s.merge with transfer := none } }
        exec (.arrived 4 n) s = .next done.testGrant.close ∧ (s.merge.state ≠ .running → done.testGrant = done)) ∧
       (s.merge.state = .running → exec (.jammed 4 n) s = .next (State.close
         (({ s with merge := { s.merge with
             state := .stopped .jammed, transfer := some { t with deadline := none, linkLost := false } } } : State).notify
           (.laneFault .jammed t.number t.attempt t.window t.item)))) ∧
       (s.merge.state ≠ .running → exec (.jammed 4 n) s = .next s.close)) ∧
     ∀ st, (st ≠ 4 ∨ s.locked 4 = false ∨ ∀ t, s.merge.transfer = some t → t.number ≠ n) →
       exec (.arrived st n) s = .next s.close ∧ exec (.jammed st n) s = .next s.close) ∧
  (∀ (s : State) (t : Transfer) (d : Time), s.merge.transfer = some t → t.deadline = some d → s.merge.state = .running →
     let s1 := s.reachTime d
     let t1 : Transfer :=
       { t with attempt := t.attempt + 1, deadline := some (s1.now + ms s.settings.transferTimeout), linkLost := false }
     (t.attempt < 3 → exec .transferDeadlineExpiry s = .next (State.close
       (({ s1 with merge := { s.merge with transfer := some t1 } } : State).onLink 4
         (Link.handOver s1.now (.divert t.number t.window t.item.lane))))) ∧
     (3 ≤ t.attempt → exec .transferDeadlineExpiry s = .next (State.close
       (({ s1 with merge := { s.merge with
           state := .stopped .timeout, transfer := some { t with deadline := none, linkLost := false } } } : State).notify
         (.laneFault .timeout t.number t.attempt t.window t.item)))))

/-- MERGE_RESUME of a stopped merge with the lane module's link LOCKED (R145): the merge runs; a stopped transfer restarts with
the next number, attempt 1 and a new deadline, and DIVERT is sent; with none the grant is tested, and the reply carries no
number also when a transfer is granted then (deduced, notes/assumptions/29). GET_MERGE reports in every mode (R147): the merge,
its transfer with the time left, each configured window with its rank, its items waiting and its free places, and the lanes. -/
def Obligations.MergeResumeRestartsAndGetMergeReports : Prop :=
  ∀ (s : State) (tag : Nat), s.lineFree → tag ≠ 0 →
    (∀ t, s.mode ≠ .config → s.merge.state ≠ .running → s.locked 4 = true → s.merge.transfer = some t →
      exec (.mergeResume tag) s = .next (((({ s.take 0x41 tag with merge :=
          { state := .running, nextNumber := (s.merge.nextNumber + 1) % 256,
            transfer := some { number := s.merge.nextNumber, window := t.window, item := t.item, attempt := 1,
                               deadline := some (s.now + ms s.settings.transferTimeout), linkLost := false } } } : State).onLink 4
        (Link.handOver s.now (.divert s.merge.nextNumber t.window t.item.lane)))).replied .ok
          (.mergeResumed (some s.merge.nextNumber)))) ∧
    (s.mode ≠ .config → s.merge.state ≠ .running → s.locked 4 = true → s.merge.transfer = none →
      exec (.mergeResume tag) s = .next (State.replied .ok (.mergeResumed none)
        (State.testGrant { s.take 0x41 tag with merge := { s.merge with state := .running } }))) ∧
    exec (.getMerge tag) s = .next (s.answered 0x43 tag .ok (.merge
      { state := s.merge.state, timeout := s.settings.transferTimeout, nextNumber := s.merge.nextNumber,
        transfer := s.merge.transfer,
        timeLeft := (s.merge.transfer.bind fun t => t.deadline).map fun d => timeLeft s.now d,
        windows := ((List.range 8).filter fun w => (s.window w).assigned.isSome).map fun w =>
          (w, (s.window w).rank,
           (s.window w).outfeed.length - (if (s.merge.transfer.map fun t => t.window) = some w then 1 else 0),
           8 - (s.window w).outfeed.length),
        lanes := (List.range 8).filterMap fun n => (s.lanes.getD n none).map fun l => (n, l) }))

/-! ### Stock audit (08_stock_audit.md) -/

/-- AUDIT with its checks passed (R148, R83): the carriers from first to last that are not members join the list at its end in
carrier order, all in one event, to which the carousel then reacts as to any work gained; the reply counts them and the members
after the request, and what the carousel does of it moves no tyre. On a carousel that can do nothing the list is the former one
with the joined carriers behind. That the carousel reacts once, after all of them have joined, and that the members counted are
those left after the measurements that begin in the event, is deduced (notes/assumptions/13), and so is the order of its
reactions to work gained (notes/assumptions/10).
A measurement starts (R152) with the carrier out of the audit list and a record of purpose MEASURE with all counts 0, and the seek
from position 0. The seek (R153) passes over each WITHDRAWN slot with an AUDIT_RESULT notice SKIPPED, which the record counts,
until a slot that is not: that position is current in the phase CHANNEL, shows AUDIT with the recorded on-hand, all others
BLANK, and CHANNEL is handed to the bay module (R154, R116). Past the last position nothing more is left. That a SKIPPED or
INTERRUPTED notice carries the slot's on-hand, article and state of its moment is the model's choice (notes/assumptions/38).
At the end (R159, R164) the record is gone, the counter closed and the panel BLANK; a presentation of the carrier opens if it has
work and the carousel is IDLE, PRESENTING or HELD; and the dispatcher makes its test (R100).
An interruption (R160) removes the record, closes the counter and leaves the panel BLANK; of a measurement, the current slot gives
an AUDIT_RESULT notice INTERRUPTED and the carrier joins the audit list again, if it does not stand there; of a tare count, the
notice is TARE_INTERRUPTED and no carrier joins (R164, R165). -/
def Obligations.AuditJoinsTheCarriers : Prop :=
  (∀ (s : State) (tag k first last : Nat) (c : Carousel), s.lineFree → tag ≠ 0 → s.mode ≠ .config → s.carousel? k = some c →
    first ≤ last → last < c.geometry.n →
    let joined := ((List.range (last + 1)).filter fun x => decide (first ≤ x)).filter fun x => !c.auditList.contains x
    let u := (((s.take 0x48 tag).setCarousel k { c with auditList := c.auditList ++ joined }).gainWork k joined).refresh
    exec (.audit tag k first last) s = .next (u.replied .ok (.listed joined.length
      (match u.carousel? k with | some d => d.auditList.length | none => 0))) ∧
    u.lasting = (s.take 0x48 tag).lasting ∧
    (c.state ≠ .idle → c.state ≠ .presenting → c.state ≠ .held → ∃ d : Carousel,
      u.carousel? k = some d ∧ d.auditList = c.auditList ++ joined ∧ d.state = c.state)) ∧
  (∀ (s : State) (k w c : Nat) (r : Carousel), s.carousel? k = some r →
    s.startMeasurement k w c = State.seekFrom k w c 0
      ((s.setCarousel k { r with auditList := r.auditList.filter fun x => decide (x ≠ c) }).onWindow w fun v =>
        { v with measurement := some { purpose := .measure, carrier := c, position := 0, phase := .channel, judged := 0,
                                       skipped := 0, matched := 0, mismatched := 0 } }) ∧
    (∀ i, r.geometry.s ≤ i → s.seekFrom k w c i = (s, true)) ∧
    (∀ i x, i < r.geometry.s → s.slot? ⟨k, c, i⟩ = some x →
      (x.state = .withdrawn → s.seekFrom k w c i = State.seekFrom k w c (i + 1) ((s.notify (.auditResult
        { window := w, addr := ⟨k, c, i⟩, outcome := .skipped, count := none, load := none, estimate := none,
          recorded := x.onHand, code := x.held.map fun h => s.codeAt h.place, state := .withdrawn, fate := .none })).onWindow w
            fun v => { v with measurement := v.measurement.map fun m => { m with skipped := m.skipped + 1 } })) ∧
      (x.state ≠ .withdrawn → s.seekFrom k w c i = ((s.onWindow w fun v => { v with
        measurement := v.measurement.map fun m => { m with position := i, phase := .channel },
        displays := (List.replicate 6 Display.blank).set i
          { mode := .audit, quantity := x.onHand, lane := none, blink := false } }).onLink k
            (Link.handOver s.now (.channel w i)), false))) ∧
    (let gone := s.onWindow w fun v =>
       { v with measurement := none, counterOpen := false, displays := List.replicate 6 Display.blank }
     let opens := (r.state = .idle ∨ r.state = .presenting ∨ r.state = .held) ∧ s.carrierClass k c ≠ none
     (opens → s.finishCount k w c = (gone.openAt k w c openFuel).testWindows k) ∧
     (¬opens → s.finishCount k w c = gone.testWindows k)) ∧
    ((s.window w).measurement = none → s.interrupt k w = s) ∧
    ∀ m, (s.window w).measurement = some m →
      let removed := fun (t : State) => t.onWindow w fun v =>
        { v with measurement := none, counterOpen := false, displays := List.replicate 6 Display.blank }
      (m.purpose = .tare → s.interrupt k w = removed (s.notify (.tared w m.position m.carrier none))) ∧
      (∀ x, m.purpose = .measure → s.slot? ⟨k, m.carrier, m.position⟩ = some x → s.interrupt k w = removed
        ((s.notify (.auditResult
          { window := w, addr := ⟨k, m.carrier, m.position⟩, outcome := .interrupted, count := none, load := none,
            estimate := none, recorded := x.onHand, code := x.held.map fun h => s.codeAt h.place, state := x.state,
            fate := .none })).setCarousel k
              { r with auditList := if m.carrier ∈ r.auditList then r.auditList else r.auditList ++ [m.carrier] })))

/-- TARE with its checks passed (R163): a tare count opens at the window on the standing carrier, CHANNEL is handed to the bay
module, the position shows AUDIT with quantity 0 and the header MEASURE, the carousel is PRESENTING, and nothing lasting
changes. That the record of a tare count holds the four counts of slots as 0 is the model's choice (notes/assumptions/41). -/
def Obligations.TareOpensATareCount : Prop :=
  ∀ (s : State) (tag w i k pos : Nat) (c : Carousel) (x : Slot), s.lineFree → tag ≠ 0 → s.shaped → s.mode ≠ .config → w < 8 →
    (s.window w).assigned = some (k, pos) → s.carousel? k = some c → i < c.geometry.s →
    c.state = .presenting ∨ c.state = .idle → s.slot? ⟨k, (pos + c.p) % c.geometry.n, i⟩ = some x → x.state = .free →
    (s.window w).presentation = none → (s.window w).measurement = none →
    ∃ u : State, exec (.tare tag w i) s = .next (u.replied .accepted .none) ∧
      (u.window w).measurement = some
        { purpose := .tare, carrier := (pos + c.p) % c.geometry.n, position := i, phase := .channel, judged := 0,
          skipped := 0, matched := 0, mismatched := 0 } ∧
      (u.window w).displays =
        (List.replicate 6 Display.blank).set i { mode := .audit, quantity := 0, lane := none, blink := false } ∧
      (u.window w).header = { carrier := some ((pos + c.p) % c.geometry.n), status := .measure } ∧
      u.link k = (s.link k).handOver s.now (.channel w i) ∧
      (u.carousel? k).map (fun d => d.state) = some .presenting ∧ u.lasting = (s.take 0x4D tag).lasting

/-- SENSOR_CYCLE raises an open counter by one and leaves it at 65535; a closed counter keeps its value. The expiry of the settle
timer clears and opens the counter and starts the gate timer with the stored gate time (R154).
The expiry of the gate timer of a tare count stores the count as the tare of the window channel and keeps its slope; no slot
and no discrepancy record is touched (R164). One AUDIT_RESULT notice TARED of the window, position and carrier carries the count
(R165), and the count ends like a measurement (R159). That an expiry takes the timebase to its own time is the model's choice
(notes/assumptions/3). -/
def Obligations.TheCounterAndTheTareCount : Prop :=
  (∀ (s : State) (w : Nat),
     ((s.window w).counterOpen = true → exec (.sensorCycle w) s = .next (s.onWindow w fun v =>
       { v with counter := if v.counter < 65535 then v.counter + 1 else v.counter })) ∧
     ((s.window w).counterOpen = false → exec (.sensorCycle w) s = .next s) ∧
     (∀ m e, (s.window w).measurement = some m → m.phase = .settle e →
       exec (.settleExpiry w) s = .next ((s.reachTime e).onWindow w fun v =>
         { v with counter := 0, counterOpen := true,
                  measurement := some { m with phase := .gate ((s.reachTime e).now + ms s.settings.gateTime) } }))) ∧
  (∀ (s : State) (w k : Nat) (m : Measurement) (e : Time) (cal : Calibration), s.carouselOf w = some k →
     (s.window w).measurement = some m → m.phase = .gate e → m.purpose = .tare →
     (s.window w).calibrations[m.position]? = some cal →
     let stored := (s.reachTime e).onWindow w fun v =>
       { v with counterOpen := false, calibrations := v.calibrations.set m.position ⟨(s.window w).counter, cal.slope⟩ }
     let u := (State.finishCount k w m.carrier
       (stored.notify (.tared w m.position m.carrier (some (s.window w).counter)))).refresh
     exec (.gateExpiry w) s = .next u.transmit ∧
       u.lasting = ((s.reachTime e).onWindow w fun v =>
         { v with calibrations := v.calibrations.set m.position ⟨(s.window w).counter, cal.slope⟩ }).lasting)

/-- The measured load is the count above the tare times the slope, over 1024, rounded to the nearest with a half up, at most
9999, and 9999 for a saturated counter; the estimate is the load over the unit weight, rounded likewise, at most 255 (R155).
The judgement is that of the table of R156. -/
def Obligations.LoadEstimateAndJudgement : Prop :=
  (∀ c t k : Nat, c ≤ 65535 →
    (c = 65535 → measuredLoad c ⟨t, k⟩ = 9999) ∧ (c ≠ 65535 → c ≤ t → measuredLoad c ⟨t, k⟩ = 0) ∧
    (c ≠ 65535 → t < c → measuredLoad c ⟨t, k⟩ = min (((c - t) * k + 512) / 1024) 9999 ∧
      (measuredLoad c ⟨t, k⟩ < 9999 →
        2 * (c - t) * k < 1024 * (2 * measuredLoad c ⟨t, k⟩ + 1) ∧
          1024 * (2 * measuredLoad c ⟨t, k⟩) ≤ 2 * (c - t) * k + 1024))) ∧
  (∀ load u : Nat, 40 ≤ u → load ≤ 9999 → estimateOf load u = (2 * load + u) / (2 * u) ∧ estimateOf load u ≤ 250 ∧
    2 * load < u * (2 * estimateOf load u + 1) ∧ u * (2 * estimateOf load u) ≤ 2 * load + u) ∧
  (∀ onHand c load : Nat, ∀ e : Option Nat, judge onHand c load e =
    if c = 65535 then .overrange
    else match e with
      | some n => if n = onHand then .matching else .mismatch
      | none => if load < 20 then .matching else .unexpectedLoad)

/-- The expiry of the gate timer of a measurement judges the slot counted (R156, R158). MATCH on a slot in service writes
nothing; MATCH on a QUARANTINE slot releases it and removes its discrepancy record; any other result leaves the slot in
QUARANTINE with its on-hand, article, the measured load and the reason, and enters or rewrites its discrepancy record, or sets
DISCREPANCY_FULL with 32 held. The AUDIT_RESULT notice carries the result (R157) and the record counts it. Then the lines reached
are re-allocated (R67): on a release with tyres in the slot the short lines of its article, on a quarantine entry the lines of the
picks it cancels. Then the next slot is sought, or the measurement ends (R153, R159). Of what else lasts, only what pick
allocation, and in the last case cancelled targets, write.
That the expiry takes the timebase to its own time is the model's choice (notes/assumptions/3). -/
def Obligations.TheGateJudgesTheSlot : Prop :=
  ∀ (s : State) (w k : Nat) (m : Measurement) (e : Time) (x : Slot), s.carouselOf w = some k →
    (s.window w).measurement = some m → m.phase = .gate e → m.purpose = .measure → s.slot? ⟨k, m.carrier, m.position⟩ = some x →
    let a : SlotAddr := ⟨k, m.carrier, m.position⟩
    let count := (s.window w).counter
    let load := measuredLoad count ((s.window w).calibrations.getD m.position ⟨0, 41⟩)
    let est := if count = 65535 then none else x.held.map fun h => estimateOf load (s.weightAt h.place)
    let out := judge x.onHand count load est
    let s1 := s.reachTime e
    let closed := s1.onWindow w fun v => { v with counterOpen := false }
    let sought := fun (t : State) => match t.seekFrom k w m.carrier (m.position + 1) with
      | (v, true) => v.finishCount k w m.carrier
      | (v, false) => v
    let ends := fun (lines : List (Nat × Nat)) (places : List Nat) (state : SlotState) (fate : RecordFate) (t : State) =>
      (sought ((((t.notify (.auditResult
        { window := w, addr := a, outcome := out, count := some count, load := some load, estimate := est, recorded := x.onHand,
          code := x.held.map fun h => s.codeAt h.place, state := state, fate := fate })).onMeasurement w fun m =>
            { m with judged := m.judged + 1, matched := m.matched + (if out = .matching then 1 else 0),
                     mismatched := m.mismatched + (if out = .matching then 0 else 1) }).reallocate
              { lines := lines, places := places, except := none }))).refresh
    let named := s.discrepancies.any fun d => d.addr == a
    let restored := if 0 < x.onHand then { x with state := .stocked, measured := none, reason := none } else Slot.freeSlot
    let released : State :=
      { closed.writeSlot a restored with discrepancies := s.discrepancies.filter fun d => decide (d.addr ≠ a) }
    ∃ u : State, exec (.gateExpiry w) s = .next u.transmit ∧
      (out = .matching → x.state ≠ .quarantine → u = ends [] [] x.state .none closed ∧ u.stored = s1.stored) ∧
      (out = .matching → x.state = .quarantine →
        u = ends [] (match x.held with | some h => if 0 < x.onHand then [h.place] else [] | none => []) restored.state
          (if named then .removed else .none) released ∧
        u.stored = ({ s1.writeSlot a restored with
          discrepancies := s.discrepancies.filter fun d => decide (d.addr ≠ a) } : State).stored) ∧
      (∀ r, out.reason = some r →
        (let entered := if x.state = .quarantine then closed.updateSlot a fun y => { y with reason := some r, measured := some load }
           else closed.quarantine a r (some load)
         let d : Discrepancy := { addr := a, kind := r, recorded := x.onHand, estimate := if r = .mismatch then est else none,
                                  load := load }
         u = ends (if x.state = .quarantine then [] else (closed.slotPicks a).map fun p => (p.order, p.line)) [] .quarantine
           (if named then .updated else if s.discrepancies.length < 32 then .made else .notMade)
           (if named then { entered with discrepancies := entered.discrepancies.map fun y => if y.addr = a then d else y }
            else if s.discrepancies.length < 32 then { entered with discrepancies := entered.discrepancies ++ [d] }
            else { entered with flags := { entered.flags with discrepancyFull := true } })) ∧
        (∃ y, u.slot? a = some y ∧ y.state = .quarantine ∧ y.onHand = x.onHand ∧ y.held = x.held ∧ y.measured = some load ∧
          y.reason = some r) ∧
        let d : Discrepancy := { addr := a, kind := r, recorded := x.onHand, estimate := if r = .mismatch then est else none,
                                 load := load }
        ((x.state = .free → x.onHand = 0) → u.counted = ({ s1 with
          discrepancies := if named then s.discrepancies.map fun y => if y.addr = a then d else y
                           else if s.discrepancies.length < 32 then s.discrepancies ++ [d] else s.discrepancies,
          flags := if named = false ∧ 32 ≤ s.discrepancies.length then { s.flags with discrepancyFull := true }
                   else s.flags } : State).counted))

/-! ### Bay links (09_bay_links.md) -/

/-- STATION_ACCESS with its checks passed (R175 to R177): the access is in flight and ACCESS handed to the station; in bridge
mode HELD the reply waits for its end, in DEFERRED the reply is ACCEPTED with the next ticket.
ACCESS_REPLY of the access outstanding (R172, R175 to R177): the access is over and the next command is sent; with a ticket
its result is a BRIDGE_RESULT notice, without one it is the reply of the STATION_ACCESS that waits for it. -/
def Obligations.BridgedAccessesAreHandedOverAndEnd : Prop :=
  (∀ (s : State) (tag st item value : Nat) (dir : AccessDir), s.lineFree → tag ≠ 0 → st ≤ 4 → item ≤ 255 → value ≤ 65535 →
     s.locked st = true → (s.link st).access = none →
     let access := fun (ticket : Option Nat) => ({ item := item, dir := dir, value := value, ticket := ticket } : Access)
     let opened := fun (ticket : Option Nat) =>
       ((s.take 0x50 tag).onLink st fun l => { l with access := some (access ticket) }).onLink st
         (Link.handOver s.now (.access item dir value))
     (s.settings.bridgeMode = .held → exec (.stationAccess tag st item (some dir) value) s =
       .next ((opened none).awaitExchange (.access st)).transmit) ∧
     (s.settings.bridgeMode = .deferred → exec (.stationAccess tag st item (some dir) value) s =
       .next (State.replied .accepted (.ticket s.nextTicket)
         { opened (some s.nextTicket) with nextTicket := if s.nextTicket < 255 then s.nextTicket + 1 else 1 }))) ∧
  (∀ (s : State) (st number item : Nat) (dir : AccessDir) (v : Nat) (value : Option Nat) (a : Access), st < s.links.length →
     s.answers st number = some (.access item dir v) → (s.link st).access = some a →
     let result : AccessResult := match value with
       | some x => .done x
       | none => .refused
     let s1 := (s.onLink st (Link.answered s.now)).onLink st fun l => { l with access := none }
     (∀ t, a.ticket = some t → exec (.accessReply st number value) s =
       .next (s1.notify (.bridgeResult t st a.item a.dir result)).close) ∧
     (∀ p, a.ticket = none → s.line.progress = some p → p.exchange = some (.access st) →
       exec (.accessReply st number value) s = .next (State.close { s1 with line :=
       { s.line with
         reply := some { kind := p.kind, tag := p.tag, result := .ok, body := .access st a.item a.dir result },
         progress := some { p with exchange := none } } })))

/-- LINK_TEST_START with its checks passed (R179): the link is TESTING with a fresh test record, its traffic is cleared and
TEST_START outstanding, the reply waits for the station, and of what else lasts nothing changes. A LINK_STATE notice tells the
change with cause TEST_START (R169), and the motion controller is told that the link left LOCKED (R170): an IDLE carousel becomes
OFFLINE with resume state IDLE, its measurements interrupted, and an OFFLINE one abandons its query (R101); the merge arbiter,
told with no transfer in flight, does nothing (R146). LINK_TEST_STOP of a TESTING link halts the pattern, sends TEST_STOP and
waits (R182); that the result then keeps its value is the model's choice (notes/assumptions/20). GET_LINK reports in every mode
(R183): the link, the command outstanding by kind, number and sends, the bridged access by item, direction and ticket, and the
test record, an OUTBOUND one without an error count while it is PENDING. -/
def Obligations.PatternTestsStartAndStop : Prop :=
  ∀ (s : State) (tag st : Nat), s.lineFree → tag ≠ 0 → st ≤ 4 → st < s.links.length →
    (∀ dir latch, ¬(dir = .outbound ∧ latch = .live) → s.locked st = true → s.testWouldDisturb st = false →
      let fresh : TestRecord :=
        { dir := dir, latch := latch, errors := 0, result := if dir = .inbound then .pass else .pending, starting := true,
          unanswered := false, aborted := false, running := false, failUntil := none, wordExpiry := none, wordIndex := 0 }
      ∃ u : State, exec (.linkTestStart tag st (some dir) (some latch)) s = .next (u.awaitExchange (.testStart st)).transmit ∧
        (u.link st).queue = [] ∧
        (u.link st).outstanding = some { command := .testStart dir, number := (s.link st).nextNumber, sends := 1,
                                         expiry := s.now + ms 20 } ∧
        u.lasting = ((s.take 0x51 tag).onLink st fun l =>
          { l with state := .testing, settle := none, test := some fresh }).lasting ∧
        let lost := ((s.take 0x51 tag).onLink st fun l =>
          { l with state := .testing, settle := none, queue := [], outstanding := none, test := some fresh }).notify
            (.linkState st .locked .testing .testStart)
        let sent := fun (t : State) => (t.onLink st (Link.send s.now (.testStart dir))).refresh
        (st = 4 ∨ s.carousel? st = none → u = sent lost) ∧
        (∀ c, st < 4 → s.carousel? st = some c →
          (c.state = .idle → u = sent ((s.windowsOf st).foldl (fun t w => t.interrupt st w)
            (lost.setCarousel st { c with state := .offline, resume := some .idle }))) ∧
          (c.state = .offline → u = sent (lost.setCarousel st { c with query := none })))) ∧
    ((s.link st).state = .testing → exec (.linkTestStop tag st) s = .next (State.transmit (State.awaitExchange (.testStop st)
      ((s.take 0x52 tag).onLink st fun l =>
        { l with test := l.test.map fun t => { t with running := false, failUntil := none, wordExpiry := none },
                 outstanding := some { command := .testStop, number := l.nextNumber, sends := 1, expiry := s.now + ms 20 },
                 nextNumber := (l.nextNumber + 1) % 256 })))) ∧
    exec (.getLink tag st) s = .next (s.answered 0x53 tag .ok (.link
      { state := (s.link st).state, present := (s.link st).present, settling := (s.link st).settle.isSome,
        queued := (s.link st).queue.length,
        outstanding := (s.link st).outstanding.map fun o => ((match o.command with
          | .move _ _ _ => .move
          | .halt => .halt
          | .position _ => .position
          | .channel _ _ => .channel
          | .divert _ _ _ => .divert
          | .access _ _ _ => .access
          | .testStart _ => .testStart
          | .testStop => .testStop), o.number, o.sends),
        access := (s.link st).access.map fun a => (a.item, a.dir, a.ticket),
        test := (s.link st).test.map fun t =>
          { dir := t.dir, latch := t.latch, result := t.result,
            errors := if t.dir = .outbound ∧ t.result = .pending then none else some t.errors,
            starting := t.starting, unanswered := t.unanswered, aborted := t.aborted } }))

/-- The presence line of a station (R169): active, a DOWN link becomes TRAINING; inactive, the link becomes DOWN from whatever
state, each with its LINK_STATE notice. A link that was neither LOCKED nor TESTING has no more to tell; one that was LOCKED
leaves LOCKED with all that follows (R170); on one that was TESTING the test is aborted, its traffic cleared, and a request that
waits for the station has its reply (R182), the result of an OUTBOUND test NO_RESPONSE and any other kept as it is
(notes/assumptions/20).
LOCK in TRAINING (R169, R170, R171): the link is LOCKED, its settle of 100 ms runs, a LINK_STATE notice is queued, and the block
that depends on the link is told (the notice before what the block queues is the model's choice, notes/assumptions/45): the
merge arbiter, which makes another attempt of a transfer the loss has struck, or else tests the grant (R146), or the motion
controller, which in RUN and HOLD mode asks an OFFLINE carousel without a query for its position (R102). Beside what they do of
themselves nothing lasting changes. In another state LOCK is ignored.
The end of the settle sends the first command that waits; that it takes the timebase to its own time is the model's choice
(notes/assumptions/3). -/
def Obligations.PresenceAndLockChangeTheLink : Prop :=
  (∀ (s : State) (st : Nat), st < 5 → st < s.links.length →
     ((s.link st).state = .down → exec (.presenceActive st) s = .next (State.close
       ((s.onLink st fun l => { l with present := true, state := .training, settle := none }).notify
         (.linkState st .down .training .presence)))) ∧
     ((s.link st).state ≠ .down → exec (.presenceActive st) s = .next (State.close
       (s.onLink st fun l => { l with present := true }))) ∧
     ((s.link st).state = .down → exec (.presenceInactive st) s = .next (State.close
       (s.onLink st fun l => { l with present := false }))) ∧
     ((s.link st).state = .training → exec (.presenceInactive st) s = .next (State.close
       ((s.onLink st fun l => { l with present := false, state := .down, settle := none }).notify
         (.linkState st .training .down .presence)))) ∧
     ((s.link st).state = .locked → exec (.presenceInactive st) s = .next (State.close
       ((s.onLink st fun l => { l with present := false }).leaveLocked st .down .presence .linkLost))) ∧
     ((s.link st).state = .testing → exec (.presenceInactive st) s = .next (State.close (State.replyTestStop st
       (State.endExchange (.testStart st) .linkDown .none
         ((s.onLink st fun l => { l with
           present := false, state := .down, settle := none, queue := [], outstanding := none,
           test := l.test.map fun t => { t with
             running := false, failUntil := none, wordExpiry := none, aborted := true,
             result := if t.dir = .outbound then .noResponse else t.result } }).notify
           (.linkState st .testing .down .presence)))))) ∧
     ∃ u : State, exec (.presenceInactive st) s = .next u ∧ (u.link st).present = false ∧ (u.link st).state = .down) ∧
  (∀ (s : State) (st : Nat), st < 5 → st < s.links.length →
     ((s.link st).state = .training →
       let s1 := (s.onLink st fun l => { l with state := .locked, settle := some (s.now + ms 100) }).notify
         (.linkState st .training .locked .lock)
       exec (.lock st) s = .next (State.close (if st = 4 then s1.mergeLinkRegained else s1.learnPosition st))) ∧
     ((s.link st).state = .training → ∃ u : State, exec (.lock st) s = .next u.transmit ∧
       ({ u.lasting with merge := s.merge } : State) =
         (s.onLink st fun l => { l with state := .locked, settle := some (s.now + ms 100) }).lasting ∧
       (st ≠ 4 → u.merge = s.merge)) ∧
     ((s.link st).state ≠ .training → exec (.lock st) s = .next s.close) ∧
     (∀ e, (s.link st).settle = some e → exec (.linkSettleExpiry st) s = .next ((s.reachTime e).onLink st fun l =>
       Link.sendHead (s.reachTime e).now { l with settle := none }))) ∧
  (∀ (s : State) (k : Nat) (c : Carousel), s.carousel? k = some c →
     (s.mode ≠ .config → c.state = .offline → c.query = none → s.locked k = true →
       s.learnPosition k = (s.setCarousel k { c with query := some (if c.known then .return else .start) }).onLink k
         (Link.handOver s.now (.position true))) ∧
     (s.mode = .config ∨ c.state ≠ .offline ∨ c.query ≠ none ∨ s.locked k = false → s.learnPosition k = s)) ∧
  (∀ s : State, (∀ t, s.merge.transfer = some t → t.linkLost = true → s.mergeLinkRegained = s.expireAttempt .link t) ∧
     ((∀ t, s.merge.transfer = some t → t.linkLost = false) → s.mergeLinkRegained = s.testGrant))

/-- The reply timer (R172): after the first and the second send the command goes out again with the same number and a new timer;
after the third the link leaves LOCKED as TRAINING with cause NO_REPLY, a bridged access that was outstanding ending as TIMEOUT
and one that waits behind another command as LINK_LOST (the latter the model's choice, notes/assumptions/42);
a TEST_START or TEST_STOP unanswered ends the test instead, an OUTBOUND one with result NO_RESPONSE, the request that waits for
the station having its reply (R179, R182). That an unanswered test keeps its STARTING mark, and an INBOUND one its result, is the
model's choice (notes/assumptions/20), and so is that the expiry takes the timebase to its own time (notes/assumptions/3).
An ACK with the number of a MOVE, HALT or DIVERT outstanding takes it off and sends the next command; one with another number
changes no record.
A loss of LOCKED by the presence line or by a command unanswered after its third send (R169, R170, R172): the link is DOWN
or TRAINING with its LINK_STATE notice, the settle and the reply timer are stopped, the send queue is empty, a bridged access in
flight is over, and the block that depends on the link is told. That LINK_STATE is queued first, then the traffic cleared and the
bridged access ended, with its BRIDGE_RESULT, and the block told last, is deduced (notes/assumptions/16). Of what lasts beside
the link, only a reply or a notice of the bridge and the merge's own reaction change. Told so, the motion controller ends a
move in FAULT with reason LINK, takes an IDLE, PRESENTING or HELD carousel to OFFLINE with that resume state and interrupts its
measurements, by rising window number (the order: notes/assumptions/36), and abandons the query of an OFFLINE or FAULT one
(R101, R160); and the merge arbiter cancels the deadline of its transfer (R146). -/
def Obligations.CommandsAreSentThriceAndALossClearsTheLink : Prop :=
  (∀ (s : State) (st : Nat) (o : Outstanding), st < s.links.length → (s.link st).outstanding = some o →
     (o.sends < 3 → exec (.replyTimerExpiry st) s = .next (State.close ((s.reachTime o.expiry).onLink st fun l =>
       { l with outstanding := some { o with sends := o.sends + 1, expiry := (s.reachTime o.expiry).now + ms 20 } }))) ∧
     (3 ≤ o.sends → (∀ d, o.command ≠ .testStart d) → o.command ≠ .testStop →
       exec (.replyTimerExpiry st) s = .next ((s.reachTime o.expiry).leaveLocked st .training .noReply
         (match o.command with
           | .access _ _ _ => .timeout
           | _ => .linkLost)).close) ∧
     (let ended := fun (unanswered : Bool) =>
        ((s.reachTime o.expiry).onLink st fun l => { l with
          state := .training, settle := none, queue := [], outstanding := none,
          test := l.test.map fun t => { t with
            running := false, failUntil := none, wordExpiry := none, unanswered := t.unanswered || unanswered,
            result := if t.dir = .outbound then .noResponse else t.result } }).notify
          (.linkState st (s.link st).state .training .testEnd)
      (∀ d, 3 ≤ o.sends → o.command = .testStart d → exec (.replyTimerExpiry st) s = .next (State.close
        ((ended true).endExchange (.testStart st) .linkDown .none))) ∧
      (3 ≤ o.sends → o.command = .testStop → exec (.replyTimerExpiry st) s = .next (State.close
        ((ended false).replyTestStop st)))) ∧
     ((∃ p d v, o.command = .move p d v) ∨ o.command = .halt ∨ (∃ t w n, o.command = .divert t w n) →
       exec (.ack st o.number) s = .next (State.close (s.onLink st fun l => Link.sendHead s.now { l with outstanding := none }))) ∧
     (∀ n, n ≠ o.number → exec (.ack st n) s = .next s.close)) ∧
  (∀ (s : State) (st : Nat) (new : LinkState) (cause : LinkCause) (result : AccessResult), st < s.links.length →
     let u := s.leaveLocked st new cause result
     (u.link st).state = new ∧ (u.link st).settle = none ∧ (u.link st).queue = [] ∧ (u.link st).outstanding = none ∧
     (u.link st).access = none ∧ (u.link st).test = (s.link st).test ∧
     ({ u.lasting with merge := s.merge, line := s.lasting.line } : State) =
       (s.onLink st fun l => { l with state := new, settle := none, access := none }).lasting ∧
     let lost := ((s.onLink st fun l => { l with state := new, settle := none, queue := [], outstanding := none }).notify
       (.linkState st (s.link st).state new cause)).endAccess st result
     u = if st = 4 then lost.mergeLinkLost else lost.carouselLinkLost st) ∧
  (∀ (s : State) (k : Nat) (c : Carousel), s.carousel? k = some c →
     (c.state = .moving ∨ c.state = .stopping ∨ c.state = .suspended → s.carouselLinkLost k =
       (s.setCarousel k { c with state := .fault, move := none, restart := none }).notify
         (.moveFault k .link c.p (c.move.map fun m => m.carrier) (c.move.map fun m => m.plan.targetP))) ∧
     (c.state = .idle ∨ c.state = .presenting ∨ c.state = .held → s.carouselLinkLost k =
       (s.windowsOf k).foldl (fun s w => s.interrupt k w) (s.setCarousel k { c with
         state := .offline,
         resume := some (if c.state = .idle then .idle else if c.state = .presenting then .presenting else .held) })) ∧
     (c.state = .offline ∨ c.state = .fault → s.carouselLinkLost k = s.abandonQuery k)) ∧
  (∀ s : State, (∀ t, s.merge.transfer = some t → s.merge.state = .running → s.mergeLinkLost =
       { s with merge := { s.merge with transfer := some { t with deadline := none, linkLost := true } } }) ∧
     (s.merge.transfer = none ∨ s.merge.state ≠ .running → s.mergeLinkLost = s))

/-- ACK of a CHANNEL starts the settle timer of its count (R154); ACK of a TEST_START starts the pattern and gives the waiting
LINK_TEST_START its OK (R179); the answer to TEST_STOP ends the test: the link is TRAINING with cause TEST_END, the pattern is
over, the record holds the result, and the waiting LINK_TEST_STOP has its reply with station, direction, latch, result and error
count (R181, R182). That an INBOUND test keeps the result it had at its halt is the model's choice (notes/assumptions/20).
TEST_WORD while the pattern of an INBOUND test runs (R180): the interval starts anew and the next word of the sequence is
awaited; a word that differs from the one awaited counts one error, at most 65535, and the result is FAIL. An interval without
a word does the same and starts the next. The words of the sequence are free (notes/assumptions/9): this holds of whatever
they are. The moments at which an interval starts are the model's choice (notes/assumptions/20), and so is that
TEST_WORD_TIMEOUT takes the timebase to the interval's end (notes/assumptions/3). -/
def Obligations.StationAnswersAndTestWords : Prop :=
  (∀ (s : State) (st number : Nat), st < s.links.length →
     let begun := fun (t : TestRecord) =>
       { t with starting := false, running := true,
                wordExpiry := if t.dir = .inbound then some (s.now + ms 100) else none }
     let ended := fun (f : TestRecord → TestRecord) =>
       (s.onLink st fun l => { l with
         state := .training, settle := none, queue := [], outstanding := none,
         test := l.test.map fun t => f { t with running := false, failUntil := none, wordExpiry := none } }).notify
         (.linkState st (s.link st).state .training .testEnd)
     (∀ w i m, s.answers st number = some (.channel w i) → w < s.windows.length → (s.window w).measurement = some m →
       m.phase = .channel → m.position = i →
       exec (.ack st number) s = .next (State.close ((s.onLink st (Link.answered s.now)).onWindow w fun v =>
         { v with measurement := some { m with phase := .settle (s.now + ms s.settings.settleTime) } }))) ∧
     (∀ d t p, s.answers st number = some (.testStart d) → (s.link st).test = some t → s.line.progress = some p →
       p.exchange = some (.testStart st) →
       exec (.ack st number) s = .next (State.close { (s.onLink st (Link.answered s.now)).onLink st (fun l =>
           { l with test := some (begun t) }) with
         line := { s.line with
           reply := some { kind := p.kind, tag := p.tag, result := .ok, body := .none },
           progress := some { p with exchange := none } } })) ∧
     (∀ t, s.answers st number = some .testStop → (s.link st).test = some t → t.dir = .inbound →
       exec (.testStopReply st number none) s = exec (.ack st number) s ∧
       exec (.ack st number) s = .next (State.close ((ended fun r => r).replyTestStop st)) ∧
       ∃ u : State, exec (.ack st number) s = .next u ∧ (u.link st).state = .training ∧ (u.link st).outstanding = none ∧
         (u.link st).test = some { t with running := false, failUntil := none, wordExpiry := none }) ∧
     (∀ t v errors, s.answers st number = some .testStop → (s.link st).test = some t → t.dir = .outbound →
       exec (.testStopReply st number (some (v, errors))) s = .next (State.close (State.replyTestStop st (ended fun r =>
         { r with errors := errors, result := if v = .pass then .pass else .fail }))) ∧
       ∃ u : State, exec (.testStopReply st number (some (v, errors))) s = .next u ∧ (u.link st).state = .training ∧
         (u.link st).outstanding = none ∧
         (u.link st).test = some
           { t with running := false, failUntil := none, wordExpiry := none, errors := errors,
                    result := if v = .pass then .pass else .fail })) ∧
  (∀ (s : State) (st : Nat),
     (∀ p, s.line.progress = some p → p.exchange = some (.testStop st) → s.replyTestStop st = { s with line := { s.line with
       reply := some { kind := p.kind, tag := p.tag, result := .ok, body := .linkTest ((s.link st).test.map fun t =>
         { station := st, dir := t.dir, latch := t.latch, result := t.result,
           errors := if t.dir = .outbound ∧ t.result = .pending then none else some t.errors }) },
       progress := some { p with exchange := none } } }) ∧
     ((∀ p, s.line.progress = some p → p.exchange ≠ some (.testStop st)) → s.replyTestStop st = s)) ∧
  (∀ (s : State) (st : Nat) (t : TestRecord), st < s.links.length → (s.link st).test = some t → t.running = true →
     t.dir = .inbound →
     let failed := fun (now : Time) (r : TestRecord) =>
       { r with errors := if r.errors < 65535 then r.errors + 1 else r.errors, result := TestResult.fail,
                failUntil := if r.latch = .live then some (now + ms 100) else none }
     (∀ word,
       let awaited := { t with wordExpiry := some (s.now + ms 100), wordIndex := t.wordIndex + 1 }
       exec (.testWord st word) s = .next (s.onLink st fun l =>
         { l with test := some (if word = Config.testWord t.wordIndex then awaited else failed s.now awaited) })) ∧
     (∀ e, t.wordExpiry = some e → exec (.testWordTimeout st) s = .next ((s.reachTime e).onLink st fun l =>
       { l with test := some (failed (s.reachTime e).now { t with wordExpiry := some (e + ms 100) }) })))

/-! ### The slot directory and what is reserved in it (01_articles_and_the_slot_directory.md) -/

/-- Every step keeps the slot directory in agreement with the article table and the balance figures: a slot that holds an article
holds one of the table, of a size class that fits it (R2, R5, R11), and the two loads of a carrier are the sums of the loads of
its slots (R24 to R26, R30). -/
def Obligations.EveryStepKeepsTheDirectoryWeighed : Prop :=
  ∀ s t : State, s.directoryWeighed → step s = .next t → t.directoryWeighed

/-- Every step keeps the slot directory in agreement with the pick pool and the tasks (R9, R11): the pick-reserved of a slot is
the sum of its open picks and at most its on-hand, its put-away pending is the sum of its OPEN targets, on-hand and pending
together are at most 8 and have an article, a FREE slot has nothing, and a WITHDRAWN or QUARANTINE slot has no reservation. -/
def Obligations.EveryStepKeepsTheReservationsSound : Prop :=
  ∀ s t : State, s.reservationsSound → step s = .next t → t.reservationsSound
end

