-- ==== Sys2Proof/Laws/State.lean ====
section
/-! SUPPORT. What each update of the state leaves as it was: one lemma per field, so that no proof unfolds a record update. -/

namespace Sys2Proof.Machine

/-! `State.setCarousel` -/

@[simp] theorem State.setCarousel_pending (s : State) (k : Nat) (c : Carousel) : (s.setCarousel k c).pending = s.pending := rfl
@[simp] theorem State.setCarousel_now (s : State) (k : Nat) (c : Carousel) : (s.setCarousel k c).now = s.now := rfl
@[simp] theorem State.setCarousel_draws (s : State) (k : Nat) (c : Carousel) : (s.setCarousel k c).draws = s.draws := rfl
@[simp] theorem State.setCarousel_straps (s : State) (k : Nat) (c : Carousel) : (s.setCarousel k c).straps = s.straps := rfl
@[simp] theorem State.setCarousel_mode (s : State) (k : Nat) (c : Carousel) : (s.setCarousel k c).mode = s.mode := rfl
@[simp] theorem State.setCarousel_line (s : State) (k : Nat) (c : Carousel) : (s.setCarousel k c).line = s.line := rfl
@[simp] theorem State.setCarousel_flags (s : State) (k : Nat) (c : Carousel) : (s.setCarousel k c).flags = s.flags := rfl
@[simp] theorem State.setCarousel_settings (s : State) (k : Nat) (c : Carousel) : (s.setCarousel k c).settings = s.settings := rfl
@[simp] theorem State.setCarousel_articles (s : State) (k : Nat) (c : Carousel) : (s.setCarousel k c).articles = s.articles := rfl
@[simp] theorem State.setCarousel_windows (s : State) (k : Nat) (c : Carousel) : (s.setCarousel k c).windows = s.windows := rfl
@[simp] theorem State.setCarousel_tasks (s : State) (k : Nat) (c : Carousel) : (s.setCarousel k c).tasks = s.tasks := rfl
@[simp] theorem State.setCarousel_orders (s : State) (k : Nat) (c : Carousel) : (s.setCarousel k c).orders = s.orders := rfl
@[simp] theorem State.setCarousel_submission (s : State) (k : Nat) (c : Carousel) : (s.setCarousel k c).submission = s.submission := rfl
@[simp] theorem State.setCarousel_admissions (s : State) (k : Nat) (c : Carousel) : (s.setCarousel k c).admissions = s.admissions := rfl
@[simp] theorem State.setCarousel_creations (s : State) (k : Nat) (c : Carousel) : (s.setCarousel k c).creations = s.creations := rfl
@[simp] theorem State.setCarousel_picks (s : State) (k : Nat) (c : Carousel) : (s.setCarousel k c).picks = s.picks := rfl
@[simp] theorem State.setCarousel_lanes (s : State) (k : Nat) (c : Carousel) : (s.setCarousel k c).lanes = s.lanes := rfl
@[simp] theorem State.setCarousel_merge (s : State) (k : Nat) (c : Carousel) : (s.setCarousel k c).merge = s.merge := rfl
@[simp] theorem State.setCarousel_discrepancies (s : State) (k : Nat) (c : Carousel) : (s.setCarousel k c).discrepancies = s.discrepancies := rfl
@[simp] theorem State.setCarousel_links (s : State) (k : Nat) (c : Carousel) : (s.setCarousel k c).links = s.links := rfl
@[simp] theorem State.setCarousel_nextTicket (s : State) (k : Nat) (c : Carousel) : (s.setCarousel k c).nextTicket = s.nextTicket := rfl

/-! `State.onWindow` -/

@[simp] theorem State.onWindow_pending (s : State) (w : Nat) (f : Window → Window) : (s.onWindow w f).pending = s.pending := rfl
@[simp] theorem State.onWindow_now (s : State) (w : Nat) (f : Window → Window) : (s.onWindow w f).now = s.now := rfl
@[simp] theorem State.onWindow_draws (s : State) (w : Nat) (f : Window → Window) : (s.onWindow w f).draws = s.draws := rfl
@[simp] theorem State.onWindow_straps (s : State) (w : Nat) (f : Window → Window) : (s.onWindow w f).straps = s.straps := rfl
@[simp] theorem State.onWindow_mode (s : State) (w : Nat) (f : Window → Window) : (s.onWindow w f).mode = s.mode := rfl
@[simp] theorem State.onWindow_line (s : State) (w : Nat) (f : Window → Window) : (s.onWindow w f).line = s.line := rfl
@[simp] theorem State.onWindow_flags (s : State) (w : Nat) (f : Window → Window) : (s.onWindow w f).flags = s.flags := rfl
@[simp] theorem State.onWindow_settings (s : State) (w : Nat) (f : Window → Window) : (s.onWindow w f).settings = s.settings := rfl
@[simp] theorem State.onWindow_articles (s : State) (w : Nat) (f : Window → Window) : (s.onWindow w f).articles = s.articles := rfl
@[simp] theorem State.onWindow_carousels (s : State) (w : Nat) (f : Window → Window) : (s.onWindow w f).carousels = s.carousels := rfl
@[simp] theorem State.onWindow_tasks (s : State) (w : Nat) (f : Window → Window) : (s.onWindow w f).tasks = s.tasks := rfl
@[simp] theorem State.onWindow_orders (s : State) (w : Nat) (f : Window → Window) : (s.onWindow w f).orders = s.orders := rfl
@[simp] theorem State.onWindow_submission (s : State) (w : Nat) (f : Window → Window) : (s.onWindow w f).submission = s.submission := rfl
@[simp] theorem State.onWindow_admissions (s : State) (w : Nat) (f : Window → Window) : (s.onWindow w f).admissions = s.admissions := rfl
@[simp] theorem State.onWindow_creations (s : State) (w : Nat) (f : Window → Window) : (s.onWindow w f).creations = s.creations := rfl
@[simp] theorem State.onWindow_picks (s : State) (w : Nat) (f : Window → Window) : (s.onWindow w f).picks = s.picks := rfl
@[simp] theorem State.onWindow_lanes (s : State) (w : Nat) (f : Window → Window) : (s.onWindow w f).lanes = s.lanes := rfl
@[simp] theorem State.onWindow_merge (s : State) (w : Nat) (f : Window → Window) : (s.onWindow w f).merge = s.merge := rfl
@[simp] theorem State.onWindow_discrepancies (s : State) (w : Nat) (f : Window → Window) : (s.onWindow w f).discrepancies = s.discrepancies := rfl
@[simp] theorem State.onWindow_links (s : State) (w : Nat) (f : Window → Window) : (s.onWindow w f).links = s.links := rfl
@[simp] theorem State.onWindow_nextTicket (s : State) (w : Nat) (f : Window → Window) : (s.onWindow w f).nextTicket = s.nextTicket := rfl

/-! `State.onLink` -/

@[simp] theorem State.onLink_pending (s : State) (st : Nat) (f : Link → Link) : (s.onLink st f).pending = s.pending := rfl
@[simp] theorem State.onLink_now (s : State) (st : Nat) (f : Link → Link) : (s.onLink st f).now = s.now := rfl
@[simp] theorem State.onLink_draws (s : State) (st : Nat) (f : Link → Link) : (s.onLink st f).draws = s.draws := rfl
@[simp] theorem State.onLink_straps (s : State) (st : Nat) (f : Link → Link) : (s.onLink st f).straps = s.straps := rfl
@[simp] theorem State.onLink_mode (s : State) (st : Nat) (f : Link → Link) : (s.onLink st f).mode = s.mode := rfl
@[simp] theorem State.onLink_line (s : State) (st : Nat) (f : Link → Link) : (s.onLink st f).line = s.line := rfl
@[simp] theorem State.onLink_flags (s : State) (st : Nat) (f : Link → Link) : (s.onLink st f).flags = s.flags := rfl
@[simp] theorem State.onLink_settings (s : State) (st : Nat) (f : Link → Link) : (s.onLink st f).settings = s.settings := rfl
@[simp] theorem State.onLink_articles (s : State) (st : Nat) (f : Link → Link) : (s.onLink st f).articles = s.articles := rfl
@[simp] theorem State.onLink_carousels (s : State) (st : Nat) (f : Link → Link) : (s.onLink st f).carousels = s.carousels := rfl
@[simp] theorem State.onLink_windows (s : State) (st : Nat) (f : Link → Link) : (s.onLink st f).windows = s.windows := rfl
@[simp] theorem State.onLink_tasks (s : State) (st : Nat) (f : Link → Link) : (s.onLink st f).tasks = s.tasks := rfl
@[simp] theorem State.onLink_orders (s : State) (st : Nat) (f : Link → Link) : (s.onLink st f).orders = s.orders := rfl
@[simp] theorem State.onLink_submission (s : State) (st : Nat) (f : Link → Link) : (s.onLink st f).submission = s.submission := rfl
@[simp] theorem State.onLink_admissions (s : State) (st : Nat) (f : Link → Link) : (s.onLink st f).admissions = s.admissions := rfl
@[simp] theorem State.onLink_creations (s : State) (st : Nat) (f : Link → Link) : (s.onLink st f).creations = s.creations := rfl
@[simp] theorem State.onLink_picks (s : State) (st : Nat) (f : Link → Link) : (s.onLink st f).picks = s.picks := rfl
@[simp] theorem State.onLink_lanes (s : State) (st : Nat) (f : Link → Link) : (s.onLink st f).lanes = s.lanes := rfl
@[simp] theorem State.onLink_merge (s : State) (st : Nat) (f : Link → Link) : (s.onLink st f).merge = s.merge := rfl
@[simp] theorem State.onLink_discrepancies (s : State) (st : Nat) (f : Link → Link) : (s.onLink st f).discrepancies = s.discrepancies := rfl
@[simp] theorem State.onLink_nextTicket (s : State) (st : Nat) (f : Link → Link) : (s.onLink st f).nextTicket = s.nextTicket := rfl

/-! `State.onOrder` -/

@[simp] theorem State.onOrder_pending (s : State) (tag : Nat) (f : Order → Order) : (s.onOrder tag f).pending = s.pending := rfl
@[simp] theorem State.onOrder_now (s : State) (tag : Nat) (f : Order → Order) : (s.onOrder tag f).now = s.now := rfl
@[simp] theorem State.onOrder_draws (s : State) (tag : Nat) (f : Order → Order) : (s.onOrder tag f).draws = s.draws := rfl
@[simp] theorem State.onOrder_straps (s : State) (tag : Nat) (f : Order → Order) : (s.onOrder tag f).straps = s.straps := rfl
@[simp] theorem State.onOrder_mode (s : State) (tag : Nat) (f : Order → Order) : (s.onOrder tag f).mode = s.mode := rfl
@[simp] theorem State.onOrder_line (s : State) (tag : Nat) (f : Order → Order) : (s.onOrder tag f).line = s.line := rfl
@[simp] theorem State.onOrder_flags (s : State) (tag : Nat) (f : Order → Order) : (s.onOrder tag f).flags = s.flags := rfl
@[simp] theorem State.onOrder_settings (s : State) (tag : Nat) (f : Order → Order) : (s.onOrder tag f).settings = s.settings := rfl
@[simp] theorem State.onOrder_articles (s : State) (tag : Nat) (f : Order → Order) : (s.onOrder tag f).articles = s.articles := rfl
@[simp] theorem State.onOrder_carousels (s : State) (tag : Nat) (f : Order → Order) : (s.onOrder tag f).carousels = s.carousels := rfl
@[simp] theorem State.onOrder_windows (s : State) (tag : Nat) (f : Order → Order) : (s.onOrder tag f).windows = s.windows := rfl
@[simp] theorem State.onOrder_tasks (s : State) (tag : Nat) (f : Order → Order) : (s.onOrder tag f).tasks = s.tasks := rfl
@[simp] theorem State.onOrder_submission (s : State) (tag : Nat) (f : Order → Order) : (s.onOrder tag f).submission = s.submission := rfl
@[simp] theorem State.onOrder_admissions (s : State) (tag : Nat) (f : Order → Order) : (s.onOrder tag f).admissions = s.admissions := rfl
@[simp] theorem State.onOrder_creations (s : State) (tag : Nat) (f : Order → Order) : (s.onOrder tag f).creations = s.creations := rfl
@[simp] theorem State.onOrder_picks (s : State) (tag : Nat) (f : Order → Order) : (s.onOrder tag f).picks = s.picks := rfl
@[simp] theorem State.onOrder_lanes (s : State) (tag : Nat) (f : Order → Order) : (s.onOrder tag f).lanes = s.lanes := rfl
@[simp] theorem State.onOrder_merge (s : State) (tag : Nat) (f : Order → Order) : (s.onOrder tag f).merge = s.merge := rfl
@[simp] theorem State.onOrder_discrepancies (s : State) (tag : Nat) (f : Order → Order) : (s.onOrder tag f).discrepancies = s.discrepancies := rfl
@[simp] theorem State.onOrder_links (s : State) (tag : Nat) (f : Order → Order) : (s.onOrder tag f).links = s.links := rfl
@[simp] theorem State.onOrder_nextTicket (s : State) (tag : Nat) (f : Order → Order) : (s.onOrder tag f).nextTicket = s.nextTicket := rfl

/-! `State.onPick` -/

@[simp] theorem State.onPick_pending (s : State) (n : Nat) (f : Pick → Pick) : (s.onPick n f).pending = s.pending := rfl
@[simp] theorem State.onPick_now (s : State) (n : Nat) (f : Pick → Pick) : (s.onPick n f).now = s.now := rfl
@[simp] theorem State.onPick_draws (s : State) (n : Nat) (f : Pick → Pick) : (s.onPick n f).draws = s.draws := rfl
@[simp] theorem State.onPick_straps (s : State) (n : Nat) (f : Pick → Pick) : (s.onPick n f).straps = s.straps := rfl
@[simp] theorem State.onPick_mode (s : State) (n : Nat) (f : Pick → Pick) : (s.onPick n f).mode = s.mode := rfl
@[simp] theorem State.onPick_line (s : State) (n : Nat) (f : Pick → Pick) : (s.onPick n f).line = s.line := rfl
@[simp] theorem State.onPick_flags (s : State) (n : Nat) (f : Pick → Pick) : (s.onPick n f).flags = s.flags := rfl
@[simp] theorem State.onPick_settings (s : State) (n : Nat) (f : Pick → Pick) : (s.onPick n f).settings = s.settings := rfl
@[simp] theorem State.onPick_articles (s : State) (n : Nat) (f : Pick → Pick) : (s.onPick n f).articles = s.articles := rfl
@[simp] theorem State.onPick_carousels (s : State) (n : Nat) (f : Pick → Pick) : (s.onPick n f).carousels = s.carousels := rfl
@[simp] theorem State.onPick_windows (s : State) (n : Nat) (f : Pick → Pick) : (s.onPick n f).windows = s.windows := rfl
@[simp] theorem State.onPick_tasks (s : State) (n : Nat) (f : Pick → Pick) : (s.onPick n f).tasks = s.tasks := rfl
@[simp] theorem State.onPick_orders (s : State) (n : Nat) (f : Pick → Pick) : (s.onPick n f).orders = s.orders := rfl
@[simp] theorem State.onPick_submission (s : State) (n : Nat) (f : Pick → Pick) : (s.onPick n f).submission = s.submission := rfl
@[simp] theorem State.onPick_admissions (s : State) (n : Nat) (f : Pick → Pick) : (s.onPick n f).admissions = s.admissions := rfl
@[simp] theorem State.onPick_creations (s : State) (n : Nat) (f : Pick → Pick) : (s.onPick n f).creations = s.creations := rfl
@[simp] theorem State.onPick_lanes (s : State) (n : Nat) (f : Pick → Pick) : (s.onPick n f).lanes = s.lanes := rfl
@[simp] theorem State.onPick_merge (s : State) (n : Nat) (f : Pick → Pick) : (s.onPick n f).merge = s.merge := rfl
@[simp] theorem State.onPick_discrepancies (s : State) (n : Nat) (f : Pick → Pick) : (s.onPick n f).discrepancies = s.discrepancies := rfl
@[simp] theorem State.onPick_links (s : State) (n : Nat) (f : Pick → Pick) : (s.onPick n f).links = s.links := rfl
@[simp] theorem State.onPick_nextTicket (s : State) (n : Nat) (f : Pick → Pick) : (s.onPick n f).nextTicket = s.nextTicket := rfl

/-! `State.onTask` -/

@[simp] theorem State.onTask_pending (s : State) (tag : Nat) (f : Task → Task) : (s.onTask tag f).pending = s.pending := rfl
@[simp] theorem State.onTask_now (s : State) (tag : Nat) (f : Task → Task) : (s.onTask tag f).now = s.now := rfl
@[simp] theorem State.onTask_draws (s : State) (tag : Nat) (f : Task → Task) : (s.onTask tag f).draws = s.draws := rfl
@[simp] theorem State.onTask_straps (s : State) (tag : Nat) (f : Task → Task) : (s.onTask tag f).straps = s.straps := rfl
@[simp] theorem State.onTask_mode (s : State) (tag : Nat) (f : Task → Task) : (s.onTask tag f).mode = s.mode := rfl
@[simp] theorem State.onTask_line (s : State) (tag : Nat) (f : Task → Task) : (s.onTask tag f).line = s.line := rfl
@[simp] theorem State.onTask_flags (s : State) (tag : Nat) (f : Task → Task) : (s.onTask tag f).flags = s.flags := rfl
@[simp] theorem State.onTask_settings (s : State) (tag : Nat) (f : Task → Task) : (s.onTask tag f).settings = s.settings := rfl
@[simp] theorem State.onTask_articles (s : State) (tag : Nat) (f : Task → Task) : (s.onTask tag f).articles = s.articles := rfl
@[simp] theorem State.onTask_carousels (s : State) (tag : Nat) (f : Task → Task) : (s.onTask tag f).carousels = s.carousels := rfl
@[simp] theorem State.onTask_windows (s : State) (tag : Nat) (f : Task → Task) : (s.onTask tag f).windows = s.windows := rfl
@[simp] theorem State.onTask_orders (s : State) (tag : Nat) (f : Task → Task) : (s.onTask tag f).orders = s.orders := rfl
@[simp] theorem State.onTask_submission (s : State) (tag : Nat) (f : Task → Task) : (s.onTask tag f).submission = s.submission := rfl
@[simp] theorem State.onTask_admissions (s : State) (tag : Nat) (f : Task → Task) : (s.onTask tag f).admissions = s.admissions := rfl
@[simp] theorem State.onTask_creations (s : State) (tag : Nat) (f : Task → Task) : (s.onTask tag f).creations = s.creations := rfl
@[simp] theorem State.onTask_picks (s : State) (tag : Nat) (f : Task → Task) : (s.onTask tag f).picks = s.picks := rfl
@[simp] theorem State.onTask_lanes (s : State) (tag : Nat) (f : Task → Task) : (s.onTask tag f).lanes = s.lanes := rfl
@[simp] theorem State.onTask_merge (s : State) (tag : Nat) (f : Task → Task) : (s.onTask tag f).merge = s.merge := rfl
@[simp] theorem State.onTask_discrepancies (s : State) (tag : Nat) (f : Task → Task) : (s.onTask tag f).discrepancies = s.discrepancies := rfl
@[simp] theorem State.onTask_links (s : State) (tag : Nat) (f : Task → Task) : (s.onTask tag f).links = s.links := rfl
@[simp] theorem State.onTask_nextTicket (s : State) (tag : Nat) (f : Task → Task) : (s.onTask tag f).nextTicket = s.nextTicket := rfl

/-! `State.take` -/

@[simp] theorem State.take_pending (s : State) (kind tag : Nat) : (s.take kind tag).pending = s.pending := rfl
@[simp] theorem State.take_now (s : State) (kind tag : Nat) : (s.take kind tag).now = s.now := rfl
@[simp] theorem State.take_draws (s : State) (kind tag : Nat) : (s.take kind tag).draws = s.draws := rfl
@[simp] theorem State.take_straps (s : State) (kind tag : Nat) : (s.take kind tag).straps = s.straps := rfl
@[simp] theorem State.take_mode (s : State) (kind tag : Nat) : (s.take kind tag).mode = s.mode := rfl
@[simp] theorem State.take_flags (s : State) (kind tag : Nat) : (s.take kind tag).flags = s.flags := rfl
@[simp] theorem State.take_settings (s : State) (kind tag : Nat) : (s.take kind tag).settings = s.settings := rfl
@[simp] theorem State.take_articles (s : State) (kind tag : Nat) : (s.take kind tag).articles = s.articles := rfl
@[simp] theorem State.take_carousels (s : State) (kind tag : Nat) : (s.take kind tag).carousels = s.carousels := rfl
@[simp] theorem State.take_windows (s : State) (kind tag : Nat) : (s.take kind tag).windows = s.windows := rfl
@[simp] theorem State.take_tasks (s : State) (kind tag : Nat) : (s.take kind tag).tasks = s.tasks := rfl
@[simp] theorem State.take_orders (s : State) (kind tag : Nat) : (s.take kind tag).orders = s.orders := rfl
@[simp] theorem State.take_submission (s : State) (kind tag : Nat) : (s.take kind tag).submission = s.submission := rfl
@[simp] theorem State.take_admissions (s : State) (kind tag : Nat) : (s.take kind tag).admissions = s.admissions := rfl
@[simp] theorem State.take_creations (s : State) (kind tag : Nat) : (s.take kind tag).creations = s.creations := rfl
@[simp] theorem State.take_picks (s : State) (kind tag : Nat) : (s.take kind tag).picks = s.picks := rfl
@[simp] theorem State.take_lanes (s : State) (kind tag : Nat) : (s.take kind tag).lanes = s.lanes := rfl
@[simp] theorem State.take_merge (s : State) (kind tag : Nat) : (s.take kind tag).merge = s.merge := rfl
@[simp] theorem State.take_discrepancies (s : State) (kind tag : Nat) : (s.take kind tag).discrepancies = s.discrepancies := rfl
@[simp] theorem State.take_links (s : State) (kind tag : Nat) : (s.take kind tag).links = s.links := rfl
@[simp] theorem State.take_nextTicket (s : State) (kind tag : Nat) : (s.take kind tag).nextTicket = s.nextTicket := rfl

/-! `State.setLaneState` -/

@[simp] theorem State.setLaneState_pending (s : State) (n : Nat) (st : LaneState) : (s.setLaneState n st).pending = s.pending := rfl
@[simp] theorem State.setLaneState_now (s : State) (n : Nat) (st : LaneState) : (s.setLaneState n st).now = s.now := rfl
@[simp] theorem State.setLaneState_draws (s : State) (n : Nat) (st : LaneState) : (s.setLaneState n st).draws = s.draws := rfl
@[simp] theorem State.setLaneState_straps (s : State) (n : Nat) (st : LaneState) : (s.setLaneState n st).straps = s.straps := rfl
@[simp] theorem State.setLaneState_mode (s : State) (n : Nat) (st : LaneState) : (s.setLaneState n st).mode = s.mode := rfl
@[simp] theorem State.setLaneState_line (s : State) (n : Nat) (st : LaneState) : (s.setLaneState n st).line = s.line := rfl
@[simp] theorem State.setLaneState_flags (s : State) (n : Nat) (st : LaneState) : (s.setLaneState n st).flags = s.flags := rfl
@[simp] theorem State.setLaneState_settings (s : State) (n : Nat) (st : LaneState) : (s.setLaneState n st).settings = s.settings := rfl
@[simp] theorem State.setLaneState_articles (s : State) (n : Nat) (st : LaneState) : (s.setLaneState n st).articles = s.articles := rfl
@[simp] theorem State.setLaneState_carousels (s : State) (n : Nat) (st : LaneState) : (s.setLaneState n st).carousels = s.carousels := rfl
@[simp] theorem State.setLaneState_windows (s : State) (n : Nat) (st : LaneState) : (s.setLaneState n st).windows = s.windows := rfl
@[simp] theorem State.setLaneState_tasks (s : State) (n : Nat) (st : LaneState) : (s.setLaneState n st).tasks = s.tasks := rfl
@[simp] theorem State.setLaneState_orders (s : State) (n : Nat) (st : LaneState) : (s.setLaneState n st).orders = s.orders := rfl
@[simp] theorem State.setLaneState_submission (s : State) (n : Nat) (st : LaneState) : (s.setLaneState n st).submission = s.submission := rfl
@[simp] theorem State.setLaneState_admissions (s : State) (n : Nat) (st : LaneState) : (s.setLaneState n st).admissions = s.admissions := rfl
@[simp] theorem State.setLaneState_creations (s : State) (n : Nat) (st : LaneState) : (s.setLaneState n st).creations = s.creations := rfl
@[simp] theorem State.setLaneState_picks (s : State) (n : Nat) (st : LaneState) : (s.setLaneState n st).picks = s.picks := rfl
@[simp] theorem State.setLaneState_merge (s : State) (n : Nat) (st : LaneState) : (s.setLaneState n st).merge = s.merge := rfl
@[simp] theorem State.setLaneState_discrepancies (s : State) (n : Nat) (st : LaneState) : (s.setLaneState n st).discrepancies = s.discrepancies := rfl
@[simp] theorem State.setLaneState_links (s : State) (n : Nat) (st : LaneState) : (s.setLaneState n st).links = s.links := rfl
@[simp] theorem State.setLaneState_nextTicket (s : State) (n : Nat) (st : LaneState) : (s.setLaneState n st).nextTicket = s.nextTicket := rfl

/-! `State.removeDiscrepancy` -/

@[simp] theorem State.removeDiscrepancy_pending (s : State) (a : SlotAddr) : (s.removeDiscrepancy a).pending = s.pending := rfl
@[simp] theorem State.removeDiscrepancy_now (s : State) (a : SlotAddr) : (s.removeDiscrepancy a).now = s.now := rfl
@[simp] theorem State.removeDiscrepancy_draws (s : State) (a : SlotAddr) : (s.removeDiscrepancy a).draws = s.draws := rfl
@[simp] theorem State.removeDiscrepancy_straps (s : State) (a : SlotAddr) : (s.removeDiscrepancy a).straps = s.straps := rfl
@[simp] theorem State.removeDiscrepancy_mode (s : State) (a : SlotAddr) : (s.removeDiscrepancy a).mode = s.mode := rfl
@[simp] theorem State.removeDiscrepancy_line (s : State) (a : SlotAddr) : (s.removeDiscrepancy a).line = s.line := rfl
@[simp] theorem State.removeDiscrepancy_flags (s : State) (a : SlotAddr) : (s.removeDiscrepancy a).flags = s.flags := rfl
@[simp] theorem State.removeDiscrepancy_settings (s : State) (a : SlotAddr) : (s.removeDiscrepancy a).settings = s.settings := rfl
@[simp] theorem State.removeDiscrepancy_articles (s : State) (a : SlotAddr) : (s.removeDiscrepancy a).articles = s.articles := rfl
@[simp] theorem State.removeDiscrepancy_carousels (s : State) (a : SlotAddr) : (s.removeDiscrepancy a).carousels = s.carousels := rfl
@[simp] theorem State.removeDiscrepancy_windows (s : State) (a : SlotAddr) : (s.removeDiscrepancy a).windows = s.windows := rfl
@[simp] theorem State.removeDiscrepancy_tasks (s : State) (a : SlotAddr) : (s.removeDiscrepancy a).tasks = s.tasks := rfl
@[simp] theorem State.removeDiscrepancy_orders (s : State) (a : SlotAddr) : (s.removeDiscrepancy a).orders = s.orders := rfl
@[simp] theorem State.removeDiscrepancy_submission (s : State) (a : SlotAddr) : (s.removeDiscrepancy a).submission = s.submission := rfl
@[simp] theorem State.removeDiscrepancy_admissions (s : State) (a : SlotAddr) : (s.removeDiscrepancy a).admissions = s.admissions := rfl
@[simp] theorem State.removeDiscrepancy_creations (s : State) (a : SlotAddr) : (s.removeDiscrepancy a).creations = s.creations := rfl
@[simp] theorem State.removeDiscrepancy_picks (s : State) (a : SlotAddr) : (s.removeDiscrepancy a).picks = s.picks := rfl
@[simp] theorem State.removeDiscrepancy_lanes (s : State) (a : SlotAddr) : (s.removeDiscrepancy a).lanes = s.lanes := rfl
@[simp] theorem State.removeDiscrepancy_merge (s : State) (a : SlotAddr) : (s.removeDiscrepancy a).merge = s.merge := rfl
@[simp] theorem State.removeDiscrepancy_links (s : State) (a : SlotAddr) : (s.removeDiscrepancy a).links = s.links := rfl
@[simp] theorem State.removeDiscrepancy_nextTicket (s : State) (a : SlotAddr) : (s.removeDiscrepancy a).nextTicket = s.nextTicket := rfl

/-! `State.setDiscrepancyFull` -/

@[simp] theorem State.setDiscrepancyFull_pending (s : State) : (s.setDiscrepancyFull).pending = s.pending := rfl
@[simp] theorem State.setDiscrepancyFull_now (s : State) : (s.setDiscrepancyFull).now = s.now := rfl
@[simp] theorem State.setDiscrepancyFull_draws (s : State) : (s.setDiscrepancyFull).draws = s.draws := rfl
@[simp] theorem State.setDiscrepancyFull_straps (s : State) : (s.setDiscrepancyFull).straps = s.straps := rfl
@[simp] theorem State.setDiscrepancyFull_mode (s : State) : (s.setDiscrepancyFull).mode = s.mode := rfl
@[simp] theorem State.setDiscrepancyFull_line (s : State) : (s.setDiscrepancyFull).line = s.line := rfl
@[simp] theorem State.setDiscrepancyFull_settings (s : State) : (s.setDiscrepancyFull).settings = s.settings := rfl
@[simp] theorem State.setDiscrepancyFull_articles (s : State) : (s.setDiscrepancyFull).articles = s.articles := rfl
@[simp] theorem State.setDiscrepancyFull_carousels (s : State) : (s.setDiscrepancyFull).carousels = s.carousels := rfl
@[simp] theorem State.setDiscrepancyFull_windows (s : State) : (s.setDiscrepancyFull).windows = s.windows := rfl
@[simp] theorem State.setDiscrepancyFull_tasks (s : State) : (s.setDiscrepancyFull).tasks = s.tasks := rfl
@[simp] theorem State.setDiscrepancyFull_orders (s : State) : (s.setDiscrepancyFull).orders = s.orders := rfl
@[simp] theorem State.setDiscrepancyFull_submission (s : State) : (s.setDiscrepancyFull).submission = s.submission := rfl
@[simp] theorem State.setDiscrepancyFull_admissions (s : State) : (s.setDiscrepancyFull).admissions = s.admissions := rfl
@[simp] theorem State.setDiscrepancyFull_creations (s : State) : (s.setDiscrepancyFull).creations = s.creations := rfl
@[simp] theorem State.setDiscrepancyFull_picks (s : State) : (s.setDiscrepancyFull).picks = s.picks := rfl
@[simp] theorem State.setDiscrepancyFull_lanes (s : State) : (s.setDiscrepancyFull).lanes = s.lanes := rfl
@[simp] theorem State.setDiscrepancyFull_merge (s : State) : (s.setDiscrepancyFull).merge = s.merge := rfl
@[simp] theorem State.setDiscrepancyFull_discrepancies (s : State) : (s.setDiscrepancyFull).discrepancies = s.discrepancies := rfl
@[simp] theorem State.setDiscrepancyFull_links (s : State) : (s.setDiscrepancyFull).links = s.links := rfl
@[simp] theorem State.setDiscrepancyFull_nextTicket (s : State) : (s.setDiscrepancyFull).nextTicket = s.nextTicket := rfl

/-! `State.atTime` -/

@[simp] theorem State.atTime_pending (s : State) (now : Time) : (s.atTime now).pending = s.pending := rfl
@[simp] theorem State.atTime_draws (s : State) (now : Time) : (s.atTime now).draws = s.draws := rfl
@[simp] theorem State.atTime_straps (s : State) (now : Time) : (s.atTime now).straps = s.straps := rfl
@[simp] theorem State.atTime_mode (s : State) (now : Time) : (s.atTime now).mode = s.mode := rfl
@[simp] theorem State.atTime_line (s : State) (now : Time) : (s.atTime now).line = s.line := rfl
@[simp] theorem State.atTime_flags (s : State) (now : Time) : (s.atTime now).flags = s.flags := rfl
@[simp] theorem State.atTime_settings (s : State) (now : Time) : (s.atTime now).settings = s.settings := rfl
@[simp] theorem State.atTime_articles (s : State) (now : Time) : (s.atTime now).articles = s.articles := rfl
@[simp] theorem State.atTime_carousels (s : State) (now : Time) : (s.atTime now).carousels = s.carousels := rfl
@[simp] theorem State.atTime_windows (s : State) (now : Time) : (s.atTime now).windows = s.windows := rfl
@[simp] theorem State.atTime_tasks (s : State) (now : Time) : (s.atTime now).tasks = s.tasks := rfl
@[simp] theorem State.atTime_orders (s : State) (now : Time) : (s.atTime now).orders = s.orders := rfl
@[simp] theorem State.atTime_submission (s : State) (now : Time) : (s.atTime now).submission = s.submission := rfl
@[simp] theorem State.atTime_admissions (s : State) (now : Time) : (s.atTime now).admissions = s.admissions := rfl
@[simp] theorem State.atTime_creations (s : State) (now : Time) : (s.atTime now).creations = s.creations := rfl
@[simp] theorem State.atTime_picks (s : State) (now : Time) : (s.atTime now).picks = s.picks := rfl
@[simp] theorem State.atTime_lanes (s : State) (now : Time) : (s.atTime now).lanes = s.lanes := rfl
@[simp] theorem State.atTime_merge (s : State) (now : Time) : (s.atTime now).merge = s.merge := rfl
@[simp] theorem State.atTime_discrepancies (s : State) (now : Time) : (s.atTime now).discrepancies = s.discrepancies := rfl
@[simp] theorem State.atTime_nextTicket (s : State) (now : Time) : (s.atTime now).nextTicket = s.nextTicket := rfl

/-! `State.transmit` -/

@[simp] theorem State.transmit_pending (s : State) : (s.transmit).pending = s.pending := rfl
@[simp] theorem State.transmit_now (s : State) : (s.transmit).now = s.now := rfl
@[simp] theorem State.transmit_draws (s : State) : (s.transmit).draws = s.draws := rfl
@[simp] theorem State.transmit_straps (s : State) : (s.transmit).straps = s.straps := rfl
@[simp] theorem State.transmit_mode (s : State) : (s.transmit).mode = s.mode := rfl
@[simp] theorem State.transmit_flags (s : State) : (s.transmit).flags = s.flags := rfl
@[simp] theorem State.transmit_settings (s : State) : (s.transmit).settings = s.settings := rfl
@[simp] theorem State.transmit_articles (s : State) : (s.transmit).articles = s.articles := rfl
@[simp] theorem State.transmit_carousels (s : State) : (s.transmit).carousels = s.carousels := rfl
@[simp] theorem State.transmit_windows (s : State) : (s.transmit).windows = s.windows := rfl
@[simp] theorem State.transmit_tasks (s : State) : (s.transmit).tasks = s.tasks := rfl
@[simp] theorem State.transmit_orders (s : State) : (s.transmit).orders = s.orders := rfl
@[simp] theorem State.transmit_submission (s : State) : (s.transmit).submission = s.submission := rfl
@[simp] theorem State.transmit_admissions (s : State) : (s.transmit).admissions = s.admissions := rfl
@[simp] theorem State.transmit_creations (s : State) : (s.transmit).creations = s.creations := rfl
@[simp] theorem State.transmit_picks (s : State) : (s.transmit).picks = s.picks := rfl
@[simp] theorem State.transmit_lanes (s : State) : (s.transmit).lanes = s.lanes := rfl
@[simp] theorem State.transmit_merge (s : State) : (s.transmit).merge = s.merge := rfl
@[simp] theorem State.transmit_discrepancies (s : State) : (s.transmit).discrepancies = s.discrepancies := rfl
@[simp] theorem State.transmit_links (s : State) : (s.transmit).links = s.links := rfl
@[simp] theorem State.transmit_nextTicket (s : State) : (s.transmit).nextTicket = s.nextTicket := rfl

/-! `State.handOver` -/

@[simp] theorem State.handOver_pending (s : State) (st : Nat) (c : Command) : (s.handOver st c).pending = s.pending := rfl
@[simp] theorem State.handOver_now (s : State) (st : Nat) (c : Command) : (s.handOver st c).now = s.now := rfl
@[simp] theorem State.handOver_draws (s : State) (st : Nat) (c : Command) : (s.handOver st c).draws = s.draws := rfl
@[simp] theorem State.handOver_straps (s : State) (st : Nat) (c : Command) : (s.handOver st c).straps = s.straps := rfl
@[simp] theorem State.handOver_mode (s : State) (st : Nat) (c : Command) : (s.handOver st c).mode = s.mode := rfl
@[simp] theorem State.handOver_line (s : State) (st : Nat) (c : Command) : (s.handOver st c).line = s.line := rfl
@[simp] theorem State.handOver_flags (s : State) (st : Nat) (c : Command) : (s.handOver st c).flags = s.flags := rfl
@[simp] theorem State.handOver_settings (s : State) (st : Nat) (c : Command) : (s.handOver st c).settings = s.settings := rfl
@[simp] theorem State.handOver_articles (s : State) (st : Nat) (c : Command) : (s.handOver st c).articles = s.articles := rfl
@[simp] theorem State.handOver_carousels (s : State) (st : Nat) (c : Command) : (s.handOver st c).carousels = s.carousels := rfl
@[simp] theorem State.handOver_windows (s : State) (st : Nat) (c : Command) : (s.handOver st c).windows = s.windows := rfl
@[simp] theorem State.handOver_tasks (s : State) (st : Nat) (c : Command) : (s.handOver st c).tasks = s.tasks := rfl
@[simp] theorem State.handOver_orders (s : State) (st : Nat) (c : Command) : (s.handOver st c).orders = s.orders := rfl
@[simp] theorem State.handOver_submission (s : State) (st : Nat) (c : Command) : (s.handOver st c).submission = s.submission := rfl
@[simp] theorem State.handOver_admissions (s : State) (st : Nat) (c : Command) : (s.handOver st c).admissions = s.admissions := rfl
@[simp] theorem State.handOver_creations (s : State) (st : Nat) (c : Command) : (s.handOver st c).creations = s.creations := rfl
@[simp] theorem State.handOver_picks (s : State) (st : Nat) (c : Command) : (s.handOver st c).picks = s.picks := rfl
@[simp] theorem State.handOver_lanes (s : State) (st : Nat) (c : Command) : (s.handOver st c).lanes = s.lanes := rfl
@[simp] theorem State.handOver_merge (s : State) (st : Nat) (c : Command) : (s.handOver st c).merge = s.merge := rfl
@[simp] theorem State.handOver_discrepancies (s : State) (st : Nat) (c : Command) : (s.handOver st c).discrepancies = s.discrepancies := rfl
@[simp] theorem State.handOver_nextTicket (s : State) (st : Nat) (c : Command) : (s.handOver st c).nextTicket = s.nextTicket := rfl

/-! `State.onMeasurement` -/

@[simp] theorem State.onMeasurement_pending (s : State) (w : Nat) (f : Measurement → Measurement) : (s.onMeasurement w f).pending = s.pending := rfl
@[simp] theorem State.onMeasurement_now (s : State) (w : Nat) (f : Measurement → Measurement) : (s.onMeasurement w f).now = s.now := rfl
@[simp] theorem State.onMeasurement_draws (s : State) (w : Nat) (f : Measurement → Measurement) : (s.onMeasurement w f).draws = s.draws := rfl
@[simp] theorem State.onMeasurement_straps (s : State) (w : Nat) (f : Measurement → Measurement) : (s.onMeasurement w f).straps = s.straps := rfl
@[simp] theorem State.onMeasurement_mode (s : State) (w : Nat) (f : Measurement → Measurement) : (s.onMeasurement w f).mode = s.mode := rfl
@[simp] theorem State.onMeasurement_line (s : State) (w : Nat) (f : Measurement → Measurement) : (s.onMeasurement w f).line = s.line := rfl
@[simp] theorem State.onMeasurement_flags (s : State) (w : Nat) (f : Measurement → Measurement) : (s.onMeasurement w f).flags = s.flags := rfl
@[simp] theorem State.onMeasurement_settings (s : State) (w : Nat) (f : Measurement → Measurement) : (s.onMeasurement w f).settings = s.settings := rfl
@[simp] theorem State.onMeasurement_articles (s : State) (w : Nat) (f : Measurement → Measurement) : (s.onMeasurement w f).articles = s.articles := rfl
@[simp] theorem State.onMeasurement_carousels (s : State) (w : Nat) (f : Measurement → Measurement) : (s.onMeasurement w f).carousels = s.carousels := rfl
@[simp] theorem State.onMeasurement_tasks (s : State) (w : Nat) (f : Measurement → Measurement) : (s.onMeasurement w f).tasks = s.tasks := rfl
@[simp] theorem State.onMeasurement_orders (s : State) (w : Nat) (f : Measurement → Measurement) : (s.onMeasurement w f).orders = s.orders := rfl
@[simp] theorem State.onMeasurement_submission (s : State) (w : Nat) (f : Measurement → Measurement) : (s.onMeasurement w f).submission = s.submission := rfl
@[simp] theorem State.onMeasurement_admissions (s : State) (w : Nat) (f : Measurement → Measurement) : (s.onMeasurement w f).admissions = s.admissions := rfl
@[simp] theorem State.onMeasurement_creations (s : State) (w : Nat) (f : Measurement → Measurement) : (s.onMeasurement w f).creations = s.creations := rfl
@[simp] theorem State.onMeasurement_picks (s : State) (w : Nat) (f : Measurement → Measurement) : (s.onMeasurement w f).picks = s.picks := rfl
@[simp] theorem State.onMeasurement_lanes (s : State) (w : Nat) (f : Measurement → Measurement) : (s.onMeasurement w f).lanes = s.lanes := rfl
@[simp] theorem State.onMeasurement_merge (s : State) (w : Nat) (f : Measurement → Measurement) : (s.onMeasurement w f).merge = s.merge := rfl
@[simp] theorem State.onMeasurement_discrepancies (s : State) (w : Nat) (f : Measurement → Measurement) : (s.onMeasurement w f).discrepancies = s.discrepancies := rfl
@[simp] theorem State.onMeasurement_links (s : State) (w : Nat) (f : Measurement → Measurement) : (s.onMeasurement w f).links = s.links := rfl
@[simp] theorem State.onMeasurement_nextTicket (s : State) (w : Nat) (f : Measurement → Measurement) : (s.onMeasurement w f).nextTicket = s.nextTicket := rfl

/-! `State.dropPresentation` -/

@[simp] theorem State.dropPresentation_pending (s : State) (w : Nat) : (s.dropPresentation w).pending = s.pending := rfl
@[simp] theorem State.dropPresentation_now (s : State) (w : Nat) : (s.dropPresentation w).now = s.now := rfl
@[simp] theorem State.dropPresentation_draws (s : State) (w : Nat) : (s.dropPresentation w).draws = s.draws := rfl
@[simp] theorem State.dropPresentation_straps (s : State) (w : Nat) : (s.dropPresentation w).straps = s.straps := rfl
@[simp] theorem State.dropPresentation_mode (s : State) (w : Nat) : (s.dropPresentation w).mode = s.mode := rfl
@[simp] theorem State.dropPresentation_line (s : State) (w : Nat) : (s.dropPresentation w).line = s.line := rfl
@[simp] theorem State.dropPresentation_flags (s : State) (w : Nat) : (s.dropPresentation w).flags = s.flags := rfl
@[simp] theorem State.dropPresentation_settings (s : State) (w : Nat) : (s.dropPresentation w).settings = s.settings := rfl
@[simp] theorem State.dropPresentation_articles (s : State) (w : Nat) : (s.dropPresentation w).articles = s.articles := rfl
@[simp] theorem State.dropPresentation_carousels (s : State) (w : Nat) : (s.dropPresentation w).carousels = s.carousels := rfl
@[simp] theorem State.dropPresentation_tasks (s : State) (w : Nat) : (s.dropPresentation w).tasks = s.tasks := rfl
@[simp] theorem State.dropPresentation_orders (s : State) (w : Nat) : (s.dropPresentation w).orders = s.orders := rfl
@[simp] theorem State.dropPresentation_submission (s : State) (w : Nat) : (s.dropPresentation w).submission = s.submission := rfl
@[simp] theorem State.dropPresentation_admissions (s : State) (w : Nat) : (s.dropPresentation w).admissions = s.admissions := rfl
@[simp] theorem State.dropPresentation_creations (s : State) (w : Nat) : (s.dropPresentation w).creations = s.creations := rfl
@[simp] theorem State.dropPresentation_picks (s : State) (w : Nat) : (s.dropPresentation w).picks = s.picks := rfl
@[simp] theorem State.dropPresentation_lanes (s : State) (w : Nat) : (s.dropPresentation w).lanes = s.lanes := rfl
@[simp] theorem State.dropPresentation_merge (s : State) (w : Nat) : (s.dropPresentation w).merge = s.merge := rfl
@[simp] theorem State.dropPresentation_discrepancies (s : State) (w : Nat) : (s.dropPresentation w).discrepancies = s.discrepancies := rfl
@[simp] theorem State.dropPresentation_links (s : State) (w : Nat) : (s.dropPresentation w).links = s.links := rfl
@[simp] theorem State.dropPresentation_nextTicket (s : State) (w : Nat) : (s.dropPresentation w).nextTicket = s.nextTicket := rfl

/-! `State.dropMeasurement` -/

@[simp] theorem State.dropMeasurement_pending (s : State) (w : Nat) : (s.dropMeasurement w).pending = s.pending := rfl
@[simp] theorem State.dropMeasurement_now (s : State) (w : Nat) : (s.dropMeasurement w).now = s.now := rfl
@[simp] theorem State.dropMeasurement_draws (s : State) (w : Nat) : (s.dropMeasurement w).draws = s.draws := rfl
@[simp] theorem State.dropMeasurement_straps (s : State) (w : Nat) : (s.dropMeasurement w).straps = s.straps := rfl
@[simp] theorem State.dropMeasurement_mode (s : State) (w : Nat) : (s.dropMeasurement w).mode = s.mode := rfl
@[simp] theorem State.dropMeasurement_line (s : State) (w : Nat) : (s.dropMeasurement w).line = s.line := rfl
@[simp] theorem State.dropMeasurement_flags (s : State) (w : Nat) : (s.dropMeasurement w).flags = s.flags := rfl
@[simp] theorem State.dropMeasurement_settings (s : State) (w : Nat) : (s.dropMeasurement w).settings = s.settings := rfl
@[simp] theorem State.dropMeasurement_articles (s : State) (w : Nat) : (s.dropMeasurement w).articles = s.articles := rfl
@[simp] theorem State.dropMeasurement_carousels (s : State) (w : Nat) : (s.dropMeasurement w).carousels = s.carousels := rfl
@[simp] theorem State.dropMeasurement_tasks (s : State) (w : Nat) : (s.dropMeasurement w).tasks = s.tasks := rfl
@[simp] theorem State.dropMeasurement_orders (s : State) (w : Nat) : (s.dropMeasurement w).orders = s.orders := rfl
@[simp] theorem State.dropMeasurement_submission (s : State) (w : Nat) : (s.dropMeasurement w).submission = s.submission := rfl
@[simp] theorem State.dropMeasurement_admissions (s : State) (w : Nat) : (s.dropMeasurement w).admissions = s.admissions := rfl
@[simp] theorem State.dropMeasurement_creations (s : State) (w : Nat) : (s.dropMeasurement w).creations = s.creations := rfl
@[simp] theorem State.dropMeasurement_picks (s : State) (w : Nat) : (s.dropMeasurement w).picks = s.picks := rfl
@[simp] theorem State.dropMeasurement_lanes (s : State) (w : Nat) : (s.dropMeasurement w).lanes = s.lanes := rfl
@[simp] theorem State.dropMeasurement_merge (s : State) (w : Nat) : (s.dropMeasurement w).merge = s.merge := rfl
@[simp] theorem State.dropMeasurement_discrepancies (s : State) (w : Nat) : (s.dropMeasurement w).discrepancies = s.discrepancies := rfl
@[simp] theorem State.dropMeasurement_links (s : State) (w : Nat) : (s.dropMeasurement w).links = s.links := rfl
@[simp] theorem State.dropMeasurement_nextTicket (s : State) (w : Nat) : (s.dropMeasurement w).nextTicket = s.nextTicket := rfl

/-! `State.changeRanks` -/

@[simp] theorem State.changeRanks_pending (s : State) (w : Nat) : (s.changeRanks w).pending = s.pending := rfl
@[simp] theorem State.changeRanks_now (s : State) (w : Nat) : (s.changeRanks w).now = s.now := rfl
@[simp] theorem State.changeRanks_draws (s : State) (w : Nat) : (s.changeRanks w).draws = s.draws := rfl
@[simp] theorem State.changeRanks_straps (s : State) (w : Nat) : (s.changeRanks w).straps = s.straps := rfl
@[simp] theorem State.changeRanks_mode (s : State) (w : Nat) : (s.changeRanks w).mode = s.mode := rfl
@[simp] theorem State.changeRanks_line (s : State) (w : Nat) : (s.changeRanks w).line = s.line := rfl
@[simp] theorem State.changeRanks_flags (s : State) (w : Nat) : (s.changeRanks w).flags = s.flags := rfl
@[simp] theorem State.changeRanks_settings (s : State) (w : Nat) : (s.changeRanks w).settings = s.settings := rfl
@[simp] theorem State.changeRanks_articles (s : State) (w : Nat) : (s.changeRanks w).articles = s.articles := rfl
@[simp] theorem State.changeRanks_carousels (s : State) (w : Nat) : (s.changeRanks w).carousels = s.carousels := rfl
@[simp] theorem State.changeRanks_tasks (s : State) (w : Nat) : (s.changeRanks w).tasks = s.tasks := rfl
@[simp] theorem State.changeRanks_orders (s : State) (w : Nat) : (s.changeRanks w).orders = s.orders := rfl
@[simp] theorem State.changeRanks_submission (s : State) (w : Nat) : (s.changeRanks w).submission = s.submission := rfl
@[simp] theorem State.changeRanks_admissions (s : State) (w : Nat) : (s.changeRanks w).admissions = s.admissions := rfl
@[simp] theorem State.changeRanks_creations (s : State) (w : Nat) : (s.changeRanks w).creations = s.creations := rfl
@[simp] theorem State.changeRanks_picks (s : State) (w : Nat) : (s.changeRanks w).picks = s.picks := rfl
@[simp] theorem State.changeRanks_lanes (s : State) (w : Nat) : (s.changeRanks w).lanes = s.lanes := rfl
@[simp] theorem State.changeRanks_merge (s : State) (w : Nat) : (s.changeRanks w).merge = s.merge := rfl
@[simp] theorem State.changeRanks_discrepancies (s : State) (w : Nat) : (s.changeRanks w).discrepancies = s.discrepancies := rfl
@[simp] theorem State.changeRanks_links (s : State) (w : Nat) : (s.changeRanks w).links = s.links := rfl
@[simp] theorem State.changeRanks_nextTicket (s : State) (w : Nat) : (s.changeRanks w).nextTicket = s.nextTicket := rfl

/-! `State.takeReply` -/

@[simp] theorem State.takeReply_pending (s : State) (st : Nat) : (s.takeReply st).pending = s.pending := rfl
@[simp] theorem State.takeReply_now (s : State) (st : Nat) : (s.takeReply st).now = s.now := rfl
@[simp] theorem State.takeReply_draws (s : State) (st : Nat) : (s.takeReply st).draws = s.draws := rfl
@[simp] theorem State.takeReply_straps (s : State) (st : Nat) : (s.takeReply st).straps = s.straps := rfl
@[simp] theorem State.takeReply_mode (s : State) (st : Nat) : (s.takeReply st).mode = s.mode := rfl
@[simp] theorem State.takeReply_line (s : State) (st : Nat) : (s.takeReply st).line = s.line := rfl
@[simp] theorem State.takeReply_flags (s : State) (st : Nat) : (s.takeReply st).flags = s.flags := rfl
@[simp] theorem State.takeReply_settings (s : State) (st : Nat) : (s.takeReply st).settings = s.settings := rfl
@[simp] theorem State.takeReply_articles (s : State) (st : Nat) : (s.takeReply st).articles = s.articles := rfl
@[simp] theorem State.takeReply_carousels (s : State) (st : Nat) : (s.takeReply st).carousels = s.carousels := rfl
@[simp] theorem State.takeReply_windows (s : State) (st : Nat) : (s.takeReply st).windows = s.windows := rfl
@[simp] theorem State.takeReply_tasks (s : State) (st : Nat) : (s.takeReply st).tasks = s.tasks := rfl
@[simp] theorem State.takeReply_orders (s : State) (st : Nat) : (s.takeReply st).orders = s.orders := rfl
@[simp] theorem State.takeReply_submission (s : State) (st : Nat) : (s.takeReply st).submission = s.submission := rfl
@[simp] theorem State.takeReply_admissions (s : State) (st : Nat) : (s.takeReply st).admissions = s.admissions := rfl
@[simp] theorem State.takeReply_creations (s : State) (st : Nat) : (s.takeReply st).creations = s.creations := rfl
@[simp] theorem State.takeReply_picks (s : State) (st : Nat) : (s.takeReply st).picks = s.picks := rfl
@[simp] theorem State.takeReply_lanes (s : State) (st : Nat) : (s.takeReply st).lanes = s.lanes := rfl
@[simp] theorem State.takeReply_merge (s : State) (st : Nat) : (s.takeReply st).merge = s.merge := rfl
@[simp] theorem State.takeReply_discrepancies (s : State) (st : Nat) : (s.takeReply st).discrepancies = s.discrepancies := rfl
@[simp] theorem State.takeReply_nextTicket (s : State) (st : Nat) : (s.takeReply st).nextTicket = s.nextTicket := rfl

/-! `State.onTest` -/

@[simp] theorem State.onTest_pending (s : State) (st : Nat) (f : TestRecord → TestRecord) : (s.onTest st f).pending = s.pending := rfl
@[simp] theorem State.onTest_now (s : State) (st : Nat) (f : TestRecord → TestRecord) : (s.onTest st f).now = s.now := rfl
@[simp] theorem State.onTest_draws (s : State) (st : Nat) (f : TestRecord → TestRecord) : (s.onTest st f).draws = s.draws := rfl
@[simp] theorem State.onTest_straps (s : State) (st : Nat) (f : TestRecord → TestRecord) : (s.onTest st f).straps = s.straps := rfl
@[simp] theorem State.onTest_mode (s : State) (st : Nat) (f : TestRecord → TestRecord) : (s.onTest st f).mode = s.mode := rfl
@[simp] theorem State.onTest_line (s : State) (st : Nat) (f : TestRecord → TestRecord) : (s.onTest st f).line = s.line := rfl
@[simp] theorem State.onTest_flags (s : State) (st : Nat) (f : TestRecord → TestRecord) : (s.onTest st f).flags = s.flags := rfl
@[simp] theorem State.onTest_settings (s : State) (st : Nat) (f : TestRecord → TestRecord) : (s.onTest st f).settings = s.settings := rfl
@[simp] theorem State.onTest_articles (s : State) (st : Nat) (f : TestRecord → TestRecord) : (s.onTest st f).articles = s.articles := rfl
@[simp] theorem State.onTest_carousels (s : State) (st : Nat) (f : TestRecord → TestRecord) : (s.onTest st f).carousels = s.carousels := rfl
@[simp] theorem State.onTest_windows (s : State) (st : Nat) (f : TestRecord → TestRecord) : (s.onTest st f).windows = s.windows := rfl
@[simp] theorem State.onTest_tasks (s : State) (st : Nat) (f : TestRecord → TestRecord) : (s.onTest st f).tasks = s.tasks := rfl
@[simp] theorem State.onTest_orders (s : State) (st : Nat) (f : TestRecord → TestRecord) : (s.onTest st f).orders = s.orders := rfl
@[simp] theorem State.onTest_submission (s : State) (st : Nat) (f : TestRecord → TestRecord) : (s.onTest st f).submission = s.submission := rfl
@[simp] theorem State.onTest_admissions (s : State) (st : Nat) (f : TestRecord → TestRecord) : (s.onTest st f).admissions = s.admissions := rfl
@[simp] theorem State.onTest_creations (s : State) (st : Nat) (f : TestRecord → TestRecord) : (s.onTest st f).creations = s.creations := rfl
@[simp] theorem State.onTest_picks (s : State) (st : Nat) (f : TestRecord → TestRecord) : (s.onTest st f).picks = s.picks := rfl
@[simp] theorem State.onTest_lanes (s : State) (st : Nat) (f : TestRecord → TestRecord) : (s.onTest st f).lanes = s.lanes := rfl
@[simp] theorem State.onTest_merge (s : State) (st : Nat) (f : TestRecord → TestRecord) : (s.onTest st f).merge = s.merge := rfl
@[simp] theorem State.onTest_discrepancies (s : State) (st : Nat) (f : TestRecord → TestRecord) : (s.onTest st f).discrepancies = s.discrepancies := rfl
@[simp] theorem State.onTest_nextTicket (s : State) (st : Nat) (f : TestRecord → TestRecord) : (s.onTest st f).nextTicket = s.nextTicket := rfl

/-! `State.onCarousel` -/

@[simp] theorem State.onCarousel_pending (s : State) (k : Nat) (f : Carousel → Carousel) : (s.onCarousel k f).pending = s.pending := by
  unfold State.onCarousel; split <;> rfl
@[simp] theorem State.onCarousel_now (s : State) (k : Nat) (f : Carousel → Carousel) : (s.onCarousel k f).now = s.now := by
  unfold State.onCarousel; split <;> rfl
@[simp] theorem State.onCarousel_straps (s : State) (k : Nat) (f : Carousel → Carousel) : (s.onCarousel k f).straps = s.straps := by
  unfold State.onCarousel; split <;> rfl
@[simp] theorem State.onCarousel_mode (s : State) (k : Nat) (f : Carousel → Carousel) : (s.onCarousel k f).mode = s.mode := by
  unfold State.onCarousel; split <;> rfl
@[simp] theorem State.onCarousel_line (s : State) (k : Nat) (f : Carousel → Carousel) : (s.onCarousel k f).line = s.line := by
  unfold State.onCarousel; split <;> rfl
@[simp] theorem State.onCarousel_flags (s : State) (k : Nat) (f : Carousel → Carousel) : (s.onCarousel k f).flags = s.flags := by
  unfold State.onCarousel; split <;> rfl
@[simp] theorem State.onCarousel_settings (s : State) (k : Nat) (f : Carousel → Carousel) : (s.onCarousel k f).settings = s.settings := by
  unfold State.onCarousel; split <;> rfl
@[simp] theorem State.onCarousel_articles (s : State) (k : Nat) (f : Carousel → Carousel) : (s.onCarousel k f).articles = s.articles := by
  unfold State.onCarousel; split <;> rfl
@[simp] theorem State.onCarousel_windows (s : State) (k : Nat) (f : Carousel → Carousel) : (s.onCarousel k f).windows = s.windows := by
  unfold State.onCarousel; split <;> rfl
@[simp] theorem State.onCarousel_tasks (s : State) (k : Nat) (f : Carousel → Carousel) : (s.onCarousel k f).tasks = s.tasks := by
  unfold State.onCarousel; split <;> rfl
@[simp] theorem State.onCarousel_orders (s : State) (k : Nat) (f : Carousel → Carousel) : (s.onCarousel k f).orders = s.orders := by
  unfold State.onCarousel; split <;> rfl
@[simp] theorem State.onCarousel_submission (s : State) (k : Nat) (f : Carousel → Carousel) : (s.onCarousel k f).submission = s.submission := by
  unfold State.onCarousel; split <;> rfl
@[simp] theorem State.onCarousel_admissions (s : State) (k : Nat) (f : Carousel → Carousel) : (s.onCarousel k f).admissions = s.admissions := by
  unfold State.onCarousel; split <;> rfl
@[simp] theorem State.onCarousel_creations (s : State) (k : Nat) (f : Carousel → Carousel) : (s.onCarousel k f).creations = s.creations := by
  unfold State.onCarousel; split <;> rfl
@[simp] theorem State.onCarousel_picks (s : State) (k : Nat) (f : Carousel → Carousel) : (s.onCarousel k f).picks = s.picks := by
  unfold State.onCarousel; split <;> rfl
@[simp] theorem State.onCarousel_lanes (s : State) (k : Nat) (f : Carousel → Carousel) : (s.onCarousel k f).lanes = s.lanes := by
  unfold State.onCarousel; split <;> rfl
@[simp] theorem State.onCarousel_merge (s : State) (k : Nat) (f : Carousel → Carousel) : (s.onCarousel k f).merge = s.merge := by
  unfold State.onCarousel; split <;> rfl
@[simp] theorem State.onCarousel_discrepancies (s : State) (k : Nat) (f : Carousel → Carousel) : (s.onCarousel k f).discrepancies = s.discrepancies := by
  unfold State.onCarousel; split <;> rfl
@[simp] theorem State.onCarousel_links (s : State) (k : Nat) (f : Carousel → Carousel) : (s.onCarousel k f).links = s.links := by
  unfold State.onCarousel; split <;> rfl
@[simp] theorem State.onCarousel_nextTicket (s : State) (k : Nat) (f : Carousel → Carousel) : (s.onCarousel k f).nextTicket = s.nextTicket := by
  unfold State.onCarousel; split <;> rfl

/-! `State.notify` -/

@[simp] theorem State.notify_pending (s : State) (n : Notice) : (s.notify n).pending = s.pending := by
  unfold State.notify; split <;> rfl
@[simp] theorem State.notify_now (s : State) (n : Notice) : (s.notify n).now = s.now := by
  unfold State.notify; split <;> rfl
@[simp] theorem State.notify_straps (s : State) (n : Notice) : (s.notify n).straps = s.straps := by
  unfold State.notify; split <;> rfl
@[simp] theorem State.notify_mode (s : State) (n : Notice) : (s.notify n).mode = s.mode := by
  unfold State.notify; split <;> rfl
@[simp] theorem State.notify_settings (s : State) (n : Notice) : (s.notify n).settings = s.settings := by
  unfold State.notify; split <;> rfl
@[simp] theorem State.notify_articles (s : State) (n : Notice) : (s.notify n).articles = s.articles := by
  unfold State.notify; split <;> rfl
@[simp] theorem State.notify_carousels (s : State) (n : Notice) : (s.notify n).carousels = s.carousels := by
  unfold State.notify; split <;> rfl
@[simp] theorem State.notify_windows (s : State) (n : Notice) : (s.notify n).windows = s.windows := by
  unfold State.notify; split <;> rfl
@[simp] theorem State.notify_tasks (s : State) (n : Notice) : (s.notify n).tasks = s.tasks := by
  unfold State.notify; split <;> rfl
@[simp] theorem State.notify_orders (s : State) (n : Notice) : (s.notify n).orders = s.orders := by
  unfold State.notify; split <;> rfl
@[simp] theorem State.notify_submission (s : State) (n : Notice) : (s.notify n).submission = s.submission := by
  unfold State.notify; split <;> rfl
@[simp] theorem State.notify_admissions (s : State) (n : Notice) : (s.notify n).admissions = s.admissions := by
  unfold State.notify; split <;> rfl
@[simp] theorem State.notify_creations (s : State) (n : Notice) : (s.notify n).creations = s.creations := by
  unfold State.notify; split <;> rfl
@[simp] theorem State.notify_picks (s : State) (n : Notice) : (s.notify n).picks = s.picks := by
  unfold State.notify; split <;> rfl
@[simp] theorem State.notify_lanes (s : State) (n : Notice) : (s.notify n).lanes = s.lanes := by
  unfold State.notify; split <;> rfl
@[simp] theorem State.notify_merge (s : State) (n : Notice) : (s.notify n).merge = s.merge := by
  unfold State.notify; split <;> rfl
@[simp] theorem State.notify_discrepancies (s : State) (n : Notice) : (s.notify n).discrepancies = s.discrepancies := by
  unfold State.notify; split <;> rfl
@[simp] theorem State.notify_links (s : State) (n : Notice) : (s.notify n).links = s.links := by
  unfold State.notify; split <;> rfl
@[simp] theorem State.notify_nextTicket (s : State) (n : Notice) : (s.notify n).nextTicket = s.nextTicket := by
  unfold State.notify; split <;> rfl

/-! `State.formReply` -/

@[simp] theorem State.formReply_pending (s : State) (r : Result) (b : ReplyBody) : (s.formReply r b).pending = s.pending := by
  unfold State.formReply; split <;> rfl
@[simp] theorem State.formReply_now (s : State) (r : Result) (b : ReplyBody) : (s.formReply r b).now = s.now := by
  unfold State.formReply; split <;> rfl
@[simp] theorem State.formReply_straps (s : State) (r : Result) (b : ReplyBody) : (s.formReply r b).straps = s.straps := by
  unfold State.formReply; split <;> rfl
@[simp] theorem State.formReply_mode (s : State) (r : Result) (b : ReplyBody) : (s.formReply r b).mode = s.mode := by
  unfold State.formReply; split <;> rfl
@[simp] theorem State.formReply_flags (s : State) (r : Result) (b : ReplyBody) : (s.formReply r b).flags = s.flags := by
  unfold State.formReply; split <;> rfl
@[simp] theorem State.formReply_settings (s : State) (r : Result) (b : ReplyBody) : (s.formReply r b).settings = s.settings := by
  unfold State.formReply; split <;> rfl
@[simp] theorem State.formReply_articles (s : State) (r : Result) (b : ReplyBody) : (s.formReply r b).articles = s.articles := by
  unfold State.formReply; split <;> rfl
@[simp] theorem State.formReply_carousels (s : State) (r : Result) (b : ReplyBody) : (s.formReply r b).carousels = s.carousels := by
  unfold State.formReply; split <;> rfl
@[simp] theorem State.formReply_windows (s : State) (r : Result) (b : ReplyBody) : (s.formReply r b).windows = s.windows := by
  unfold State.formReply; split <;> rfl
@[simp] theorem State.formReply_tasks (s : State) (r : Result) (b : ReplyBody) : (s.formReply r b).tasks = s.tasks := by
  unfold State.formReply; split <;> rfl
@[simp] theorem State.formReply_orders (s : State) (r : Result) (b : ReplyBody) : (s.formReply r b).orders = s.orders := by
  unfold State.formReply; split <;> rfl
@[simp] theorem State.formReply_submission (s : State) (r : Result) (b : ReplyBody) : (s.formReply r b).submission = s.submission := by
  unfold State.formReply; split <;> rfl
@[simp] theorem State.formReply_admissions (s : State) (r : Result) (b : ReplyBody) : (s.formReply r b).admissions = s.admissions := by
  unfold State.formReply; split <;> rfl
@[simp] theorem State.formReply_creations (s : State) (r : Result) (b : ReplyBody) : (s.formReply r b).creations = s.creations := by
  unfold State.formReply; split <;> rfl
@[simp] theorem State.formReply_picks (s : State) (r : Result) (b : ReplyBody) : (s.formReply r b).picks = s.picks := by
  unfold State.formReply; split <;> rfl
@[simp] theorem State.formReply_lanes (s : State) (r : Result) (b : ReplyBody) : (s.formReply r b).lanes = s.lanes := by
  unfold State.formReply; split <;> rfl
@[simp] theorem State.formReply_merge (s : State) (r : Result) (b : ReplyBody) : (s.formReply r b).merge = s.merge := by
  unfold State.formReply; split <;> rfl
@[simp] theorem State.formReply_discrepancies (s : State) (r : Result) (b : ReplyBody) : (s.formReply r b).discrepancies = s.discrepancies := by
  unfold State.formReply; split <;> rfl
@[simp] theorem State.formReply_links (s : State) (r : Result) (b : ReplyBody) : (s.formReply r b).links = s.links := by
  unfold State.formReply; split <;> rfl
@[simp] theorem State.formReply_nextTicket (s : State) (r : Result) (b : ReplyBody) : (s.formReply r b).nextTicket = s.nextTicket := by
  unfold State.formReply; split <;> rfl

/-! `State.awaitExchange` -/

@[simp] theorem State.awaitExchange_pending (s : State) (e : Exchange) : (s.awaitExchange e).pending = s.pending := rfl
@[simp] theorem State.awaitExchange_now (s : State) (e : Exchange) : (s.awaitExchange e).now = s.now := rfl
@[simp] theorem State.awaitExchange_draws (s : State) (e : Exchange) : (s.awaitExchange e).draws = s.draws := rfl
@[simp] theorem State.awaitExchange_straps (s : State) (e : Exchange) : (s.awaitExchange e).straps = s.straps := rfl
@[simp] theorem State.awaitExchange_mode (s : State) (e : Exchange) : (s.awaitExchange e).mode = s.mode := rfl
@[simp] theorem State.awaitExchange_flags (s : State) (e : Exchange) : (s.awaitExchange e).flags = s.flags := rfl
@[simp] theorem State.awaitExchange_settings (s : State) (e : Exchange) : (s.awaitExchange e).settings = s.settings := rfl
@[simp] theorem State.awaitExchange_articles (s : State) (e : Exchange) : (s.awaitExchange e).articles = s.articles := rfl
@[simp] theorem State.awaitExchange_carousels (s : State) (e : Exchange) : (s.awaitExchange e).carousels = s.carousels := rfl
@[simp] theorem State.awaitExchange_windows (s : State) (e : Exchange) : (s.awaitExchange e).windows = s.windows := rfl
@[simp] theorem State.awaitExchange_tasks (s : State) (e : Exchange) : (s.awaitExchange e).tasks = s.tasks := rfl
@[simp] theorem State.awaitExchange_orders (s : State) (e : Exchange) : (s.awaitExchange e).orders = s.orders := rfl
@[simp] theorem State.awaitExchange_submission (s : State) (e : Exchange) : (s.awaitExchange e).submission = s.submission := rfl
@[simp] theorem State.awaitExchange_admissions (s : State) (e : Exchange) : (s.awaitExchange e).admissions = s.admissions := rfl
@[simp] theorem State.awaitExchange_creations (s : State) (e : Exchange) : (s.awaitExchange e).creations = s.creations := rfl
@[simp] theorem State.awaitExchange_picks (s : State) (e : Exchange) : (s.awaitExchange e).picks = s.picks := rfl
@[simp] theorem State.awaitExchange_lanes (s : State) (e : Exchange) : (s.awaitExchange e).lanes = s.lanes := rfl
@[simp] theorem State.awaitExchange_merge (s : State) (e : Exchange) : (s.awaitExchange e).merge = s.merge := rfl
@[simp] theorem State.awaitExchange_discrepancies (s : State) (e : Exchange) : (s.awaitExchange e).discrepancies = s.discrepancies := rfl
@[simp] theorem State.awaitExchange_links (s : State) (e : Exchange) : (s.awaitExchange e).links = s.links := rfl
@[simp] theorem State.awaitExchange_nextTicket (s : State) (e : Exchange) : (s.awaitExchange e).nextTicket = s.nextTicket := rfl

/-! `State.endExchange` -/

@[simp] theorem State.endExchange_pending (s : State) (e : Exchange) (r : Result) (b : ReplyBody) : (s.endExchange e r b).pending = s.pending := by
  simp only [State.endExchange]; (repeat' split) <;> simp
@[simp] theorem State.endExchange_now (s : State) (e : Exchange) (r : Result) (b : ReplyBody) : (s.endExchange e r b).now = s.now := by
  simp only [State.endExchange]; (repeat' split) <;> simp
@[simp] theorem State.endExchange_straps (s : State) (e : Exchange) (r : Result) (b : ReplyBody) : (s.endExchange e r b).straps = s.straps := by
  simp only [State.endExchange]; (repeat' split) <;> simp
@[simp] theorem State.endExchange_mode (s : State) (e : Exchange) (r : Result) (b : ReplyBody) : (s.endExchange e r b).mode = s.mode := by
  simp only [State.endExchange]; (repeat' split) <;> simp
@[simp] theorem State.endExchange_flags (s : State) (e : Exchange) (r : Result) (b : ReplyBody) : (s.endExchange e r b).flags = s.flags := by
  simp only [State.endExchange]; (repeat' split) <;> simp
@[simp] theorem State.endExchange_settings (s : State) (e : Exchange) (r : Result) (b : ReplyBody) : (s.endExchange e r b).settings = s.settings := by
  simp only [State.endExchange]; (repeat' split) <;> simp
@[simp] theorem State.endExchange_articles (s : State) (e : Exchange) (r : Result) (b : ReplyBody) : (s.endExchange e r b).articles = s.articles := by
  simp only [State.endExchange]; (repeat' split) <;> simp
@[simp] theorem State.endExchange_carousels (s : State) (e : Exchange) (r : Result) (b : ReplyBody) : (s.endExchange e r b).carousels = s.carousels := by
  simp only [State.endExchange]; (repeat' split) <;> simp
@[simp] theorem State.endExchange_windows (s : State) (e : Exchange) (r : Result) (b : ReplyBody) : (s.endExchange e r b).windows = s.windows := by
  simp only [State.endExchange]; (repeat' split) <;> simp
@[simp] theorem State.endExchange_tasks (s : State) (e : Exchange) (r : Result) (b : ReplyBody) : (s.endExchange e r b).tasks = s.tasks := by
  simp only [State.endExchange]; (repeat' split) <;> simp
@[simp] theorem State.endExchange_orders (s : State) (e : Exchange) (r : Result) (b : ReplyBody) : (s.endExchange e r b).orders = s.orders := by
  simp only [State.endExchange]; (repeat' split) <;> simp
@[simp] theorem State.endExchange_submission (s : State) (e : Exchange) (r : Result) (b : ReplyBody) : (s.endExchange e r b).submission = s.submission := by
  simp only [State.endExchange]; (repeat' split) <;> simp
@[simp] theorem State.endExchange_admissions (s : State) (e : Exchange) (r : Result) (b : ReplyBody) : (s.endExchange e r b).admissions = s.admissions := by
  simp only [State.endExchange]; (repeat' split) <;> simp
@[simp] theorem State.endExchange_creations (s : State) (e : Exchange) (r : Result) (b : ReplyBody) : (s.endExchange e r b).creations = s.creations := by
  simp only [State.endExchange]; (repeat' split) <;> simp
@[simp] theorem State.endExchange_picks (s : State) (e : Exchange) (r : Result) (b : ReplyBody) : (s.endExchange e r b).picks = s.picks := by
  simp only [State.endExchange]; (repeat' split) <;> simp
@[simp] theorem State.endExchange_lanes (s : State) (e : Exchange) (r : Result) (b : ReplyBody) : (s.endExchange e r b).lanes = s.lanes := by
  simp only [State.endExchange]; (repeat' split) <;> simp
@[simp] theorem State.endExchange_merge (s : State) (e : Exchange) (r : Result) (b : ReplyBody) : (s.endExchange e r b).merge = s.merge := by
  simp only [State.endExchange]; (repeat' split) <;> simp
@[simp] theorem State.endExchange_discrepancies (s : State) (e : Exchange) (r : Result) (b : ReplyBody) : (s.endExchange e r b).discrepancies = s.discrepancies := by
  simp only [State.endExchange]; (repeat' split) <;> simp
@[simp] theorem State.endExchange_links (s : State) (e : Exchange) (r : Result) (b : ReplyBody) : (s.endExchange e r b).links = s.links := by
  simp only [State.endExchange]; (repeat' split) <;> simp
@[simp] theorem State.endExchange_nextTicket (s : State) (e : Exchange) (r : Result) (b : ReplyBody) : (s.endExchange e r b).nextTicket = s.nextTicket := by
  simp only [State.endExchange]; (repeat' split) <;> simp

/-! `State.arrive` -/

@[simp] theorem State.arrive_pending (s : State) (f : Frame) : (s.arrive f).pending = s.pending := by
  unfold State.arrive; split <;> rfl
@[simp] theorem State.arrive_now (s : State) (f : Frame) : (s.arrive f).now = s.now := by
  unfold State.arrive; split <;> rfl
@[simp] theorem State.arrive_straps (s : State) (f : Frame) : (s.arrive f).straps = s.straps := by
  unfold State.arrive; split <;> rfl
@[simp] theorem State.arrive_mode (s : State) (f : Frame) : (s.arrive f).mode = s.mode := by
  unfold State.arrive; split <;> rfl
@[simp] theorem State.arrive_settings (s : State) (f : Frame) : (s.arrive f).settings = s.settings := by
  unfold State.arrive; split <;> rfl
@[simp] theorem State.arrive_articles (s : State) (f : Frame) : (s.arrive f).articles = s.articles := by
  unfold State.arrive; split <;> rfl
@[simp] theorem State.arrive_carousels (s : State) (f : Frame) : (s.arrive f).carousels = s.carousels := by
  unfold State.arrive; split <;> rfl
@[simp] theorem State.arrive_windows (s : State) (f : Frame) : (s.arrive f).windows = s.windows := by
  unfold State.arrive; split <;> rfl
@[simp] theorem State.arrive_tasks (s : State) (f : Frame) : (s.arrive f).tasks = s.tasks := by
  unfold State.arrive; split <;> rfl
@[simp] theorem State.arrive_orders (s : State) (f : Frame) : (s.arrive f).orders = s.orders := by
  unfold State.arrive; split <;> rfl
@[simp] theorem State.arrive_submission (s : State) (f : Frame) : (s.arrive f).submission = s.submission := by
  unfold State.arrive; split <;> rfl
@[simp] theorem State.arrive_admissions (s : State) (f : Frame) : (s.arrive f).admissions = s.admissions := by
  unfold State.arrive; split <;> rfl
@[simp] theorem State.arrive_creations (s : State) (f : Frame) : (s.arrive f).creations = s.creations := by
  unfold State.arrive; split <;> rfl
@[simp] theorem State.arrive_picks (s : State) (f : Frame) : (s.arrive f).picks = s.picks := by
  unfold State.arrive; split <;> rfl
@[simp] theorem State.arrive_lanes (s : State) (f : Frame) : (s.arrive f).lanes = s.lanes := by
  unfold State.arrive; split <;> rfl
@[simp] theorem State.arrive_merge (s : State) (f : Frame) : (s.arrive f).merge = s.merge := by
  unfold State.arrive; split <;> rfl
@[simp] theorem State.arrive_discrepancies (s : State) (f : Frame) : (s.arrive f).discrepancies = s.discrepancies := by
  unfold State.arrive; split <;> rfl
@[simp] theorem State.arrive_links (s : State) (f : Frame) : (s.arrive f).links = s.links := by
  unfold State.arrive; split <;> rfl
@[simp] theorem State.arrive_nextTicket (s : State) (f : Frame) : (s.arrive f).nextTicket = s.nextTicket := by
  unfold State.arrive; split <;> rfl

/-! `State.reachTime` -/

@[simp] theorem State.reachTime_pending (s : State) (e : Time) : (s.reachTime e).pending = s.pending := by
  unfold State.reachTime; split <;> rfl
@[simp] theorem State.reachTime_straps (s : State) (e : Time) : (s.reachTime e).straps = s.straps := by
  unfold State.reachTime; split <;> rfl
@[simp] theorem State.reachTime_mode (s : State) (e : Time) : (s.reachTime e).mode = s.mode := by
  unfold State.reachTime; split <;> rfl
@[simp] theorem State.reachTime_line (s : State) (e : Time) : (s.reachTime e).line = s.line := by
  unfold State.reachTime; split <;> rfl
@[simp] theorem State.reachTime_flags (s : State) (e : Time) : (s.reachTime e).flags = s.flags := by
  unfold State.reachTime; split <;> rfl
@[simp] theorem State.reachTime_settings (s : State) (e : Time) : (s.reachTime e).settings = s.settings := by
  unfold State.reachTime; split <;> rfl
@[simp] theorem State.reachTime_articles (s : State) (e : Time) : (s.reachTime e).articles = s.articles := by
  unfold State.reachTime; split <;> rfl
@[simp] theorem State.reachTime_carousels (s : State) (e : Time) : (s.reachTime e).carousels = s.carousels := by
  unfold State.reachTime; split <;> rfl
@[simp] theorem State.reachTime_windows (s : State) (e : Time) : (s.reachTime e).windows = s.windows := by
  unfold State.reachTime; split <;> rfl
@[simp] theorem State.reachTime_tasks (s : State) (e : Time) : (s.reachTime e).tasks = s.tasks := by
  unfold State.reachTime; split <;> rfl
@[simp] theorem State.reachTime_orders (s : State) (e : Time) : (s.reachTime e).orders = s.orders := by
  unfold State.reachTime; split <;> rfl
@[simp] theorem State.reachTime_submission (s : State) (e : Time) : (s.reachTime e).submission = s.submission := by
  unfold State.reachTime; split <;> rfl
@[simp] theorem State.reachTime_admissions (s : State) (e : Time) : (s.reachTime e).admissions = s.admissions := by
  unfold State.reachTime; split <;> rfl
@[simp] theorem State.reachTime_creations (s : State) (e : Time) : (s.reachTime e).creations = s.creations := by
  unfold State.reachTime; split <;> rfl
@[simp] theorem State.reachTime_picks (s : State) (e : Time) : (s.reachTime e).picks = s.picks := by
  unfold State.reachTime; split <;> rfl
@[simp] theorem State.reachTime_lanes (s : State) (e : Time) : (s.reachTime e).lanes = s.lanes := by
  unfold State.reachTime; split <;> rfl
@[simp] theorem State.reachTime_merge (s : State) (e : Time) : (s.reachTime e).merge = s.merge := by
  unfold State.reachTime; split <;> rfl
@[simp] theorem State.reachTime_discrepancies (s : State) (e : Time) : (s.reachTime e).discrepancies = s.discrepancies := by
  unfold State.reachTime; split <;> rfl
@[simp] theorem State.reachTime_nextTicket (s : State) (e : Time) : (s.reachTime e).nextTicket = s.nextTicket := by
  unfold State.reachTime; split <;> rfl

/-! `State.judgeOver` -/

@[simp] theorem State.judgeOver_pending (s : State) (k : Nat) : (s.judgeOver k).pending = s.pending := by
  simp only [State.judgeOver]; (repeat' split) <;> simp
@[simp] theorem State.judgeOver_now (s : State) (k : Nat) : (s.judgeOver k).now = s.now := by
  simp only [State.judgeOver]; (repeat' split) <;> simp
@[simp] theorem State.judgeOver_straps (s : State) (k : Nat) : (s.judgeOver k).straps = s.straps := by
  simp only [State.judgeOver]; (repeat' split) <;> simp
@[simp] theorem State.judgeOver_mode (s : State) (k : Nat) : (s.judgeOver k).mode = s.mode := by
  simp only [State.judgeOver]; (repeat' split) <;> simp
@[simp] theorem State.judgeOver_settings (s : State) (k : Nat) : (s.judgeOver k).settings = s.settings := by
  simp only [State.judgeOver]; (repeat' split) <;> simp
@[simp] theorem State.judgeOver_articles (s : State) (k : Nat) : (s.judgeOver k).articles = s.articles := by
  simp only [State.judgeOver]; (repeat' split) <;> simp
@[simp] theorem State.judgeOver_windows (s : State) (k : Nat) : (s.judgeOver k).windows = s.windows := by
  simp only [State.judgeOver]; (repeat' split) <;> simp
@[simp] theorem State.judgeOver_tasks (s : State) (k : Nat) : (s.judgeOver k).tasks = s.tasks := by
  simp only [State.judgeOver]; (repeat' split) <;> simp
@[simp] theorem State.judgeOver_orders (s : State) (k : Nat) : (s.judgeOver k).orders = s.orders := by
  simp only [State.judgeOver]; (repeat' split) <;> simp
@[simp] theorem State.judgeOver_submission (s : State) (k : Nat) : (s.judgeOver k).submission = s.submission := by
  simp only [State.judgeOver]; (repeat' split) <;> simp
@[simp] theorem State.judgeOver_admissions (s : State) (k : Nat) : (s.judgeOver k).admissions = s.admissions := by
  simp only [State.judgeOver]; (repeat' split) <;> simp
@[simp] theorem State.judgeOver_creations (s : State) (k : Nat) : (s.judgeOver k).creations = s.creations := by
  simp only [State.judgeOver]; (repeat' split) <;> simp
@[simp] theorem State.judgeOver_picks (s : State) (k : Nat) : (s.judgeOver k).picks = s.picks := by
  simp only [State.judgeOver]; (repeat' split) <;> simp
@[simp] theorem State.judgeOver_lanes (s : State) (k : Nat) : (s.judgeOver k).lanes = s.lanes := by
  simp only [State.judgeOver]; (repeat' split) <;> simp
@[simp] theorem State.judgeOver_merge (s : State) (k : Nat) : (s.judgeOver k).merge = s.merge := by
  simp only [State.judgeOver]; (repeat' split) <;> simp
@[simp] theorem State.judgeOver_discrepancies (s : State) (k : Nat) : (s.judgeOver k).discrepancies = s.discrepancies := by
  simp only [State.judgeOver]; (repeat' split) <;> simp
@[simp] theorem State.judgeOver_links (s : State) (k : Nat) : (s.judgeOver k).links = s.links := by
  simp only [State.judgeOver]; (repeat' split) <;> simp
@[simp] theorem State.judgeOver_nextTicket (s : State) (k : Nat) : (s.judgeOver k).nextTicket = s.nextTicket := by
  simp only [State.judgeOver]; (repeat' split) <;> simp

/-! `State.writeSlot` -/

@[simp] theorem State.writeSlot_pending (s : State) (a : SlotAddr) (x : Slot) : (s.writeSlot a x).pending = s.pending := by
  simp only [State.writeSlot]; (repeat' split) <;> simp
@[simp] theorem State.writeSlot_now (s : State) (a : SlotAddr) (x : Slot) : (s.writeSlot a x).now = s.now := by
  simp only [State.writeSlot]; (repeat' split) <;> simp
@[simp] theorem State.writeSlot_straps (s : State) (a : SlotAddr) (x : Slot) : (s.writeSlot a x).straps = s.straps := by
  simp only [State.writeSlot]; (repeat' split) <;> simp
@[simp] theorem State.writeSlot_mode (s : State) (a : SlotAddr) (x : Slot) : (s.writeSlot a x).mode = s.mode := by
  simp only [State.writeSlot]; (repeat' split) <;> simp
@[simp] theorem State.writeSlot_settings (s : State) (a : SlotAddr) (x : Slot) : (s.writeSlot a x).settings = s.settings := by
  simp only [State.writeSlot]; (repeat' split) <;> simp
@[simp] theorem State.writeSlot_articles (s : State) (a : SlotAddr) (x : Slot) : (s.writeSlot a x).articles = s.articles := by
  simp only [State.writeSlot]; (repeat' split) <;> simp
@[simp] theorem State.writeSlot_windows (s : State) (a : SlotAddr) (x : Slot) : (s.writeSlot a x).windows = s.windows := by
  simp only [State.writeSlot]; (repeat' split) <;> simp
@[simp] theorem State.writeSlot_tasks (s : State) (a : SlotAddr) (x : Slot) : (s.writeSlot a x).tasks = s.tasks := by
  simp only [State.writeSlot]; (repeat' split) <;> simp
@[simp] theorem State.writeSlot_orders (s : State) (a : SlotAddr) (x : Slot) : (s.writeSlot a x).orders = s.orders := by
  simp only [State.writeSlot]; (repeat' split) <;> simp
@[simp] theorem State.writeSlot_submission (s : State) (a : SlotAddr) (x : Slot) : (s.writeSlot a x).submission = s.submission := by
  simp only [State.writeSlot]; (repeat' split) <;> simp
@[simp] theorem State.writeSlot_admissions (s : State) (a : SlotAddr) (x : Slot) : (s.writeSlot a x).admissions = s.admissions := by
  simp only [State.writeSlot]; (repeat' split) <;> simp
@[simp] theorem State.writeSlot_creations (s : State) (a : SlotAddr) (x : Slot) : (s.writeSlot a x).creations = s.creations := by
  simp only [State.writeSlot]; (repeat' split) <;> simp
@[simp] theorem State.writeSlot_picks (s : State) (a : SlotAddr) (x : Slot) : (s.writeSlot a x).picks = s.picks := by
  simp only [State.writeSlot]; (repeat' split) <;> simp
@[simp] theorem State.writeSlot_lanes (s : State) (a : SlotAddr) (x : Slot) : (s.writeSlot a x).lanes = s.lanes := by
  simp only [State.writeSlot]; (repeat' split) <;> simp
@[simp] theorem State.writeSlot_merge (s : State) (a : SlotAddr) (x : Slot) : (s.writeSlot a x).merge = s.merge := by
  simp only [State.writeSlot]; (repeat' split) <;> simp
@[simp] theorem State.writeSlot_discrepancies (s : State) (a : SlotAddr) (x : Slot) : (s.writeSlot a x).discrepancies = s.discrepancies := by
  simp only [State.writeSlot]; (repeat' split) <;> simp
@[simp] theorem State.writeSlot_links (s : State) (a : SlotAddr) (x : Slot) : (s.writeSlot a x).links = s.links := by
  simp only [State.writeSlot]; (repeat' split) <;> simp
@[simp] theorem State.writeSlot_nextTicket (s : State) (a : SlotAddr) (x : Slot) : (s.writeSlot a x).nextTicket = s.nextTicket := by
  simp only [State.writeSlot]; (repeat' split) <;> simp

/-! `State.updateSlot` -/

@[simp] theorem State.updateSlot_pending (s : State) (a : SlotAddr) (f : Slot → Slot) : (s.updateSlot a f).pending = s.pending := by
  simp only [State.updateSlot]; (repeat' split) <;> simp
@[simp] theorem State.updateSlot_now (s : State) (a : SlotAddr) (f : Slot → Slot) : (s.updateSlot a f).now = s.now := by
  simp only [State.updateSlot]; (repeat' split) <;> simp
@[simp] theorem State.updateSlot_straps (s : State) (a : SlotAddr) (f : Slot → Slot) : (s.updateSlot a f).straps = s.straps := by
  simp only [State.updateSlot]; (repeat' split) <;> simp
@[simp] theorem State.updateSlot_mode (s : State) (a : SlotAddr) (f : Slot → Slot) : (s.updateSlot a f).mode = s.mode := by
  simp only [State.updateSlot]; (repeat' split) <;> simp
@[simp] theorem State.updateSlot_settings (s : State) (a : SlotAddr) (f : Slot → Slot) : (s.updateSlot a f).settings = s.settings := by
  simp only [State.updateSlot]; (repeat' split) <;> simp
@[simp] theorem State.updateSlot_articles (s : State) (a : SlotAddr) (f : Slot → Slot) : (s.updateSlot a f).articles = s.articles := by
  simp only [State.updateSlot]; (repeat' split) <;> simp
@[simp] theorem State.updateSlot_windows (s : State) (a : SlotAddr) (f : Slot → Slot) : (s.updateSlot a f).windows = s.windows := by
  simp only [State.updateSlot]; (repeat' split) <;> simp
@[simp] theorem State.updateSlot_tasks (s : State) (a : SlotAddr) (f : Slot → Slot) : (s.updateSlot a f).tasks = s.tasks := by
  simp only [State.updateSlot]; (repeat' split) <;> simp
@[simp] theorem State.updateSlot_orders (s : State) (a : SlotAddr) (f : Slot → Slot) : (s.updateSlot a f).orders = s.orders := by
  simp only [State.updateSlot]; (repeat' split) <;> simp
@[simp] theorem State.updateSlot_submission (s : State) (a : SlotAddr) (f : Slot → Slot) : (s.updateSlot a f).submission = s.submission := by
  simp only [State.updateSlot]; (repeat' split) <;> simp
@[simp] theorem State.updateSlot_admissions (s : State) (a : SlotAddr) (f : Slot → Slot) : (s.updateSlot a f).admissions = s.admissions := by
  simp only [State.updateSlot]; (repeat' split) <;> simp
@[simp] theorem State.updateSlot_creations (s : State) (a : SlotAddr) (f : Slot → Slot) : (s.updateSlot a f).creations = s.creations := by
  simp only [State.updateSlot]; (repeat' split) <;> simp
@[simp] theorem State.updateSlot_picks (s : State) (a : SlotAddr) (f : Slot → Slot) : (s.updateSlot a f).picks = s.picks := by
  simp only [State.updateSlot]; (repeat' split) <;> simp
@[simp] theorem State.updateSlot_lanes (s : State) (a : SlotAddr) (f : Slot → Slot) : (s.updateSlot a f).lanes = s.lanes := by
  simp only [State.updateSlot]; (repeat' split) <;> simp
@[simp] theorem State.updateSlot_merge (s : State) (a : SlotAddr) (f : Slot → Slot) : (s.updateSlot a f).merge = s.merge := by
  simp only [State.updateSlot]; (repeat' split) <;> simp
@[simp] theorem State.updateSlot_discrepancies (s : State) (a : SlotAddr) (f : Slot → Slot) : (s.updateSlot a f).discrepancies = s.discrepancies := by
  simp only [State.updateSlot]; (repeat' split) <;> simp
@[simp] theorem State.updateSlot_links (s : State) (a : SlotAddr) (f : Slot → Slot) : (s.updateSlot a f).links = s.links := by
  simp only [State.updateSlot]; (repeat' split) <;> simp
@[simp] theorem State.updateSlot_nextTicket (s : State) (a : SlotAddr) (f : Slot → Slot) : (s.updateSlot a f).nextTicket = s.nextTicket := by
  simp only [State.updateSlot]; (repeat' split) <;> simp

/-! `State.rewriteQueue` -/

@[simp] theorem State.rewriteQueue_pending (s : State) (w i : Nat) (f : List Entry → List Entry) : (s.rewriteQueue w i f).pending = s.pending := by
  simp only [State.rewriteQueue]; (repeat' split) <;> simp
@[simp] theorem State.rewriteQueue_now (s : State) (w i : Nat) (f : List Entry → List Entry) : (s.rewriteQueue w i f).now = s.now := by
  simp only [State.rewriteQueue]; (repeat' split) <;> simp
@[simp] theorem State.rewriteQueue_straps (s : State) (w i : Nat) (f : List Entry → List Entry) : (s.rewriteQueue w i f).straps = s.straps := by
  simp only [State.rewriteQueue]; (repeat' split) <;> simp
@[simp] theorem State.rewriteQueue_mode (s : State) (w i : Nat) (f : List Entry → List Entry) : (s.rewriteQueue w i f).mode = s.mode := by
  simp only [State.rewriteQueue]; (repeat' split) <;> simp
@[simp] theorem State.rewriteQueue_line (s : State) (w i : Nat) (f : List Entry → List Entry) : (s.rewriteQueue w i f).line = s.line := by
  simp only [State.rewriteQueue]; (repeat' split) <;> simp
@[simp] theorem State.rewriteQueue_flags (s : State) (w i : Nat) (f : List Entry → List Entry) : (s.rewriteQueue w i f).flags = s.flags := by
  simp only [State.rewriteQueue]; (repeat' split) <;> simp
@[simp] theorem State.rewriteQueue_settings (s : State) (w i : Nat) (f : List Entry → List Entry) : (s.rewriteQueue w i f).settings = s.settings := by
  simp only [State.rewriteQueue]; (repeat' split) <;> simp
@[simp] theorem State.rewriteQueue_articles (s : State) (w i : Nat) (f : List Entry → List Entry) : (s.rewriteQueue w i f).articles = s.articles := by
  simp only [State.rewriteQueue]; (repeat' split) <;> simp
@[simp] theorem State.rewriteQueue_carousels (s : State) (w i : Nat) (f : List Entry → List Entry) : (s.rewriteQueue w i f).carousels = s.carousels := by
  simp only [State.rewriteQueue]; (repeat' split) <;> simp
@[simp] theorem State.rewriteQueue_tasks (s : State) (w i : Nat) (f : List Entry → List Entry) : (s.rewriteQueue w i f).tasks = s.tasks := by
  simp only [State.rewriteQueue]; (repeat' split) <;> simp
@[simp] theorem State.rewriteQueue_orders (s : State) (w i : Nat) (f : List Entry → List Entry) : (s.rewriteQueue w i f).orders = s.orders := by
  simp only [State.rewriteQueue]; (repeat' split) <;> simp
@[simp] theorem State.rewriteQueue_submission (s : State) (w i : Nat) (f : List Entry → List Entry) : (s.rewriteQueue w i f).submission = s.submission := by
  simp only [State.rewriteQueue]; (repeat' split) <;> simp
@[simp] theorem State.rewriteQueue_admissions (s : State) (w i : Nat) (f : List Entry → List Entry) : (s.rewriteQueue w i f).admissions = s.admissions := by
  simp only [State.rewriteQueue]; (repeat' split) <;> simp
@[simp] theorem State.rewriteQueue_creations (s : State) (w i : Nat) (f : List Entry → List Entry) : (s.rewriteQueue w i f).creations = s.creations := by
  simp only [State.rewriteQueue]; (repeat' split) <;> simp
@[simp] theorem State.rewriteQueue_picks (s : State) (w i : Nat) (f : List Entry → List Entry) : (s.rewriteQueue w i f).picks = s.picks := by
  simp only [State.rewriteQueue]; (repeat' split) <;> simp
@[simp] theorem State.rewriteQueue_lanes (s : State) (w i : Nat) (f : List Entry → List Entry) : (s.rewriteQueue w i f).lanes = s.lanes := by
  simp only [State.rewriteQueue]; (repeat' split) <;> simp
@[simp] theorem State.rewriteQueue_merge (s : State) (w i : Nat) (f : List Entry → List Entry) : (s.rewriteQueue w i f).merge = s.merge := by
  simp only [State.rewriteQueue]; (repeat' split) <;> simp
@[simp] theorem State.rewriteQueue_discrepancies (s : State) (w i : Nat) (f : List Entry → List Entry) : (s.rewriteQueue w i f).discrepancies = s.discrepancies := by
  simp only [State.rewriteQueue]; (repeat' split) <;> simp
@[simp] theorem State.rewriteQueue_links (s : State) (w i : Nat) (f : List Entry → List Entry) : (s.rewriteQueue w i f).links = s.links := by
  simp only [State.rewriteQueue]; (repeat' split) <;> simp
@[simp] theorem State.rewriteQueue_nextTicket (s : State) (w i : Nat) (f : List Entry → List Entry) : (s.rewriteQueue w i f).nextTicket = s.nextTicket := by
  simp only [State.rewriteQueue]; (repeat' split) <;> simp

/-! `State.joinEntry` -/

@[simp] theorem State.joinEntry_pending (s : State) (a : SlotAddr) (e : Entry) : (s.joinEntry a e).pending = s.pending := by
  simp only [State.joinEntry]; (repeat' split) <;> simp
@[simp] theorem State.joinEntry_now (s : State) (a : SlotAddr) (e : Entry) : (s.joinEntry a e).now = s.now := by
  simp only [State.joinEntry]; (repeat' split) <;> simp
@[simp] theorem State.joinEntry_straps (s : State) (a : SlotAddr) (e : Entry) : (s.joinEntry a e).straps = s.straps := by
  simp only [State.joinEntry]; (repeat' split) <;> simp
@[simp] theorem State.joinEntry_mode (s : State) (a : SlotAddr) (e : Entry) : (s.joinEntry a e).mode = s.mode := by
  simp only [State.joinEntry]; (repeat' split) <;> simp
@[simp] theorem State.joinEntry_line (s : State) (a : SlotAddr) (e : Entry) : (s.joinEntry a e).line = s.line := by
  simp only [State.joinEntry]; (repeat' split) <;> simp
@[simp] theorem State.joinEntry_flags (s : State) (a : SlotAddr) (e : Entry) : (s.joinEntry a e).flags = s.flags := by
  simp only [State.joinEntry]; (repeat' split) <;> simp
@[simp] theorem State.joinEntry_settings (s : State) (a : SlotAddr) (e : Entry) : (s.joinEntry a e).settings = s.settings := by
  simp only [State.joinEntry]; (repeat' split) <;> simp
@[simp] theorem State.joinEntry_articles (s : State) (a : SlotAddr) (e : Entry) : (s.joinEntry a e).articles = s.articles := by
  simp only [State.joinEntry]; (repeat' split) <;> simp
@[simp] theorem State.joinEntry_carousels (s : State) (a : SlotAddr) (e : Entry) : (s.joinEntry a e).carousels = s.carousels := by
  simp only [State.joinEntry]; (repeat' split) <;> simp
@[simp] theorem State.joinEntry_tasks (s : State) (a : SlotAddr) (e : Entry) : (s.joinEntry a e).tasks = s.tasks := by
  simp only [State.joinEntry]; (repeat' split) <;> simp
@[simp] theorem State.joinEntry_orders (s : State) (a : SlotAddr) (e : Entry) : (s.joinEntry a e).orders = s.orders := by
  simp only [State.joinEntry]; (repeat' split) <;> simp
@[simp] theorem State.joinEntry_submission (s : State) (a : SlotAddr) (e : Entry) : (s.joinEntry a e).submission = s.submission := by
  simp only [State.joinEntry]; (repeat' split) <;> simp
@[simp] theorem State.joinEntry_admissions (s : State) (a : SlotAddr) (e : Entry) : (s.joinEntry a e).admissions = s.admissions := by
  simp only [State.joinEntry]; (repeat' split) <;> simp
@[simp] theorem State.joinEntry_creations (s : State) (a : SlotAddr) (e : Entry) : (s.joinEntry a e).creations = s.creations := by
  simp only [State.joinEntry]; (repeat' split) <;> simp
@[simp] theorem State.joinEntry_picks (s : State) (a : SlotAddr) (e : Entry) : (s.joinEntry a e).picks = s.picks := by
  simp only [State.joinEntry]; (repeat' split) <;> simp
@[simp] theorem State.joinEntry_lanes (s : State) (a : SlotAddr) (e : Entry) : (s.joinEntry a e).lanes = s.lanes := by
  simp only [State.joinEntry]; (repeat' split) <;> simp
@[simp] theorem State.joinEntry_merge (s : State) (a : SlotAddr) (e : Entry) : (s.joinEntry a e).merge = s.merge := by
  simp only [State.joinEntry]; (repeat' split) <;> simp
@[simp] theorem State.joinEntry_discrepancies (s : State) (a : SlotAddr) (e : Entry) : (s.joinEntry a e).discrepancies = s.discrepancies := by
  simp only [State.joinEntry]; (repeat' split) <;> simp
@[simp] theorem State.joinEntry_links (s : State) (a : SlotAddr) (e : Entry) : (s.joinEntry a e).links = s.links := by
  simp only [State.joinEntry]; (repeat' split) <;> simp
@[simp] theorem State.joinEntry_nextTicket (s : State) (a : SlotAddr) (e : Entry) : (s.joinEntry a e).nextTicket = s.nextTicket := by
  simp only [State.joinEntry]; (repeat' split) <;> simp

/-! `State.removeEntry` -/

@[simp] theorem State.removeEntry_pending (s : State) (a : SlotAddr) (e : Entry) : (s.removeEntry a e).pending = s.pending := by
  simp only [State.removeEntry]; (repeat' split) <;> simp
@[simp] theorem State.removeEntry_now (s : State) (a : SlotAddr) (e : Entry) : (s.removeEntry a e).now = s.now := by
  simp only [State.removeEntry]; (repeat' split) <;> simp
@[simp] theorem State.removeEntry_straps (s : State) (a : SlotAddr) (e : Entry) : (s.removeEntry a e).straps = s.straps := by
  simp only [State.removeEntry]; (repeat' split) <;> simp
@[simp] theorem State.removeEntry_mode (s : State) (a : SlotAddr) (e : Entry) : (s.removeEntry a e).mode = s.mode := by
  simp only [State.removeEntry]; (repeat' split) <;> simp
@[simp] theorem State.removeEntry_line (s : State) (a : SlotAddr) (e : Entry) : (s.removeEntry a e).line = s.line := by
  simp only [State.removeEntry]; (repeat' split) <;> simp
@[simp] theorem State.removeEntry_flags (s : State) (a : SlotAddr) (e : Entry) : (s.removeEntry a e).flags = s.flags := by
  simp only [State.removeEntry]; (repeat' split) <;> simp
@[simp] theorem State.removeEntry_settings (s : State) (a : SlotAddr) (e : Entry) : (s.removeEntry a e).settings = s.settings := by
  simp only [State.removeEntry]; (repeat' split) <;> simp
@[simp] theorem State.removeEntry_articles (s : State) (a : SlotAddr) (e : Entry) : (s.removeEntry a e).articles = s.articles := by
  simp only [State.removeEntry]; (repeat' split) <;> simp
@[simp] theorem State.removeEntry_carousels (s : State) (a : SlotAddr) (e : Entry) : (s.removeEntry a e).carousels = s.carousels := by
  simp only [State.removeEntry]; (repeat' split) <;> simp
@[simp] theorem State.removeEntry_tasks (s : State) (a : SlotAddr) (e : Entry) : (s.removeEntry a e).tasks = s.tasks := by
  simp only [State.removeEntry]; (repeat' split) <;> simp
@[simp] theorem State.removeEntry_orders (s : State) (a : SlotAddr) (e : Entry) : (s.removeEntry a e).orders = s.orders := by
  simp only [State.removeEntry]; (repeat' split) <;> simp
@[simp] theorem State.removeEntry_submission (s : State) (a : SlotAddr) (e : Entry) : (s.removeEntry a e).submission = s.submission := by
  simp only [State.removeEntry]; (repeat' split) <;> simp
@[simp] theorem State.removeEntry_admissions (s : State) (a : SlotAddr) (e : Entry) : (s.removeEntry a e).admissions = s.admissions := by
  simp only [State.removeEntry]; (repeat' split) <;> simp
@[simp] theorem State.removeEntry_creations (s : State) (a : SlotAddr) (e : Entry) : (s.removeEntry a e).creations = s.creations := by
  simp only [State.removeEntry]; (repeat' split) <;> simp
@[simp] theorem State.removeEntry_picks (s : State) (a : SlotAddr) (e : Entry) : (s.removeEntry a e).picks = s.picks := by
  simp only [State.removeEntry]; (repeat' split) <;> simp
@[simp] theorem State.removeEntry_lanes (s : State) (a : SlotAddr) (e : Entry) : (s.removeEntry a e).lanes = s.lanes := by
  simp only [State.removeEntry]; (repeat' split) <;> simp
@[simp] theorem State.removeEntry_merge (s : State) (a : SlotAddr) (e : Entry) : (s.removeEntry a e).merge = s.merge := by
  simp only [State.removeEntry]; (repeat' split) <;> simp
@[simp] theorem State.removeEntry_discrepancies (s : State) (a : SlotAddr) (e : Entry) : (s.removeEntry a e).discrepancies = s.discrepancies := by
  simp only [State.removeEntry]; (repeat' split) <;> simp
@[simp] theorem State.removeEntry_links (s : State) (a : SlotAddr) (e : Entry) : (s.removeEntry a e).links = s.links := by
  simp only [State.removeEntry]; (repeat' split) <;> simp
@[simp] theorem State.removeEntry_nextTicket (s : State) (a : SlotAddr) (e : Entry) : (s.removeEntry a e).nextTicket = s.nextTicket := by
  simp only [State.removeEntry]; (repeat' split) <;> simp

end Sys2Proof.Machine
end

