-- ==== Sys2Proof/Laws/Reactions.lean ====
section
/-! SUPPORT. The reactions of the dispatcher, the windows and the audit unit leave `State.lasting` as it was: one lemma per
operation of Machine/Exchange, Work, Panel and Motion. -/

namespace Sys2Proof.Machine

/-! ### Updates that a view does not see -/

/-- Replacing an element by one with the same image leaves the images as they were. -/
theorem map_set_same {α β : Type} (g : α → β) {xs : List α} {i : Nat} {x y : α} (h : xs[i]? = some x) (hy : g y = g x) :
    (xs.set i y).map g = xs.map g := by
  apply List.ext_getElem?
  intro j
  simp only [List.getElem?_map, List.getElem?_set]
  split
  · next hij =>
    subst hij
    have : i < xs.length := (List.getElem?_eq_some_iff.mp h).1
    simp [List.getElem?_eq_getElem this] at h
    simp [this, h, hy]
  · rfl

theorem map_set_getD_same {α β : Type} (g : α → β) (f : α → α) (xs : List α) (i : Nat) (d : α) (h : ∀ x, g (f x) = g x) :
    (xs.set i (f (xs.getD i d))).map g = xs.map g := by
  cases hx : xs[i]? with
  | none => rw [List.set_eq_of_length_le (by simpa using hx)]
  | some x =>
    refine map_set_same g hx ?_
    rw [List.getD_eq_getElem?_getD, hx]
    exact h x

theorem map_map_same {α β : Type} (g : α → β) (f : α → α) (xs : List α) (h : ∀ x, g (f x) = g x) :
    (xs.map f).map g = xs.map g := by
  simp [h]

theorem carousel?_eq {s : State} {k : Nat} {c : Carousel} (h : s.carousel? k = some c) : s.carousels[k]? = some (some c) := by
  unfold State.carousel? at h
  rw [List.getD_eq_getElem?_getD] at h
  cases hx : s.carousels[k]? with
  | none => simp [hx] at h
  | some x => simp [hx] at h; rw [h]

theorem lasting_setCarousel {s : State} {k : Nat} {c d : Carousel} (h : s.carousel? k = some c) (hd : d.lasting = c.lasting) :
    (s.setCarousel k d).lasting = s.lasting := by
  unfold State.setCarousel State.lasting
  congr 1
  exact map_set_same _ (carousel?_eq h) (by simp [hd])

theorem lasting_onCarousel (s : State) (k : Nat) (f : Carousel → Carousel) (h : ∀ c, (f c).lasting = c.lasting) :
    (s.onCarousel k f).lasting = s.lasting := by
  unfold State.onCarousel
  split
  · next hc => exact lasting_setCarousel hc (h _)
  · rfl

theorem lasting_onWindow (s : State) (w : Nat) (f : Window → Window) (h : ∀ v, (f v).lasting = v.lasting) :
    (s.onWindow w f).lasting = s.lasting := by
  unfold State.onWindow State.lasting State.window
  congr 1
  exact map_set_getD_same _ f _ _ _ h

theorem lasting_onLink (s : State) (st : Nat) (f : Link → Link) (h : ∀ l, (f l).lasting = l.lasting) :
    (s.onLink st f).lasting = s.lasting := by
  unfold State.onLink State.lasting State.link
  congr 1
  exact map_set_getD_same _ f _ _ _ h

theorem lasting_mapPicks (s : State) (f : Pick → Pick) (h : ∀ p, (f p).lasting = p.lasting) :
    ({ s with picks := s.picks.map f } : State).lasting = s.lasting := by
  unfold State.lasting
  congr 1
  exact map_map_same _ f _ h

@[simp] theorem lasting_notify (s : State) (n : Notice) : (s.notify n).lasting = s.lasting := by
  unfold State.notify
  split <;> rfl

/-- A fold of operations that each leave the view as it was leaves it as it was. -/
theorem lasting_foldl {α : Type} (f : State → α → State) (h : ∀ s a, (f s a).lasting = s.lasting) (xs : List α) (s : State) :
    (xs.foldl f s).lasting = s.lasting := by
  induction xs generalizing s with
  | nil => rfl
  | cons x xs ih => simp [ih, h]

/-! ### Commands to stations -/

@[simp] theorem lasting_link_sendHead (now : Time) (l : Link) : (l.sendHead now).lasting = l.lasting := by
  unfold Link.sendHead
  split
  · split <;> rfl
  · rfl

@[simp] theorem lasting_link_handOver (now : Time) (c : Command) (l : Link) : (l.handOver now c).lasting = l.lasting := by
  unfold Link.handOver
  split
  · simp; rfl
  · rfl

@[simp] theorem lasting_handOver (s : State) (st : Nat) (c : Command) : (s.handOver st c).lasting = s.lasting :=
  lasting_onLink s st _ fun l => lasting_link_handOver s.now c l

@[simp] theorem lasting_takeReply (s : State) (st : Nat) : (s.takeReply st).lasting = s.lasting :=
  lasting_onLink s st _ fun l => by unfold Link.answered; simp; rfl

/-! ### Summaries and headers -/

@[simp] theorem lasting_refreshCarousel (s : State) (k : Nat) : (s.refreshCarousel k).lasting = s.lasting := by
  unfold State.refreshCarousel
  split
  · next hc => exact lasting_setCarousel hc rfl
  · rfl

@[simp] theorem lasting_refreshHeader (s : State) (w : Nat) : (s.refreshHeader w).lasting = s.lasting := by
  unfold State.refreshHeader
  split
  · exact lasting_onWindow s w _ fun v => rfl
  · rfl

@[simp] theorem lasting_refresh (s : State) : s.refresh.lasting = s.lasting := by
  unfold State.refresh
  rw [lasting_foldl _ lasting_refreshHeader, lasting_foldl _ lasting_refreshCarousel]

/-! ### Presentations -/

@[simp] theorem lasting_dropPresentation (s : State) (w : Nat) : (s.dropPresentation w).lasting = s.lasting :=
  lasting_onWindow s w _ fun _ => rfl

@[simp] theorem lasting_fillPresentation (s : State) (k w c : Nat) : (s.fillPresentation k w c).lasting = s.lasting := by
  refine (lasting_onCarousel _ _ _ ?_).trans ((lasting_mapPicks _ _ ?_).trans (lasting_onWindow _ _ _ ?_))
  · exact fun _ => rfl
  · intro p
    split <;> rfl
  · exact fun _ => rfl

@[simp] theorem lasting_rewriteQueue (s : State) (w i : Nat) (f : List Entry → List Entry) :
    (s.rewriteQueue w i f).lasting = s.lasting := by
  unfold State.rewriteQueue
  split
  · exact lasting_onWindow s w _ fun _ => rfl
  · rfl

@[simp] theorem lasting_joinEntry (s : State) (a : SlotAddr) (e : Entry) : (s.joinEntry a e).lasting = s.lasting := by
  unfold State.joinEntry
  split <;> simp

@[simp] theorem lasting_removeEntry (s : State) (a : SlotAddr) (e : Entry) : (s.removeEntry a e).lasting = s.lasting := by
  unfold State.removeEntry
  split <;> simp

@[simp] theorem lasting_cancelPresentation (s : State) (w : Nat) : (s.cancelPresentation w).lasting = s.lasting := by
  unfold State.cancelPresentation
  split
  · refine (lasting_dropPresentation _ _).trans (lasting_mapPicks _ _ fun p => ?_)
    split <;> rfl
  · rfl

/-! ### Measurements -/

@[simp] theorem lasting_onMeasurement (s : State) (w : Nat) (f : Measurement → Measurement) :
    (s.onMeasurement w f).lasting = s.lasting := lasting_onWindow s w _ fun _ => rfl

@[simp] theorem lasting_beginCount (s : State) (k w i q : Nat) : (s.beginCount k w i q).lasting = s.lasting := by
  refine (lasting_handOver _ _ _).trans (lasting_onWindow _ _ _ ?_)
  exact fun _ => rfl

@[simp] theorem lasting_seek (s : State) (k w c left i : Nat) : (s.seek k w c left i).1.lasting = s.lasting := by
  induction left generalizing s i with
  | zero => rfl
  | succ n ih =>
    unfold State.seek
    split
    · split <;> simp [ih]
    · rfl

@[simp] theorem lasting_seekFrom (s : State) (k w c i : Nat) : (s.seekFrom k w c i).1.lasting = s.lasting := by
  unfold State.seekFrom
  split <;> simp

@[simp] theorem lasting_startMeasurement (s : State) (k w c : Nat) : (s.startMeasurement k w c).1.lasting = s.lasting := by
  refine (lasting_seekFrom _ _ _ _ _).trans ((lasting_onWindow _ _ _ ?_).trans (lasting_onCarousel _ _ _ ?_)) <;>
    exact fun _ => rfl

@[simp] theorem lasting_dropMeasurement (s : State) (w : Nat) : (s.dropMeasurement w).lasting = s.lasting :=
  lasting_onWindow s w _ fun _ => rfl

theorem lasting_endMeasurement (s : State) (k w c : Nat) (opening : State → State)
    (h : ∀ s, (opening s).lasting = s.lasting) : (s.endMeasurement k w c opening).lasting = s.lasting := by
  unfold State.endMeasurement
  dsimp only
  split
  · split <;> simp [h]
  · simp

theorem lasting_endPresentation (s : State) (k w c : Nat) (opening : State → State)
    (h : ∀ s, (opening s).lasting = s.lasting) : (s.endPresentation k w c opening).lasting = s.lasting := by
  unfold State.endPresentation
  dsimp only
  split
  · split
    · have := lasting_startMeasurement (s.dropPresentation w) k w c
      split
      · next heq => rw [lasting_endMeasurement _ _ _ _ _ h]; rw [heq] at this; simpa using this
      · next heq => rw [heq] at this; simpa using this
    · simp
  · simp

@[simp] theorem lasting_openAt (s : State) (k w c fuel : Nat) : (s.openAt k w c fuel).lasting = s.lasting := by
  induction fuel generalizing s with
  | zero => rfl
  | succ n ih =>
    unfold State.openAt
    dsimp only
    split
    · rw [lasting_endPresentation _ _ _ _ _ ih]; simp
    · simp

@[simp] theorem lasting_openWindow (s : State) (k w : Nat) : (s.openWindow k w).lasting = s.lasting := by
  unfold State.openWindow
  split
  · split <;> simp
  · rfl

@[simp] theorem lasting_openStanding (s : State) (k : Nat) : (s.openStanding k).lasting = s.lasting :=
  lasting_foldl _ (fun s w => lasting_openWindow s k w) _ s

@[simp] theorem lasting_endPresentation_openAt (s : State) (k w c fuel : Nat) :
    (s.endPresentation k w c (State.openAt k w c fuel)).lasting = s.lasting :=
  lasting_endPresentation s k w c _ fun s => lasting_openAt s k w c fuel

@[simp] theorem lasting_endMeasurement_openAt (s : State) (k w c fuel : Nat) :
    (s.endMeasurement k w c (State.openAt k w c fuel)).lasting = s.lasting :=
  lasting_endMeasurement s k w c _ fun s => lasting_openAt s k w c fuel

/-! ### Acting on the next target -/

@[simp] theorem lasting_become (s : State) (k : Nat) (st : CarouselState) : (s.become k st).lasting = s.lasting :=
  lasting_onCarousel s k _ fun _ => rfl

@[simp] theorem lasting_raisePassed (s : State) (k c cls : Nat) : (s.raisePassed k c cls).lasting = s.lasting :=
  lasting_onCarousel s k _ fun _ => rfl

@[simp] theorem lasting_sendMove (s : State) (k c : Nat) (plan : Plan) : (s.sendMove k c plan).lasting = s.lasting := by
  unfold State.sendMove
  split
  · next hc => dsimp only; rw [lasting_handOver]; exact lasting_setCarousel hc rfl
  · rfl

@[simp] theorem lasting_suspendMove (s : State) (k c : Nat) (plan : Plan) : (s.suspendMove k c plan).lasting = s.lasting :=
  lasting_onCarousel s k _ fun _ => rfl

@[simp] theorem lasting_actOnce (s : State) (k : Nat) : (s.actOnce k).1.lasting = s.lasting := by
  unfold State.actOnce
  (repeat' split) <;> simp

@[simp] theorem lasting_act (s : State) (k fuel : Nat) : (s.act k fuel).lasting = s.lasting := by
  induction fuel generalizing s with
  | zero => rfl
  | succ n ih =>
    unfold State.act
    split
    · have := lasting_actOnce s k
      split
      · next heq => rw [heq] at this; rw [ih]; simpa using this
      · next heq => rw [heq] at this; simpa using this
    · rfl

@[simp] theorem lasting_idleAndAct (s : State) (k : Nat) : (s.idleAndAct k).lasting = s.lasting := by
  simp [State.idleAndAct]

@[simp] theorem lasting_testWindows (s : State) (k : Nat) : (s.testWindows k).lasting = s.lasting := by
  unfold State.testWindows
  split <;> simp

@[simp] theorem lasting_recompute (s : State) (k : Nat) : (s.recompute k).lasting = s.lasting := lasting_act s k _

@[simp] theorem lasting_openGained (s : State) (k : Nat) (cs : List Nat) : (s.openGained k cs).lasting = s.lasting :=
  lasting_foldl _ (fun s w => by split <;> (try split) <;> simp) _ s

@[simp] theorem lasting_gainWork (s : State) (k : Nat) (cs : List Nat) : (s.gainWork k cs).lasting = s.lasting := by
  unfold State.gainWork
  split <;> simp

@[simp] theorem lasting_testEnd (s : State) (w : Nat) : (s.testEnd w).lasting = s.lasting := by
  unfold State.testEnd
  (repeat' split) <;> simp

@[simp] theorem lasting_testEnds (s : State) : s.testEnds.lasting = s.lasting := lasting_foldl _ lasting_testEnd _ s

/-! ### Ends of moves, stops, faults, queries, interruptions -/

@[simp] theorem lasting_enterHeld (s : State) (k : Nat) : (s.enterHeld k).lasting = s.lasting := by simp [State.enterHeld]

@[simp] theorem lasting_resumeHeld (s : State) (k : Nat) : (s.resumeHeld k).lasting = s.lasting := by
  unfold State.resumeHeld
  split <;> simp

@[simp] theorem lasting_enterFault (s : State) (k : Nat) (r : MoveFaultReason) : (s.enterFault k r).lasting = s.lasting := by
  unfold State.enterFault
  split
  · next hc => rw [lasting_notify]; exact lasting_setCarousel hc rfl
  · rfl

@[simp] theorem lasting_beginStop (s : State) (k : Nat) : (s.beginStop k).lasting = s.lasting := by
  refine (lasting_handOver _ _ _).trans (lasting_onCarousel s k _ ?_)
  exact fun _ => rfl

@[simp] theorem lasting_sendPosition (s : State) (k : Nat) (p : Purpose) : (s.sendPosition k p).lasting = s.lasting := by
  refine (lasting_handOver _ _ _).trans (lasting_onCarousel s k _ ?_)
  exact fun _ => rfl

@[simp] theorem lasting_abandonQuery (s : State) (k : Nat) : (s.abandonQuery k).lasting = s.lasting := by
  refine (lasting_onLink _ _ _ ?_).trans (lasting_onCarousel s k _ ?_) <;> exact fun _ => rfl

@[simp] theorem lasting_learnPosition (s : State) (k : Nat) : (s.learnPosition k).lasting = s.lasting := by
  unfold State.learnPosition
  (repeat' split) <;> simp

@[simp] theorem lasting_joinAudit (s : State) (k c : Nat) : (s.joinAudit k c).lasting = s.lasting :=
  lasting_onCarousel s k _ fun r => by split <;> rfl

@[simp] theorem lasting_interrupt (s : State) (k w : Nat) : (s.interrupt k w).lasting = s.lasting := by
  unfold State.interrupt
  (repeat' split) <;> simp

theorem lasting_goOffline (s : State) (k : Nat) (r : Resume) :
    ((s.windowsOf k).foldl (fun s w => s.interrupt k w)
      (s.onCarousel k fun c => { c with state := .offline, resume := some r })).lasting = s.lasting := by
  rw [lasting_foldl _ fun s w => lasting_interrupt s k w]
  exact lasting_onCarousel s k _ fun _ => rfl

@[simp] theorem lasting_carouselLinkLost (s : State) (k : Nat) : (s.carouselLinkLost k).lasting = s.lasting := by
  unfold State.carouselLinkLost
  split <;> simp [lasting_goOffline]

end Sys2Proof.Machine
end

