-- ==== Sys2Proof/Laws/Allocation.lean ====
section
/-! SUPPORT. What pick allocation, lane binding, put-away and quarantine leave as it was, in the views `State.stored`,
`State.unbound` and `State.counted`: one lemma per operation of Machine/Allocate. -/

namespace Sys2Proof.Machine

/-! ### The views, each from the one before -/

theorem stored_of_lasting {s t : State} (h : s.lasting = t.lasting) : s.stored = t.stored :=
  congrArg (fun l : State => ({ l with
    carousels := l.carousels.map fun (c : Option Carousel) => c.map Carousel.stored, picks := [], creations := 0,
    orders := l.orders.map Order.stored } : State)) h

theorem unbound_of_stored {s t : State} (h : s.stored = t.stored) : s.unbound = t.unbound :=
  congrArg (fun l : State => ({ l with
    orders := l.orders.map Order.unbound, submission := [], admissions := 0,
    lanes := l.lanes.map fun (x : Option Lane) => x.map fun (y : Lane) => { y with state := .free } } : State)) h

theorem counted_of_unbound {s t : State} (h : s.unbound = t.unbound) : s.counted = t.counted :=
  congrArg (fun l : State => ({ l with
    carousels := l.carousels.map fun (c : Option Carousel) => c.map Carousel.counted, tasks := [] } : State)) h

theorem unbound_of_lasting {s t : State} (h : s.lasting = t.lasting) : s.unbound = t.unbound :=
  unbound_of_stored (stored_of_lasting h)

theorem counted_of_stored {s t : State} (h : s.stored = t.stored) : s.counted = t.counted :=
  counted_of_unbound (unbound_of_stored h)

theorem counted_of_lasting {s t : State} (h : s.lasting = t.lasting) : s.counted = t.counted :=
  counted_of_stored (stored_of_lasting h)

theorem stored_foldl {α : Type} (f : State → α → State) (h : ∀ s a, (f s a).stored = s.stored) (xs : List α) (s : State) :
    (xs.foldl f s).stored = s.stored := by
  induction xs generalizing s with
  | nil => rfl
  | cons x xs ih => simp [ih, h]

theorem counted_foldl {α : Type} (f : State → α → State) (h : ∀ s a, (f s a).counted = s.counted) (xs : List α) (s : State) :
    (xs.foldl f s).counted = s.counted := by
  induction xs generalizing s with
  | nil => rfl
  | cons x xs ih => simp [ih, h]

/-! ### Writes of a slot record -/

theorem slot?_eq {s : State} {a : SlotAddr} {x : Slot} (h : s.slot? a = some x) :
    ∃ c, s.carousel? a.carousel = some c ∧ a.carrier < c.geometry.n ∧ a.slot < c.geometry.s ∧
      c.slots[c.geometry.index a.carrier a.slot]? = some x := by
  unfold State.slot? at h
  split at h
  · next c hc =>
    split at h
    · next hlt => exact ⟨c, hc, hlt.1, hlt.2, h⟩
    · cases h
  · cases h

theorem stored_setCarousel {s : State} {k : Nat} {c d : Carousel} (h : s.carousel? k = some c)
    (hd : d.lasting.stored = c.lasting.stored) : (s.setCarousel k d).stored = s.stored := by
  have : ((s.setCarousel k d).lasting.carousels.map fun c => c.map Carousel.stored) =
      (s.lasting.carousels.map fun c => c.map Carousel.stored) := by
    simp only [State.lasting, State.setCarousel, List.map_map]
    exact map_set_same _ (carousel?_eq h) (by simp [hd])
  unfold State.stored
  rw [this]
  rfl

@[simp] theorem stored_judgeOver (s : State) (k : Nat) : (s.judgeOver k).stored = s.stored := by
  unfold State.judgeOver
  split
  · next hc =>
    dsimp only
    split
    · rfl
    · rw [stored_of_lasting (lasting_notify _ _)]
      exact stored_setCarousel hc rfl
  · rfl

theorem stored_writeSlot {s : State} {a : SlotAddr} {x new : Slot} (hx : s.slot? a = some x) (hn : new.stored = x.stored) :
    (s.writeSlot a new).stored = s.stored := by
  obtain ⟨c, hc, -, -, hi⟩ := slot?_eq hx
  unfold State.writeSlot
  rw [hc, hx]
  dsimp only
  have key : ∀ f : Figures, f.limit = c.figures.limit →
      (s.setCarousel a.carousel
        { c with slots := c.slots.set (c.geometry.index a.carrier a.slot) new, figures := f }).stored = s.stored := by
    intro f hf
    refine stored_setCarousel hc ?_
    simp only [Carousel.lasting, Carousel.stored, map_set_same Slot.stored hi hn, hf]
  split
  · exact key c.figures rfl
  · rw [stored_judgeOver]
    exact key _ rfl

theorem stored_updateSlot (s : State) (a : SlotAddr) (f : Slot → Slot) (hf : ∀ x, (f x).stored = x.stored) :
    (s.updateSlot a f).stored = s.stored := by
  unfold State.updateSlot
  split
  · next hx => exact stored_writeSlot hx (hf _)
  · rfl

theorem counted_setCarousel {s : State} {k : Nat} {c d : Carousel} (h : s.carousel? k = some c)
    (hd : d.lasting.stored.counted = c.lasting.stored.counted) : (s.setCarousel k d).counted = s.counted := by
  have : ((s.setCarousel k d).unbound.carousels.map fun c => c.map Carousel.counted) =
      (s.unbound.carousels.map fun c => c.map Carousel.counted) := by
    simp only [State.unbound, State.stored, State.lasting, State.setCarousel, List.map_map]
    exact map_set_same _ (carousel?_eq h) (by simp [hd])
  unfold State.counted
  rw [this]
  rfl

theorem counted_writeSlot {s : State} {a : SlotAddr} {x new : Slot} (hx : s.slot? a = some x) (hn : new.tyres = x.tyres) :
    (s.writeSlot a new).counted = s.counted := by
  obtain ⟨c, hc, -, -, hi⟩ := slot?_eq hx
  unfold State.writeSlot
  rw [hc, hx]
  dsimp only
  have key : ∀ f : Figures, f.limit = c.figures.limit →
      (s.setCarousel a.carousel
        { c with slots := c.slots.set (c.geometry.index a.carrier a.slot) new, figures := f }).counted = s.counted := by
    intro f hf
    refine counted_setCarousel hc ?_
    simp only [Carousel.lasting, Carousel.stored, Carousel.counted, List.map_map, hf]
    congr 1
    refine map_set_same _ hi ?_
    have ht : ∀ y : Slot, y.stored.tyres = y.tyres := fun y => by
      unfold Slot.tyres Slot.stored
      rfl
    simp [ht, hn]
  split
  · exact key c.figures rfl
  · rw [counted_of_stored (stored_judgeOver _ _)]
    exact key _ rfl

theorem counted_updateSlot (s : State) (a : SlotAddr) (f : Slot → Slot) (hf : ∀ x, (f x).tyres = x.tyres) :
    (s.updateSlot a f).counted = s.counted := by
  unfold State.updateSlot
  split
  · next hx => exact counted_writeSlot hx (hf _)
  · rfl

/-! ### Orders -/

theorem stored_onOrder (s : State) (tag : Nat) (f : Order → Order) (hf : ∀ o, (f o).stored = o.stored) :
    (s.onOrder tag f).stored = s.stored := by
  have h : (s.onOrder tag f).orders.map Order.stored = s.orders.map Order.stored := by
    unfold State.onOrder
    refine map_map_same _ _ _ fun o => ?_
    split <;> simp [hf]
  unfold State.stored
  rw [h]
  rfl

theorem map_modifyAt {α β : Type} (g : α → β) (f : α → α) (i : Nat) (xs : List α) (h : ∀ x, g (f x) = g x) :
    (modifyAt f i xs).map g = xs.map g := by
  unfold modifyAt
  split
  · next hx => exact map_set_same g hx (h _)
  · rfl

theorem stored_onLine (s : State) (tag i : Nat) (f : Line → Line) (hf : ∀ l, (f l).stored = l.stored) :
    (s.onOrder tag fun o => o.onLine i f).stored = s.stored := by
  refine stored_onOrder s tag _ fun o => ?_
  unfold Order.stored Order.onLine
  rw [map_modifyAt _ f i o.lines hf]

/-! ### Picks -/

theorem stored_picks (s : State) (ps : List Pick) : ({ s with picks := ps } : State).stored = s.stored := rfl

theorem stored_onPick (s : State) (n : Nat) (f : Pick → Pick) : (s.onPick n f).stored = s.stored := rfl

@[simp] theorem stored_createPick (s : State) (tag i : Nat) (c : PickCandidate) : (s.createPick tag i c).stored = s.stored := by
  unfold State.createPick
  dsimp only
  have h3 : ∀ (p : List Pick) (n : Nat),
      ((({ s with picks := p, creations := n } : State).updateSlot c.addr fun x =>
        { x with reserved := x.reserved + c.quantity }).onOrder tag fun o =>
          o.onLine i fun l => { l with openPicks := l.openPicks + 1 }).stored = s.stored := by
    intro p n
    refine (stored_onLine _ _ _ _ ?_).trans ((stored_updateSlot _ _ _ ?_).trans rfl) <;> exact fun _ => rfl
  split
  · rw [stored_of_lasting (lasting_joinEntry _ _ _)]
    rw [stored_onPick, stored_of_lasting (lasting_gainWork _ _ _), h3]
  · rw [stored_of_lasting (lasting_gainWork _ _ _), h3]

@[simp] theorem stored_judgeShort (s : State) (tag i : Nat) (cause : ShortCause) :
    (s.judgeShort tag i cause).stored = s.stored := by
  have h : ∀ b, (s.onOrder tag fun o => o.onLine i fun l => { l with short := b }).stored = s.stored :=
    fun b => stored_onLine s tag i _ fun _ => rfl
  unfold State.judgeShort
  dsimp only
  split
  · split
    · exact h _
    · split
      · rfl
      · exact (stored_of_lasting (lasting_notify _ _)).trans (h _)
  · rfl

@[simp] theorem stored_allocateLine (s : State) (tag i fuel : Nat) : (s.allocateLine tag i fuel).stored = s.stored := by
  induction fuel generalizing s with
  | zero => rfl
  | succ n ih =>
    unfold State.allocateLine
    (repeat' split) <;> simp [ih]

@[simp] theorem stored_allocateOrder (s : State) (tag : Nat) : (s.allocateOrder tag).stored = s.stored := by
  unfold State.allocateOrder
  split
  · exact stored_foldl _ (fun s i => stored_allocateLine s tag i _) _ s
  · rfl

@[simp] theorem stored_reallocate (s : State) (r : Reach) : (s.reallocate r).stored = s.stored :=
  stored_foldl (fun s (q : Nat × Nat) => s.allocateLine q.1 q.2 lineFuel) (fun s q => stored_allocateLine s q.1 q.2 _) _ s

@[simp] theorem stored_reallocateFor (s : State) (h : Option Holding) (n : Nat) : (s.reallocateFor h n).stored = s.stored := by
  unfold State.reallocateFor
  (repeat' split) <;> simp

@[simp] theorem stored_cancelPick (s : State) (p : Pick) : (s.cancelPick p).stored = s.stored := by
  unfold State.cancelPick
  dsimp only
  rw [stored_of_lasting (lasting_recompute _ _)]
  refine (stored_picks _ _).trans ((stored_onLine _ p.order p.line _ ?_).trans
    ((stored_of_lasting (lasting_removeEntry _ _ _)).trans (stored_updateSlot _ _ _ ?_))) <;> exact fun _ => rfl

@[simp] theorem stored_cancelOrderPicks (s : State) (tag : Nat) : (s.cancelOrderPicks tag).stored = s.stored :=
  stored_foldl _ (fun s p => stored_cancelPick s p) _ s

/-! ### Lanes -/

theorem unbound_setLaneState (s : State) (n : Nat) (st : LaneState) : (s.setLaneState n st).unbound = s.unbound := by
  have h := map_modifyAt (fun (l : Option Lane) => l.map fun (y : Lane) => ({ y with state := .free } : Lane))
    (fun l => l.map fun (y : Lane) => { y with state := st }) n s.lanes fun l => by cases l <;> rfl
  unfold State.unbound State.setLaneState
  dsimp only
  rw [h]
  rfl

@[simp] theorem lasting_notifyOrder (s : State) (tag : Nat) (o : Occasion) : (s.notifyOrder tag o).lasting = s.lasting := by
  unfold State.notifyOrder
  split <;> simp

theorem unbound_onOrder (s : State) (tag : Nat) (f : Order → Order) (hf : ∀ o, (f o).stored.unbound = o.stored.unbound) :
    (s.onOrder tag f).unbound = s.unbound := by
  have h : (s.onOrder tag f).stored.orders.map Order.unbound = s.stored.orders.map Order.unbound := by
    simp only [State.stored, State.onOrder, List.map_map]
    refine List.map_congr_left fun o _ => ?_
    simp only [Function.comp]
    split <;> simp [hf]
  unfold State.unbound
  rw [h]
  rfl

theorem unbound_queue (s : State) (ts : List Nat) (n : Nat) :
    ({ s with submission := ts, admissions := n } : State).unbound = s.unbound := rfl

@[simp] theorem unbound_bind (s : State) (tag lane : Nat) : (s.bind tag lane).unbound = s.unbound := by
  unfold State.bind
  dsimp only
  rw [unbound_of_stored (stored_allocateOrder _ _), unbound_of_lasting (lasting_notifyOrder _ _ _)]
  refine (unbound_queue _ _ _).trans ((unbound_onOrder _ _ _ ?_).trans (unbound_setLaneState _ _ _))
  exact fun _ => rfl

@[simp] theorem unbound_bindingRun (s : State) (fuel : Nat) : (s.bindingRun fuel).unbound = s.unbound := by
  induction fuel generalizing s with
  | zero => rfl
  | succ n ih =>
    unfold State.bindingRun
    split <;> simp [ih]

/-- What pick allocation leaves of an order keeps its tag, so the orders with other tags are the same ones. -/
theorem stored_orders_filter {s t : State} (h : s.stored = t.stored) (tag : Nat) :
    (s.orders.filter fun x => decide (x.tag ≠ tag)).map Order.stored =
      (t.orders.filter fun x => decide (x.tag ≠ tag)).map Order.stored := by
  have ho : s.orders.map Order.stored = t.orders.map Order.stored := congrArg State.orders h
  have hf : ∀ l : List Order, (l.filter fun x => decide (x.tag ≠ tag)).map Order.stored =
      (l.map Order.stored).filter fun x => decide (x.tag ≠ tag) := fun l => by
    rw [List.filter_map]
    rfl
  rw [hf, hf, ho]

/-- Two states that pick allocation leaves alike are left alike by lane binding once an order is taken out of both. -/
theorem unbound_filterOrders {s t : State} (h : s.stored = t.stored) (tag : Nat) (sub : List Nat) :
    ({ s with orders := s.orders.filter fun x => decide (x.tag ≠ tag), submission := sub } : State).unbound =
      ({ t with orders := t.orders.filter fun x => decide (x.tag ≠ tag) } : State).unbound := by
  have h1 := stored_orders_filter h tag
  have h2 : ∀ (u : State) (os : List Order), ({ u with orders := os } : State).unbound =
      { u.unbound with orders := (os.map Order.stored).map Order.unbound } := fun _ _ => rfl
  have h3 : ({ s with orders := s.orders.filter fun x => decide (x.tag ≠ tag), submission := sub } : State).unbound =
      ({ s with orders := s.orders.filter fun x => decide (x.tag ≠ tag) } : State).unbound := rfl
  refine h3.trans ((h2 s _).trans (Eq.trans ?_ (h2 t _).symm))
  rw [h1, unbound_of_stored h]

/-- Freeing an order takes it out of the order table (R79), and what follows is lane binding. -/
theorem unbound_freeOrder (s : State) (tag : Nat) :
    (s.freeOrder tag).unbound = ({ s with orders := s.orders.filter fun x => decide (x.tag ≠ tag) } : State).unbound := by
  unfold State.freeOrder
  split
  · dsimp only
    split
    · rw [unbound_bindingRun, unbound_setLaneState]
      exact unbound_filterOrders (stored_cancelOrderPicks s tag) tag _
    · exact unbound_filterOrders (stored_cancelOrderPicks s tag) tag _
  · next h =>
    have : s.orders.filter (fun x => decide (x.tag ≠ tag)) = s.orders :=
      List.filter_eq_self.mpr fun o ho => by
        have := List.find?_eq_none.mp h o ho
        simpa using this
    rw [this]

/-! ### Put-away targets, tasks, quarantine -/

theorem tyres_settled (x : Slot) : x.settled.tyres = x.tyres := by
  unfold Slot.settled
  split
  · next h =>
    obtain ⟨h1, h2, -⟩ := h
    simp [Slot.tyres, Slot.freeSlot, h1, h2]
  · rfl

theorem tyres_withTarget (x : Slot) (place batch q : Nat) : (x.withTarget place batch q).tyres = x.tyres := by
  unfold Slot.withTarget
  split
  · next h => simp [Slot.tyres, Slot.freeSlot, h]
  · simp [Slot.tyres]

theorem counted_onTask (s : State) (tag : Nat) (f : Task → Task) : (s.onTask tag f).counted = s.counted := rfl

@[simp] theorem counted_createTarget (s : State) (tag place batch : Nat) (c : Candidate) :
    (s.createTarget tag place batch c).counted = s.counted := by
  unfold State.createTarget
  dsimp only
  rw [counted_of_lasting (lasting_joinEntry _ _ _), counted_of_lasting (lasting_gainWork _ _ _),
    counted_updateSlot _ _ _ fun x => tyres_withTarget x _ _ _]
  rfl

@[simp] theorem counted_allocatePut (s : State) (tag place batch : Nat) (art : Article) (pref : Option Nat) (left rem : Nat) :
    (s.allocatePut tag place batch art pref left rem).counted = s.counted := by
  induction left generalizing s rem with
  | zero => rfl
  | succ n ih =>
    unfold State.allocatePut
    (repeat' split) <;> simp [ih]

@[simp] theorem counted_endTask (s : State) (tag : Nat) : (s.endTask tag).counted = s.counted := by
  unfold State.endTask
  (repeat' split) <;> first
    | rfl
    | (rw [counted_of_lasting (lasting_notify _ _)]; rfl)

@[simp] theorem counted_cancelTarget (s : State) (tag : Nat) (x : Target) (cause : CancelCause) :
    (s.cancelTarget tag x cause).counted = s.counted := by
  unfold State.cancelTarget
  dsimp only
  rw [counted_of_lasting (lasting_recompute _ _), counted_of_lasting (lasting_removeEntry _ _ _)]
  show (State.updateSlot _ _ _).counted = _
  refine counted_updateSlot _ _ _ fun x => ?_
  cases cause
  · exact tyres_settled _
  · rfl

@[simp] theorem counted_clearReservations (s : State) (a : SlotAddr) : (s.clearReservations a).counted = s.counted := by
  unfold State.clearReservations
  dsimp only
  rw [counted_foldl _ fun s q => by rw [counted_endTask, counted_cancelTarget],
    counted_foldl _ fun s p => counted_of_stored (stored_cancelPick s p)]

end Sys2Proof.Machine
end

