-- ==== Sys2Proof/Laws/Choices.lean ====
section
/-! SUPPORT. What the choice of a least element, the sort by an order and the lowest free number come to; what the creation of a
pick leaves; and that the allocation of a line does not depend on its bound. -/

namespace Sys2Proof.Machine

/-! ### Choosing and sorting -/

theorem lexPair_iff (a b : Nat × Nat) : lexPair a b = true ↔ a.1 < b.1 ∨ (a.1 = b.1 ∧ a.2 < b.2) := by simp [lexPair]

theorem leastBy_eq_none {α : Type} (before : α → α → Bool) (xs : List α) : leastBy before xs = none ↔ xs = [] := by
  cases xs <;> simp [leastBy]

/-- The least element stands in the list, no element precedes it, and it precedes every element before it in the list. -/
theorem leastBy_spec {α : Type} (before : α → α → Bool)
    (trans : ∀ a b c, before a b = true → before b c = true → before a c = true)
    (split : ∀ a b c, before a c = true → before a b = true ∨ before b c = true) (irrefl : ∀ a, before a a = false)
    {xs : List α} {x : α} (h : leastBy before xs = some x) :
    (∀ y ∈ xs, before y x = false) ∧ ∃ l r, xs = l ++ x :: r ∧ ∀ y ∈ l, before x y = true := by
  cases xs with
  | nil => simp [leastBy] at h
  | cons a as =>
    have main : ∀ (ys done : List α) (best : α), (∀ y ∈ done, before y best = false) →
        (∃ l r, done = l ++ best :: r ∧ ∀ y ∈ l, before best y = true) →
        (∀ y ∈ done ++ ys, before y (ys.foldl (fun best y => if before y best then y else best) best) = false) ∧
        ∃ l r, done ++ ys = l ++ (ys.foldl (fun best y => if before y best then y else best) best) :: r ∧
          ∀ y ∈ l, before (ys.foldl (fun best y => if before y best then y else best) best) y = true := by
      intro ys
      induction ys with
      | nil =>
        intro done best h1 h2
        rw [List.append_nil, List.foldl_nil]
        exact ⟨h1, h2⟩
      | cons b bs ih =>
        intro done best h1 h2
        have e : done ++ b :: bs = (done ++ [b]) ++ bs := by simp
        rw [e, List.foldl_cons]
        by_cases hb : before b best = true
        · rw [if_pos hb]
          refine ih (done ++ [b]) b ?_ ⟨done, [], rfl, fun y hy => ?_⟩
          · intro y hy
            rcases List.mem_append.1 hy with hy | hy
            · by_contra hc
              exact absurd (h1 y hy) (by simp [trans y b best (by simpa using hc) hb])
            · rw [List.mem_singleton.1 hy]
              exact irrefl b
          · rcases split b y best hb with hs | hs
            · exact hs
            · exact absurd hs (by simp [h1 y hy])
        · rw [if_neg hb]
          obtain ⟨l, r, hl, hbest⟩ := h2
          refine ih (done ++ [b]) best ?_ ⟨l, r ++ [b], by simp [hl], hbest⟩
          intro y hy
          rcases List.mem_append.1 hy with hy | hy
          · exact h1 y hy
          · rw [List.mem_singleton.1 hy]
            simpa using hb
    cases Option.some.inj h
    exact main as [a] a (by simp [irrefl]) ⟨[], [], rfl, by simp⟩

theorem insertBy_perm {α : Type} (before : α → α → Bool) (x : α) (xs : List α) : (insertBy before x xs).Perm (x :: xs) := by
  induction xs with
  | nil => exact .refl _
  | cons y ys ih =>
    unfold insertBy
    split
    · exact .refl _
    · exact (ih.cons y).trans (.swap x y ys)

theorem sortBy_perm {α : Type} (before : α → α → Bool) (xs : List α) : (sortBy before xs).Perm xs := by
  have main : ∀ (ys acc : List α), (ys.foldl (fun acc x => insertBy before x acc) acc).Perm (ys ++ acc) := by
    intro ys
    induction ys with
    | nil => exact fun acc => .refl _
    | cons y ys ih => exact fun acc => (ih _).trans ((List.Perm.append_left ys (insertBy_perm before y acc)).trans List.perm_middle)
  simpa [sortBy] using main xs []

theorem insertBy_pairwise {α : Type} (before : α → α → Bool)
    (trans : ∀ a b c, before a b = true → before b c = true → before a c = true) (x : α) (xs : List α)
    (total : ∀ y ∈ xs, before x y = true ∨ before y x = true) (h : xs.Pairwise fun a b => before a b = true) :
    (insertBy before x xs).Pairwise fun a b => before a b = true := by
  induction xs with
  | nil => simp [insertBy]
  | cons y ys ih =>
    obtain ⟨hy, hys⟩ := List.pairwise_cons.1 h
    unfold insertBy
    split
    · next hx =>
      refine List.pairwise_cons.2 ⟨fun z hz => ?_, h⟩
      rcases List.mem_cons.1 hz with rfl | hz
      · exact hx
      · exact trans x y z hx (hy z hz)
    · next hx =>
      refine List.pairwise_cons.2 ⟨fun z hz => ?_, ih (fun z hz => total z (List.mem_cons_of_mem _ hz)) hys⟩
      rcases List.mem_cons.1 ((insertBy_perm before x ys).subset hz) with rfl | hz
      · exact (total y (List.mem_cons_self ..)).resolve_left hx
      · exact hy z hz

/-- A sort by an order in which any two different elements of the list compare is strictly sorted. -/
theorem sortBy_pairwise {α : Type} (before : α → α → Bool)
    (trans : ∀ a b c, before a b = true → before b c = true → before a c = true) (xs : List α)
    (total : xs.Pairwise fun a b => before a b = true ∨ before b a = true) :
    (sortBy before xs).Pairwise fun a b => before a b = true := by
  have main : ∀ (ys acc : List α), (∀ a ∈ ys, ∀ b ∈ acc, before a b = true ∨ before b a = true) →
      (ys.Pairwise fun a b => before a b = true ∨ before b a = true) → (acc.Pairwise fun a b => before a b = true) →
      (ys.foldl (fun acc x => insertBy before x acc) acc).Pairwise fun a b => before a b = true := by
    intro ys
    induction ys with
    | nil => exact fun acc _ _ h => h
    | cons y ys ih =>
      intro acc h1 h2 h3
      obtain ⟨hy, hys⟩ := List.pairwise_cons.1 h2
      refine ih _ (fun a ha b hb => ?_) hys (insertBy_pairwise before trans y acc (h1 y (List.mem_cons_self ..)) h3)
      rcases List.mem_cons.1 ((insertBy_perm before y acc).subset hb) with rfl | hb
      · exact (hy a ha).symm
      · exact h1 a (List.mem_cons_of_mem _ ha) b hb
  exact main xs [] (by simp) total .nil

/-- The lowest free number among `n` from `i` is free, with fewer than `n` numbers taken, and every lower one is taken. -/
theorem lowestFree_spec (taken : List Nat) (n i : Nat) (h : (taken.filter fun x => decide (i ≤ x)).length < n) :
    lowestFree taken n i ∉ taken ∧ i ≤ lowestFree taken n i ∧ ∀ m, i ≤ m → m < lowestFree taken n i → m ∈ taken := by
  induction n generalizing i with
  | zero => exact absurd h (Nat.not_lt_zero _)
  | succ n ih =>
    unfold lowestFree
    split
    · next hi =>
      have hi : i ∈ taken := by simpa using hi
      have less : (taken.filter fun x => decide (i + 1 ≤ x)).length < (taken.filter fun x => decide (i ≤ x)).length := by
        have e : (taken.filter fun x => decide (i + 1 ≤ x)) =
            (taken.filter fun x => decide (i ≤ x)).filter fun x => decide (i + 1 ≤ x) := by
          rw [List.filter_filter]
          congr 1
          funext x
          by_cases hx : i + 1 ≤ x
          · simp [hx, Nat.le_of_succ_le hx]
          · simp [hx]
        rw [e]
        exact List.length_filter_lt_length_iff_exists.2 ⟨i, by simp [hi], by simp⟩
      obtain ⟨h1, h2, h3⟩ := ih (i + 1) (by omega)
      refine ⟨h1, by omega, fun m hm hlt => ?_⟩
      by_cases e : m = i
      · exact e ▸ hi
      · exact h3 m (by omega) hlt
    · next hi => exact ⟨by simpa using hi, Nat.le_refl _, fun m hm hlt => absurd hlt (by omega)⟩

/-! ### Slot addresses and candidates, lowest address first -/

theorem slotAddrs_pairwise (s : State) : s.slotAddrs.Pairwise addrBelow := by
  unfold State.slotAddrs State.configuredCarousels
  refine List.pairwise_flatMap.2 ⟨fun k _ => ?_, ?_⟩
  · split
    · refine List.pairwise_flatMap.2 ⟨fun i _ => ?_, ?_⟩
      · refine List.pairwise_map.2 (List.pairwise_lt_range.imp fun h => .inr ⟨rfl, .inr ⟨rfl, h⟩⟩)
      · refine List.pairwise_lt_range.imp fun h x hx y hy => ?_
        obtain ⟨_, _, rfl⟩ := List.mem_map.1 hx
        obtain ⟨_, _, rfl⟩ := List.mem_map.1 hy
        exact .inr ⟨rfl, .inl h⟩
    · exact .nil
  · refine (List.pairwise_lt_range.filter _).imp fun {k k'} h x hx y hy => .inl ?_
    have car : ∀ k z, z ∈ (match s.carousel? k with
      | some c => (List.range c.geometry.n).flatMap fun i => (List.range c.geometry.s).map fun j => (⟨k, i, j⟩ : SlotAddr)
      | none => []) → z.carousel = k := by
      intro k z hz
      split at hz
      · obtain ⟨i, _, hz⟩ := List.mem_flatMap.1 hz
        obtain ⟨j, _, rfl⟩ := List.mem_map.1 hz
        rfl
      · exact absurd hz (by simp)
    rw [car k x hx, car k' y hy]; exact h

theorem mem_slotAddrs (s : State) (a : SlotAddr) : a ∈ s.slotAddrs ↔
    a.carousel < 4 ∧ ∃ c, s.carousel? a.carousel = some c ∧ a.carrier < c.geometry.n ∧ a.slot < c.geometry.s := by
  unfold State.slotAddrs State.configuredCarousels
  simp only [List.mem_flatMap, List.mem_filter, List.mem_range]
  constructor
  · rintro ⟨k, ⟨hk, _⟩, h⟩
    split at h
    · next c hc =>
      obtain ⟨i, hi, h⟩ := List.mem_flatMap.1 h
      obtain ⟨j, hj, rfl⟩ := List.mem_map.1 h
      exact ⟨hk, c, hc, by simpa using hi, by simpa using hj⟩
    · exact absurd h (by simp)
  · rintro ⟨hk, c, hc, hi, hj⟩
    refine ⟨a.carousel, ⟨hk, by simp [hc]⟩, ?_⟩
    simp only [hc]
    exact List.mem_flatMap.2 ⟨a.carrier, by simpa using hi, List.mem_map.2 ⟨a.slot, by simpa using hj, rfl⟩⟩

theorem pickCandidates_pairwise (s : State) (tag i : Nat) (l : Line) :
    (s.pickCandidates tag i l).Pairwise fun a b => addrBelow a.addr b.addr := by
  unfold State.pickCandidates
  refine (slotAddrs_pairwise s).filterMap _ ?_
  intro a b hab c hc d hd
  have e1 : c.addr = a := by
    (repeat' split at hc) <;> first | cases hc | skip
    dsimp only at hc; split at hc <;> cases hc; rfl
  have e2 : d.addr = b := by
    (repeat' split at hd) <;> first | cases hd | skip
    dsimp only at hd; split at hd <;> cases hd; rfl
  rw [e1, e2]
  exact hab

theorem putCandidates_pairwise (s : State) (place batch : Nat) (art : Article) (pref : Option Nat) (remaining : Nat) (t : Tier) :
    (s.putCandidates place batch art pref remaining t).Pairwise fun a b => addrBelow a.addr b.addr := by
  unfold State.putCandidates
  refine (slotAddrs_pairwise s).filterMap _ ?_
  intro a b hab c hc d hd
  have e1 : c.addr = a := by
    (repeat' split at hc) <;> first | cases hc | skip
    dsimp only at hc; split at hc <;> cases hc; rfl
  have e2 : d.addr = b := by
    (repeat' split at hd) <;> first | cases hd | skip
    dsimp only at hd; split at hd <;> cases hd; rfl
  rw [e1, e2]
  exact hab

/-! ### Slots, lines and picks as the lasting view has them -/

theorem slot?_lasting (s : State) (a : SlotAddr) : s.lasting.slot? a = s.slot? a := by
  unfold State.slot? State.carousel? State.lasting
  simp only [List.getD_eq_getElem?_getD, List.getElem?_map]
  cases s.carousels[a.carousel]? with
  | none => rfl
  | some c => cases c <;> rfl

theorem slot?_of_lasting {s t : State} (h : s.lasting = t.lasting) (a : SlotAddr) : s.slot? a = t.slot? a := by
  rw [← slot?_lasting s, h, slot?_lasting]

theorem line?_of_lasting {s t : State} (h : s.lasting = t.lasting) (tag i : Nat) : s.line? tag i = t.line? tag i :=
  show s.lasting.line? tag i = _ from by rw [h]; rfl

theorem slot?_writeSlot {s : State} {a : SlotAddr} {x : Slot} (h : s.slot? a = some x) (new : Slot) :
    (s.writeSlot a new).slot? a = some new := by
  obtain ⟨c, hc, h1, h2, hi⟩ := slot?_eq h
  have hlt : a.carousel < s.carousels.length := by
    by_contra hn
    simp [State.carousel?, List.getD_eq_getElem?_getD, List.getElem?_eq_none (Nat.le_of_not_lt hn)] at hc
  have hg : ∀ d : Carousel, (s.setCarousel a.carousel d).carousel? a.carousel = some d := fun d => by
    simp [State.carousel?, State.setCarousel, List.getD_eq_getElem?_getD, hlt]
  have hs : ∀ f : Figures, (s.setCarousel a.carousel
      { c with slots := c.slots.set (c.geometry.index a.carrier a.slot) new, figures := f }).slot? a = some new := fun f => by
    unfold State.slot?
    rw [hg]
    have := (List.getElem?_eq_some_iff.1 hi).1
    simp [h1, h2, this]
  unfold State.writeSlot
  rw [hc, h]
  dsimp only
  split
  · exact hs _
  · unfold State.judgeOver
    rw [hg]
    dsimp only
    split
    · exact hs _
    · rw [slot?_of_lasting (lasting_notify _ _)]
      unfold State.slot?
      simp only [State.carousel?, State.setCarousel, List.getD_eq_getElem?_getD]
      have := (List.getElem?_eq_some_iff.1 hi).1
      simp [hlt, h1, h2, this]

theorem slot?_updateSlot {s : State} {a : SlotAddr} {x : Slot} (h : s.slot? a = some x) (f : Slot → Slot) :
    (s.updateSlot a f).slot? a = some (f x) := by
  unfold State.updateSlot
  rw [h]
  exact slot?_writeSlot h _

theorem line?_onLine {s : State} {tag i : Nat} {l : Line} (h : s.line? tag i = some l) (f : Line → Line) :
    (s.onOrder tag fun o => o.onLine i f).line? tag i = some (f l) := by
  unfold State.line? State.order? at h ⊢
  have e : (s.onOrder tag fun o => o.onLine i f).orders.find? (fun o => o.tag == tag) =
      (s.orders.find? fun o => o.tag == tag).map fun o => o.onLine i f := by
    unfold State.onOrder
    simp only [List.find?_map]
    have : ((fun o : Order => o.tag == tag) ∘ fun o => if o.tag = tag then o.onLine i f else o) = fun o => o.tag == tag := by
      funext o
      simp only [Function.comp]
      split <;> rfl
    rw [this]
    cases hq : s.orders.find? fun o => o.tag == tag with
    | none => rfl
    | some o =>
      have := List.find?_some hq
      simp only [Option.map_some]
      rw [if_pos (by simpa using this)]
  rw [e]
  cases hq : s.orders.find? fun o => o.tag == tag with
  | none => simp [hq] at h
  | some o =>
    simp only [hq] at h
    simp only [Option.map_some, Order.onLine, modifyAt, h]
    have := (List.getElem?_eq_some_iff.1 h).1
    simp [this]

/-! ### Creating a pick and allocating a line -/

/-- A write of a slot leaves orders, picks and the creation count as they were. -/
theorem updateSlot_orders (s : State) (a : SlotAddr) (f : Slot → Slot) :
    (s.updateSlot a f).orders = s.orders ∧ (s.updateSlot a f).picks = s.picks ∧ (s.updateSlot a f).creations = s.creations := by
  unfold State.updateSlot State.writeSlot State.judgeOver State.notify
  dsimp only
  (repeat' split) <;> exact ⟨rfl, rfl, rfl⟩

/-- The creation of a pick (R65), in one lemma: the lasting view of what it leaves. -/
theorem lasting_createPick (s : State) (tag i : Nat) (c : PickCandidate) :
    let number := lowestFree (s.picks.map (·.number)) 256 0
    (s.createPick tag i c).lasting = ((({ s with
      picks := insertBy (fun x y => decide (x.number < y.number))
        { number := number, order := tag, line := i, addr := c.addr, quantity := c.quantity, presented := false,
          seq := s.creations } s.picks,
      creations := countUp 4294967295 s.creations } : State).updateSlot c.addr fun slot =>
        { slot with reserved := slot.reserved + c.quantity }).onOrder tag fun o =>
          o.onLine i fun l => { l with openPicks := l.openPicks + 1 }).lasting := by
  intro number
  unfold State.createPick
  dsimp only
  split
  · rw [lasting_joinEntry]
    refine (lasting_mapPicks _ _ fun p => ?_).trans (lasting_gainWork _ _ _)
    split <;> rfl
  · exact lasting_gainWork _ _ _

theorem slot?_createPick {s : State} {c : PickCandidate} {x : Slot} (tag i : Nat) (h : s.slot? c.addr = some x) :
    (s.createPick tag i c).slot? c.addr = some { x with reserved := x.reserved + c.quantity } := by
  rw [slot?_of_lasting (lasting_createPick s tag i c)]
  have e : ∀ (t : State) (f : Order → Order), (t.onOrder tag f).slot? c.addr = t.slot? c.addr := fun _ _ => rfl
  rw [e, slot?_updateSlot (x := x)]
  exact h

theorem line?_createPick {s : State} {tag i : Nat} {l : Line} (c : PickCandidate) (h : s.line? tag i = some l) :
    (s.createPick tag i c).line? tag i = some { l with openPicks := l.openPicks + 1 } := by
  rw [line?_of_lasting (lasting_createPick s tag i c)]
  refine line?_onLine (l := l) ?_ _
  unfold State.line? State.order?
  rw [(updateSlot_orders _ _ _).1]
  exact h

theorem creations_createPick (s : State) (tag i : Nat) (c : PickCandidate) :
    (s.createPick tag i c).creations = countUp 4294967295 s.creations := by
  have e : ∀ t : State, t.creations = t.lasting.creations := fun _ => rfl
  rw [e, lasting_createPick, ← e]
  have e2 : ∀ (t : State) (f : Order → Order), (t.onOrder tag f).creations = t.creations := fun _ _ => rfl
  rw [e2, (updateSlot_orders _ _ _).2.2]

theorem picks_createPick (s : State) (tag i : Nat) (c : PickCandidate) :
    ((s.createPick tag i c).picks.map Pick.lasting).Perm
      ({ number := lowestFree (s.picks.map (·.number)) 256 0, order := tag, line := i, addr := c.addr, quantity := c.quantity,
         presented := false, seq := s.creations } :: s.picks.map Pick.lasting) := by
  have e : ∀ t : State, t.picks.map Pick.lasting = t.lasting.picks := fun _ => rfl
  rw [e, lasting_createPick, ← e]
  have e2 : ∀ (t : State) (f : Order → Order), (t.onOrder tag f).picks = t.picks := fun _ _ => rfl
  rw [e2, (updateSlot_orders _ _ _).2.1]
  exact (insertBy_perm _ _ _).map Pick.lasting

/-- The bound of a line's allocation does not show: from 5 less the open picks on, one more changes nothing (R59, R66). -/
theorem allocateLine_bound (tag i n : Nat) {s : State} {l : Line} (h : s.line? tag i = some l) (hn : 4 ≤ l.openPicks + n) :
    s.allocateLine tag i (n + 1) = s.allocateLine tag i (n + 2) := by
  induction n generalizing s l with
  | zero =>
    unfold State.allocateLine
    simp only [h]
    have : Config.picksPerLine ≤ l.openPicks := hn
    simp [this]
  | succ n ih =>
    rw [State.allocateLine, State.allocateLine]
    simp only [h]
    split
    · rfl
    · split
      · rfl
      · split
        · rfl
        · split
          · rfl
          · next c _ => exact ih (line?_createPick c h) (by show 4 ≤ l.openPicks + 1 + n; omega)

/-- The allocation of a line that takes a candidate goes on with the bound renewed (R66). -/
theorem allocateLine_next (tag i : Nat) {s : State} {l : Line} {c : PickCandidate} (h : s.line? tag i = some l)
    (hu : s.unallocated tag i l ≠ 0) (ho : l.openPicks < 4) (hp : s.picks.length < 256) (hc : s.choosePick tag i l = some c) :
    s.allocateLine tag i lineFuel = (s.createPick tag i c).allocateLine tag i lineFuel := by
  have e : s.allocateLine tag i lineFuel = (s.createPick tag i c).allocateLine tag i 5 := by
    rw [lineFuel, State.allocateLine]
    simp only [h]
    rw [if_neg hu, if_neg (by show ¬4 ≤ _; omega), if_neg (by show ¬256 ≤ _; omega), hc]
  rw [e]
  exact allocateLine_bound tag i 4 (line?_createPick c h) (by show 4 ≤ l.openPicks + 1 + 4; omega)

end Sys2Proof.Machine
end

