-- ==== Sys2Proof/Laws/Line.lean ====
section
/-! SUPPORT. What a request of the host line comes to when the line is free (R186 to R188), and what its reply leaves as it
was. -/

namespace Sys2Proof.Machine

/-- What an answer of the owning block comes to. -/
def Answer.outcome : Answer → State
  | .reply s r b => s.replied r b
  | .wait s e => (s.awaitExchange e).transmit

/-- The state that an answer leaves, the reply not yet formed. -/
def Answer.state : Answer → State
  | .reply s _ _ => s
  | .wait s _ => s

/-- A request on a free line with a tag other than 0 is answered by its owner at once. -/
theorem request_lineFree {s : State} (h : s.lineFree) {kind tag : Nat} (ht : tag ≠ 0) (i : Instr) (owner : State → Answer) :
    s.request kind tag i owner = (owner (s.take kind tag)).outcome := by
  unfold State.request State.handle
  rw [if_pos (show s.line.progress = none ∧ s.line.buffer = [] from h), if_neg ht]
  cases hq : owner (s.take kind tag) <;> simp [Answer.outcome, State.replied]

/-- A request with tag 0 on a free line is refused BAD_FIELD (R187). -/
theorem request_tagZero {s : State} (h : s.lineFree) (kind : Nat) (i : Instr) (owner : State → Answer) :
    s.request kind 0 i owner = s.answered kind 0 .badField .none := by
  unfold State.request State.handle
  rw [if_pos (show s.line.progress = none ∧ s.line.buffer = [] from h), if_pos rfl]
  rfl

/-- A request that comes to a line that is not free waits in the receive buffer (R186). -/
theorem request_busy {s : State} (h : ¬s.lineFree) (kind tag : Nat) (i : Instr) (owner : State → Answer) :
    s.request kind tag i owner = (s.arrive { kind := kind, tag := tag, payload := .request i }).transmit := if_neg h

/-- With no request in progress the oldest waiting frame is taken (R186). -/
theorem serve_taken {s : State} {f : Frame} {rest : List Frame} (h : s.line.progress = none) (hb : s.line.buffer = f :: rest) :
    s.serve = (s.handle f.kind f.tag (ownerOf f.instr)).transmit := by
  simp [State.serve, h, hb]

/-- While a request is in progress no frame is taken (R186). -/
theorem serve_busy {s : State} (h : s.line.progress ≠ none) : s.serve = s := by
  unfold State.serve
  split
  · next hp _ => exact absurd hp h
  · rfl

/-- A request of a kind without payload has that kind and the frame's tag (section 10.4). -/
theorem bareRequest_request? {kind tag : Nat} {i : Instr} (h : bareRequest kind tag = some i) : i.request? = some (kind, tag) := by
  unfold bareRequest at h
  split at h <;> cases h <;> rfl

/-- The request that a frame spells has the frame's kind and tag, whatever the bytes of its payload spell (R187). -/
theorem readRequest_request? (kind tag : Nat) (payload : List Byte) :
    (readRequest kind tag payload).request? = some (kind, tag) := by
  unfold readRequest
  split
  · next i h =>
    split
    · exact bareRequest_request? h
    · rfl
  · split
    · split
      · assumption
      · rfl
    · rfl

/-! ### What taking frames keeps

A property that a change of the host line keeps, no longer a receive buffer arising by it, and that every owning rule keeps, is
kept by the taking of a request or of a waiting frame. -/

/-- The property is kept by a change of the host line that leaves the receive buffer no longer than it was. -/
def LineKeeps (P : State → Prop) : Prop :=
  ∀ (s : State) (l : HostLine), l.buffer.length ≤ s.line.buffer.length → P s → P { s with line := l }

/-- The property is kept by every owning rule. -/
def OwnersKeep (P : State → Prop) : Prop := ∀ (i : Instr) (s : State), P s → P (ownerOf i s).state

theorem transmit_keeps {P : State → Prop} (hl : LineKeeps P) {s : State} (hs : P s) : P s.transmit := by
  refine hl _ _ (le_of_eq ?_) hs
  unfold HostLine.choose
  (repeat' split) <;> rfl

theorem formReply_keeps {P : State → Prop} (hl : LineKeeps P) {s : State} (r : Result) (b : ReplyBody) (hs : P s) :
    P (s.formReply r b) := by
  unfold State.formReply
  split
  · exact hl _ _ (le_refl _) hs
  · exact hs

theorem handle_keeps {P : State → Prop} (hl : LineKeeps P) {owner : State → Answer} (ho : ∀ s, P s → P (owner s).state)
    {s : State} (kind tag : Nat) (hs : P s) : P (s.handle kind tag owner) := by
  have h1 : P (s.take kind tag) := hl _ _ (by simp) hs
  have h2 := ho _ h1
  unfold State.handle
  split
  · exact formReply_keeps hl _ _ h1
  · cases hq : owner (s.take kind tag) <;> rw [hq] at h2
    · exact formReply_keeps hl _ _ h2
    · exact hl _ _ (le_refl _) h2

theorem serve_keeps {P : State → Prop} (hl : LineKeeps P) (ho : OwnersKeep P) {s : State} (hs : P s) : P s.serve := by
  unfold State.serve
  split
  · exact transmit_keeps hl (handle_keeps hl (ho _) _ _ hs)
  · exact hs

theorem receive_keeps {P : State → Prop} (hl : LineKeeps P) (ho : OwnersKeep P) (ha : ∀ s f, P s → P (s.arrive f))
    {s : State} (b : Byte) (hs : P s) : P (s.receive b) := by
  unfold State.receive
  dsimp only
  split
  · exact serve_keeps hl ho (ha _ _ (hl _ _ (le_refl _) hs))
  · exact hl _ _ (le_refl _) hs

theorem sent_keeps {P : State → Prop} (hl : LineKeeps P) (ho : OwnersKeep P) {s : State} (f : SentFrame) (hs : P s) :
    P (s.sent f) := by
  unfold State.sent
  split
  · exact transmit_keeps hl (serve_keeps hl ho (hl _ _ (le_refl _) hs))
  · exact transmit_keeps hl (hl _ _ (le_refl _) hs)

end Sys2Proof.Machine
end

