-- ==== Sys2Proof/Laws/Merge.lean ====
section
/-! SUPPORT. What a grant leaves as it was, and the rank that a newly configured window draws. -/

namespace Sys2Proof.Machine

/-- A grant forms a transfer record and sends DIVERT: nothing else lasting changes (R138). -/
theorem lasting_testGrant (s : State) (m : Merge) :
    ({ s.testGrant.lasting with merge := m } : State) = { s.lasting with merge := m } := by
  unfold State.testGrant State.startTransfer State.divert
  (repeat' split) <;> first
    | rfl
    | (rw [lasting_handOver]; rfl)

/-- The other windows are at most seven, so some rank, 0 to 7, is open to a window (R137). -/
theorem openRanks_ne_nil (s : State) {w : Nat} (hw : w < 8) : s.openRanks w ≠ [] := by
  intro h
  unfold State.openRanks at h
  rw [List.filter_eq_nil_iff] at h
  have holder : ∀ r ∈ Finset.range 8, ∃ v ∈ (Finset.range 8).erase w, (s.window v).rank = some r := by
    intro r hr
    have hr' := h r (by simpa using hr)
    simp [State.configuredWindows] at hr'
    obtain ⟨v, hv⟩ := hr'
    exact ⟨v, by simp; tauto, by tauto⟩
  choose! f hf using holder
  obtain ⟨x, hx, y, hy, hxy, e⟩ := Finset.exists_ne_map_eq_of_card_lt_of_maps_to
    (by rw [Finset.card_erase_of_mem (by simpa using hw)]; simp) (fun r hr => (hf r hr).1)
  have hr := (hf x hx).2
  rw [e, (hf y hy).2] at hr
  exact hxy (Option.some.inj hr).symm

/-- The rank drawn is one of the open ranks, whatever the free value is (R137; notes/assumptions/17). -/
theorem drawRank_mem (s : State) {w : Nat} (hw : w < 8) : s.drawRank w ∈ s.openRanks w := by
  have h := Nat.mod_lt (Config.firstRank s.draws) (List.length_pos_iff.mpr (openRanks_ne_nil s hw))
  unfold State.drawRank
  rw [List.getD_eq_getElem _ _ h]
  exact List.getElem_mem h

/-- The rank drawn is one of 0 to 7, and no other configured window has it (R137). -/
theorem drawRank_spec (s : State) {w : Nat} (hw : w < 8) : s.drawRank w < 8 ∧
    ∀ v, v < 8 → v ≠ w → (s.window v).assigned.isSome = true → (s.window v).rank ≠ some (s.drawRank w) := by
  have h := drawRank_mem s hw
  unfold State.openRanks at h
  rw [List.mem_filter] at h
  refine ⟨by simpa using h.1, fun v hv hvw ha hr => ?_⟩
  have hfree := h.2
  simp [State.configuredWindows] at hfree
  exact hfree v hv ha hvw (by simpa using hr)

end Sys2Proof.Machine
end

