-- ==== Sys2Proof/Laws/Outer.lean ====
section
/-! SUPPORT. The outer frame: the queue of commands, the article table, the settings, the next ticket, and the numbers of
carousels, windows, lanes and links. Of everything that the blocks do among themselves nothing writes it; of the commands only
those named in notes/FILES.md's row of this file do. -/

namespace Sys2Proof.Machine

/-- Queue of commands, article table, settings, next ticket, numbers of carousels, windows, lanes, links. -/
def State.outer (s : State) : List Instr × List (Nat × Article) × Settings × Nat × Nat × Nat × Nat × Nat :=
  (s.pending, s.articles, s.settings, s.nextTicket, s.carousels.length, s.windows.length, s.lanes.length, s.links.length)

theorem outer_of_counted {s t : State} (h : s.counted = t.counted) : s.outer = t.outer := by
  have h1 : s.counted.pending = t.counted.pending := congrArg (fun x : State => x.pending) h
  have h2 : s.counted.articles = t.counted.articles := congrArg (fun x : State => x.articles) h
  have h3 : s.counted.settings = t.counted.settings := congrArg (fun x : State => x.settings) h
  have h4 : s.counted.nextTicket = t.counted.nextTicket := congrArg (fun x : State => x.nextTicket) h
  have h5 := congrArg (fun x : State => x.carousels.length) h
  have h6 := congrArg (fun x : State => x.windows.length) h
  have h7 := congrArg (fun x : State => x.lanes.length) h
  have h8 := congrArg (fun x : State => x.links.length) h
  simp only [State.counted, State.unbound, State.stored, State.lasting, List.length_map] at h1 h2 h3 h4 h5 h6 h7 h8
  simp only [State.outer, h1, h2, h3, h4, h5, h6, h7, h8]

theorem outer_of_lasting {s t : State} (h : s.lasting = t.lasting) : s.outer = t.outer := outer_of_counted (counted_of_lasting h)
theorem outer_of_stored {s t : State} (h : s.stored = t.stored) : s.outer = t.outer := outer_of_counted (counted_of_stored h)
theorem outer_of_unbound {s t : State} (h : s.unbound = t.unbound) : s.outer = t.outer := outer_of_counted (counted_of_unbound h)

theorem outer_foldl {α : Type} (f : State → α → State) (h : ∀ s a, (f s a).outer = s.outer) (xs : List α) (s : State) :
    (xs.foldl f s).outer = s.outer := by
  induction xs generalizing s with
  | nil => rfl
  | cons x xs ih => simp [ih, h]

/-! ### Operations that a view leaves as it was -/

@[simp] theorem outer_notify (s : State) (n : Notice) : (s.notify n).outer = s.outer := outer_of_lasting (lasting_notify ..)
@[simp] theorem outer_handOver (s : State) (st : Nat) (c : Command) : (s.handOver st c).outer = s.outer :=
  outer_of_lasting (lasting_handOver ..)
@[simp] theorem outer_takeReply (s : State) (st : Nat) : (s.takeReply st).outer = s.outer :=
  outer_of_lasting (lasting_takeReply ..)
@[simp] theorem outer_refreshCarousel (s : State) (k : Nat) : (s.refreshCarousel k).outer = s.outer :=
  outer_of_lasting (lasting_refreshCarousel ..)
@[simp] theorem outer_refreshHeader (s : State) (w : Nat) : (s.refreshHeader w).outer = s.outer :=
  outer_of_lasting (lasting_refreshHeader ..)
@[simp] theorem outer_refresh (s : State) : s.refresh.outer = s.outer := outer_of_lasting (lasting_refresh ..)
@[simp] theorem outer_dropPresentation (s : State) (w : Nat) : (s.dropPresentation w).outer = s.outer :=
  outer_of_lasting (lasting_dropPresentation ..)
@[simp] theorem outer_fillPresentation (s : State) (k w c : Nat) : (s.fillPresentation k w c).outer = s.outer :=
  outer_of_lasting (lasting_fillPresentation ..)
@[simp] theorem outer_rewriteQueue (s : State) (w i : Nat) (f : List Entry → List Entry) : (s.rewriteQueue w i f).outer = s.outer :=
  outer_of_lasting (lasting_rewriteQueue ..)
@[simp] theorem outer_joinEntry (s : State) (a : SlotAddr) (e : Entry) : (s.joinEntry a e).outer = s.outer :=
  outer_of_lasting (lasting_joinEntry ..)
@[simp] theorem outer_removeEntry (s : State) (a : SlotAddr) (e : Entry) : (s.removeEntry a e).outer = s.outer :=
  outer_of_lasting (lasting_removeEntry ..)
@[simp] theorem outer_cancelPresentation (s : State) (w : Nat) : (s.cancelPresentation w).outer = s.outer :=
  outer_of_lasting (lasting_cancelPresentation ..)
@[simp] theorem outer_onMeasurement (s : State) (w : Nat) (f : Measurement → Measurement) : (s.onMeasurement w f).outer = s.outer :=
  outer_of_lasting (lasting_onMeasurement ..)
@[simp] theorem outer_beginCount (s : State) (k w i q : Nat) : (s.beginCount k w i q).outer = s.outer :=
  outer_of_lasting (lasting_beginCount ..)
@[simp] theorem outer_seek (s : State) (k w c left i : Nat) : (s.seek k w c left i).1.outer = s.outer :=
  outer_of_lasting (lasting_seek ..)
@[simp] theorem outer_seekFrom (s : State) (k w c i : Nat) : (s.seekFrom k w c i).1.outer = s.outer :=
  outer_of_lasting (lasting_seekFrom ..)
@[simp] theorem outer_startMeasurement (s : State) (k w c : Nat) : (s.startMeasurement k w c).1.outer = s.outer :=
  outer_of_lasting (lasting_startMeasurement ..)
@[simp] theorem outer_dropMeasurement (s : State) (w : Nat) : (s.dropMeasurement w).outer = s.outer :=
  outer_of_lasting (lasting_dropMeasurement ..)
@[simp] theorem outer_openAt (s : State) (k w c fuel : Nat) : (s.openAt k w c fuel).outer = s.outer :=
  outer_of_lasting (lasting_openAt ..)
@[simp] theorem outer_openWindow (s : State) (k w : Nat) : (s.openWindow k w).outer = s.outer :=
  outer_of_lasting (lasting_openWindow ..)
@[simp] theorem outer_openStanding (s : State) (k : Nat) : (s.openStanding k).outer = s.outer :=
  outer_of_lasting (lasting_openStanding ..)
@[simp] theorem outer_endPresentation_openAt (s : State) (k w c fuel : Nat) : (s.endPresentation k w c (State.openAt k w c fuel)).outer = s.outer :=
  outer_of_lasting (lasting_endPresentation_openAt ..)
@[simp] theorem outer_endMeasurement_openAt (s : State) (k w c fuel : Nat) : (s.endMeasurement k w c (State.openAt k w c fuel)).outer = s.outer :=
  outer_of_lasting (lasting_endMeasurement_openAt ..)
@[simp] theorem outer_become (s : State) (k : Nat) (st : CarouselState) : (s.become k st).outer = s.outer :=
  outer_of_lasting (lasting_become ..)
@[simp] theorem outer_raisePassed (s : State) (k c cls : Nat) : (s.raisePassed k c cls).outer = s.outer :=
  outer_of_lasting (lasting_raisePassed ..)
@[simp] theorem outer_sendMove (s : State) (k c : Nat) (plan : Plan) : (s.sendMove k c plan).outer = s.outer :=
  outer_of_lasting (lasting_sendMove ..)
@[simp] theorem outer_suspendMove (s : State) (k c : Nat) (plan : Plan) : (s.suspendMove k c plan).outer = s.outer :=
  outer_of_lasting (lasting_suspendMove ..)
@[simp] theorem outer_actOnce (s : State) (k : Nat) : (s.actOnce k).1.outer = s.outer := outer_of_lasting (lasting_actOnce ..)
@[simp] theorem outer_act (s : State) (k fuel : Nat) : (s.act k fuel).outer = s.outer := outer_of_lasting (lasting_act ..)
@[simp] theorem outer_idleAndAct (s : State) (k : Nat) : (s.idleAndAct k).outer = s.outer :=
  outer_of_lasting (lasting_idleAndAct ..)
@[simp] theorem outer_testWindows (s : State) (k : Nat) : (s.testWindows k).outer = s.outer :=
  outer_of_lasting (lasting_testWindows ..)
@[simp] theorem outer_recompute (s : State) (k : Nat) : (s.recompute k).outer = s.outer :=
  outer_of_lasting (lasting_recompute ..)
@[simp] theorem outer_gainWork (s : State) (k : Nat) (cs : List Nat) : (s.gainWork k cs).outer = s.outer :=
  outer_of_lasting (lasting_gainWork ..)
@[simp] theorem outer_testEnd (s : State) (w : Nat) : (s.testEnd w).outer = s.outer := outer_of_lasting (lasting_testEnd ..)
@[simp] theorem outer_testEnds (s : State) : s.testEnds.outer = s.outer := outer_of_lasting (lasting_testEnds ..)
@[simp] theorem outer_enterHeld (s : State) (k : Nat) : (s.enterHeld k).outer = s.outer :=
  outer_of_lasting (lasting_enterHeld ..)
@[simp] theorem outer_resumeHeld (s : State) (k : Nat) : (s.resumeHeld k).outer = s.outer :=
  outer_of_lasting (lasting_resumeHeld ..)
@[simp] theorem outer_enterFault (s : State) (k : Nat) (r : MoveFaultReason) : (s.enterFault k r).outer = s.outer :=
  outer_of_lasting (lasting_enterFault ..)
@[simp] theorem outer_beginStop (s : State) (k : Nat) : (s.beginStop k).outer = s.outer :=
  outer_of_lasting (lasting_beginStop ..)
@[simp] theorem outer_sendPosition (s : State) (k : Nat) (p : Purpose) : (s.sendPosition k p).outer = s.outer :=
  outer_of_lasting (lasting_sendPosition ..)
@[simp] theorem outer_abandonQuery (s : State) (k : Nat) : (s.abandonQuery k).outer = s.outer :=
  outer_of_lasting (lasting_abandonQuery ..)
@[simp] theorem outer_learnPosition (s : State) (k : Nat) : (s.learnPosition k).outer = s.outer :=
  outer_of_lasting (lasting_learnPosition ..)
@[simp] theorem outer_joinAudit (s : State) (k c : Nat) : (s.joinAudit k c).outer = s.outer :=
  outer_of_lasting (lasting_joinAudit ..)
@[simp] theorem outer_interrupt (s : State) (k w : Nat) : (s.interrupt k w).outer = s.outer :=
  outer_of_lasting (lasting_interrupt ..)
@[simp] theorem outer_carouselLinkLost (s : State) (k : Nat) : (s.carouselLinkLost k).outer = s.outer :=
  outer_of_lasting (lasting_carouselLinkLost ..)
@[simp] theorem outer_createPick (s : State) (tag i : Nat) (c : PickCandidate) : (s.createPick tag i c).outer = s.outer :=
  outer_of_stored (stored_createPick ..)
@[simp] theorem outer_judgeShort (s : State) (tag i : Nat) (cause : ShortCause) : (s.judgeShort tag i cause).outer = s.outer :=
  outer_of_stored (stored_judgeShort ..)
@[simp] theorem outer_allocateLine (s : State) (tag i fuel : Nat) : (s.allocateLine tag i fuel).outer = s.outer :=
  outer_of_stored (stored_allocateLine ..)
@[simp] theorem outer_allocateOrder (s : State) (tag : Nat) : (s.allocateOrder tag).outer = s.outer :=
  outer_of_stored (stored_allocateOrder ..)
@[simp] theorem outer_reallocate (s : State) (r : Reach) : (s.reallocate r).outer = s.outer :=
  outer_of_stored (stored_reallocate ..)
@[simp] theorem outer_reallocateFor (s : State) (h : Option Holding) (n : Nat) : (s.reallocateFor h n).outer = s.outer :=
  outer_of_stored (stored_reallocateFor ..)
@[simp] theorem outer_cancelPick (s : State) (p : Pick) : (s.cancelPick p).outer = s.outer :=
  outer_of_stored (stored_cancelPick ..)
@[simp] theorem outer_cancelOrderPicks (s : State) (tag : Nat) : (s.cancelOrderPicks tag).outer = s.outer :=
  outer_of_stored (stored_cancelOrderPicks ..)
@[simp] theorem outer_notifyOrder (s : State) (tag : Nat) (o : Occasion) : (s.notifyOrder tag o).outer = s.outer :=
  outer_of_lasting (lasting_notifyOrder ..)
@[simp] theorem outer_bind (s : State) (tag lane : Nat) : (s.bind tag lane).outer = s.outer :=
  outer_of_unbound (unbound_bind ..)
@[simp] theorem outer_bindingRun (s : State) (fuel : Nat) : (s.bindingRun fuel).outer = s.outer :=
  outer_of_unbound (unbound_bindingRun ..)
@[simp] theorem outer_createTarget (s : State) (tag place batch : Nat) (c : Candidate) : (s.createTarget tag place batch c).outer = s.outer :=
  outer_of_counted (counted_createTarget ..)
@[simp] theorem outer_allocatePut (s : State) (tag place batch : Nat) (art : Article) (pref : Option Nat) (left rem : Nat) : (s.allocatePut tag place batch art pref left rem).outer = s.outer :=
  outer_of_counted (counted_allocatePut ..)
@[simp] theorem outer_endTask (s : State) (tag : Nat) : (s.endTask tag).outer = s.outer :=
  outer_of_counted (counted_endTask ..)
@[simp] theorem outer_cancelTarget (s : State) (tag : Nat) (x : Target) (cause : CancelCause) : (s.cancelTarget tag x cause).outer = s.outer :=
  outer_of_counted (counted_cancelTarget ..)
@[simp] theorem outer_clearReservations (s : State) (a : SlotAddr) : (s.clearReservations a).outer = s.outer :=
  outer_of_counted (counted_clearReservations ..)

/-! ### Updates -/

@[simp] theorem outer_setCarousel (s : State) (k : Nat) (c : Carousel) : (s.setCarousel k c).outer = s.outer := by
  simp [State.outer, State.setCarousel]

@[simp] theorem outer_onCarousel (s : State) (k : Nat) (f : Carousel → Carousel) : (s.onCarousel k f).outer = s.outer := by
  unfold State.onCarousel
  split <;> simp

@[simp] theorem outer_onWindow (s : State) (w : Nat) (f : Window → Window) : (s.onWindow w f).outer = s.outer := by
  simp [State.outer, State.onWindow]

@[simp] theorem outer_onLink (s : State) (st : Nat) (f : Link → Link) : (s.onLink st f).outer = s.outer := by
  simp [State.outer, State.onLink]

@[simp] theorem outer_onOrder (s : State) (tag : Nat) (f : Order → Order) : (s.onOrder tag f).outer = s.outer := rfl
@[simp] theorem outer_onTask (s : State) (tag : Nat) (f : Task → Task) : (s.onTask tag f).outer = s.outer := rfl
@[simp] theorem outer_onPick (s : State) (n : Nat) (f : Pick → Pick) : (s.onPick n f).outer = s.outer := rfl

@[simp] theorem outer_setLaneState (s : State) (n : Nat) (st : LaneState) : (s.setLaneState n st).outer = s.outer := by
  have h : ∀ (f : Option Lane → Option Lane), (modifyAt f n s.lanes).length = s.lanes.length := fun f => by
    unfold modifyAt
    split <;> simp
  simp [State.outer, State.setLaneState, h]

@[simp] theorem outer_judgeOver (s : State) (k : Nat) : (s.judgeOver k).outer = s.outer := outer_of_stored (stored_judgeOver s k)

@[simp] theorem outer_writeSlot (s : State) (a : SlotAddr) (x : Slot) : (s.writeSlot a x).outer = s.outer := by
  unfold State.writeSlot
  dsimp only
  (repeat' split) <;> simp

@[simp] theorem outer_updateSlot (s : State) (a : SlotAddr) (f : Slot → Slot) : (s.updateSlot a f).outer = s.outer := by
  unfold State.updateSlot
  split <;> simp

@[simp] theorem outer_atTime (s : State) (now : Time) : (s.atTime now).outer = s.outer := by simp [State.outer, State.atTime]

@[simp] theorem outer_reachTime (s : State) (e : Time) : (s.reachTime e).outer = s.outer := by
  unfold State.reachTime
  split <;> simp

@[simp] theorem outer_setDiscrepancyFull (s : State) : s.setDiscrepancyFull.outer = s.outer := rfl
@[simp] theorem outer_removeDiscrepancy (s : State) (a : SlotAddr) : (s.removeDiscrepancy a).outer = s.outer := rfl

/-! ### The host line -/

@[simp] theorem outer_transmit (s : State) : s.transmit.outer = s.outer := rfl
@[simp] theorem outer_close (s : State) : s.close.outer = s.outer := by simp [State.close]
@[simp] theorem outer_take (s : State) (kind tag : Nat) : (s.take kind tag).outer = s.outer := rfl
@[simp] theorem outer_awaitExchange (s : State) (e : Exchange) : (s.awaitExchange e).outer = s.outer := rfl

@[simp] theorem outer_formReply (s : State) (r : Result) (b : ReplyBody) : (s.formReply r b).outer = s.outer := by
  unfold State.formReply
  split <;> rfl

@[simp] theorem outer_endExchange (s : State) (e : Exchange) (r : Result) (b : ReplyBody) :
    (s.endExchange e r b).outer = s.outer := by
  unfold State.endExchange
  (repeat' split) <;> simp

@[simp] theorem outer_arrive (s : State) (f : Frame) : (s.arrive f).outer = s.outer := by
  unfold State.arrive
  split <;> rfl

/-- A request leaves of the outer frame what its owner leaves of it. -/
theorem outer_request (s : State) (kind tag : Nat) (i : Instr) (owner : State → Answer)
    (h : (owner (s.take kind tag)).state.outer = s.outer) : (s.request kind tag i owner).outer = s.outer := by
  unfold State.request State.handle
  split
  · split
    · simp
    · cases hq : owner (s.take kind tag) <;> rw [hq] at h <;> simpa [Answer.state] using h
  · simp

/-! ### Slots, tasks, orders -/

@[simp] theorem outer_quarantine (s : State) (a : SlotAddr) (r : Reason) (l : Option Nat) : (s.quarantine a r l).outer = s.outer := by
  simp [State.quarantine]

@[simp] theorem outer_freeOrder (s : State) (tag : Nat) : (s.freeOrder tag).outer = s.outer := by
  unfold State.freeOrder
  split
  · dsimp only
    split
    · rw [outer_bindingRun, outer_setLaneState]
      exact outer_cancelOrderPicks s tag
    · exact outer_cancelOrderPicks s tag
  · rfl

@[simp] theorem outer_submit (s : State) (o : Order) : (s.submit o).outer = s.outer := by
  unfold State.submit
  rw [outer_bindingRun]
  rfl

@[simp] theorem outer_cancelTask (s : State) (t : Task) : (s.cancelTask t).outer = s.outer := by
  unfold State.cancelTask
  rw [outer_testEnds, outer_endTask, outer_foldl]
  exact fun s x => outer_cancelTarget ..

@[simp] theorem outer_allocateTask (s : State) (task place : Nat) (art : Article) (batch q : Nat) (pref : Option Nat) :
    (s.allocateTask task place art batch q pref).outer = s.outer := by
  unfold State.allocateTask
  rw [outer_allocatePut]
  rfl

@[simp] theorem outer_giveUpRest (s : State) (tag : Nat) : (s.giveUpRest tag).outer = s.outer := by simp [State.giveUpRest]

@[simp] theorem outer_reallocateReleased (s : State) (tag : Nat) (ps : List Nat) : (s.reallocateReleased tag ps).outer = s.outer := by
  simp [State.reallocateReleased]

@[simp] theorem outer_drainLane (s : State) (o : Order) : (s.drainLane o).outer = s.outer := by
  unfold State.drainLane
  split <;> simp

/-! ### Windows -/

@[simp] theorem outer_confirmPut (s : State) (a : SlotAddr) (task shown : Nat) :
    (s.confirmPut a task shown).outer = s.outer := by
  unfold State.confirmPut State.closeTarget
  (repeat' split) <;> simp

@[simp] theorem outer_pickTaken (s : State) (p : Pick) (q : Nat) : (s.pickTaken p q).outer = s.outer := rfl

@[simp] theorem outer_addItems (s : State) (w : Nat) (p : Pick) (q : Nat) : (s.addItems w p q).outer = s.outer := by
  simp [State.addItems]

@[simp] theorem outer_testGrant (s : State) : s.testGrant.outer = s.outer := by
  unfold State.testGrant State.startTransfer State.divert
  (repeat' split) <;> first
    | rfl
    | (rw [outer_handOver]; rfl)

@[simp] theorem outer_shortPick (s : State) (w : Nat) (p : Pick) (q : Nat) : (s.shortPick w p q).outer = s.outer := by
  unfold State.shortPick
  dsimp only
  split <;> simp

@[simp] theorem outer_confirmPick (s : State) (w : Nat) (p : Pick) (q : Nat) : (s.confirmPick w p q).outer = s.outer := by
  unfold State.confirmPick
  dsimp only
  rw [outer_testEnds, outer_reallocate]
  split <;> simp

@[simp] theorem outer_confirmAt (s : State) (w i : Nat) : (s.confirmAt w i).outer = s.outer := by
  unfold State.confirmAt State.confirmHead State.holdConfirm
  dsimp only
  (repeat' split) <;> simp

/-! ### Motion -/

@[simp] theorem outer_standAt (s : State) (k p : Nat) : (s.standAt k p).outer = s.outer := by simp [State.standAt]
@[simp] theorem outer_park (s : State) (k p : Nat) : (s.park k p).outer = s.outer := by simp [State.park]

@[simp] theorem outer_endStop (s : State) (k p : Nat) : (s.endStop k p).outer = s.outer := by
  unfold State.endStop
  split <;> simp

@[simp] theorem outer_writeGuards (s : State) (k : Nat) (gs : List (Nat × Guard)) : (s.writeGuards k gs).outer = s.outer := by
  unfold State.writeGuards
  refine outer_foldl _ (fun s g => ?_) _ _
  split <;> simp

@[simp] theorem outer_changePosition (s : State) (k p : Nat) (c : Carousel) : (s.changePosition k p c).outer = s.outer := by
  have h : ((s.presentingWindows k).foldl (fun s w => s.cancelPresentation w) s).outer = s.outer :=
    outer_foldl _ (fun s w => outer_cancelPresentation s w) _ _
  unfold State.changePosition State.learned
  dsimp only
  (repeat' split) <;> simp [h]

@[simp] theorem outer_positionAnswer (s : State) (k p : Nat) (c : Carousel) : (s.positionAnswer k p c).outer = s.outer := by
  unfold State.positionAnswer State.learned
  (repeat' split) <;> simp

/-! ### Consolidation, audit, links -/

theorem outer_merge (s : State) (m : Merge) : ({ s with merge := m } : State).outer = s.outer := rfl

@[simp] theorem outer_startTransfer (s : State) (w : Nat) (i : Item) : (s.startTransfer w i).outer = s.outer := by
  unfold State.startTransfer State.divert
  dsimp only
  rw [outer_handOver]
  rfl

@[simp] theorem outer_stopMerge (s : State) (c : StopCause) (t : Transfer) : (s.stopMerge c t).outer = s.outer := by
  unfold State.stopMerge
  rw [outer_notify]
  rfl

@[simp] theorem outer_expireAttempt (s : State) (c : StopCause) (t : Transfer) : (s.expireAttempt c t).outer = s.outer := by
  unfold State.expireAttempt State.divert
  dsimp only
  split
  · rw [outer_handOver]
    rfl
  · simp

@[simp] theorem outer_changeRanks (s : State) (w : Nat) : (s.changeRanks w).outer = s.outer := by
  simp [State.outer, State.changeRanks]

@[simp] theorem outer_deliver (s : State) (i : Item) : (s.deliver i).outer = s.outer := by
  unfold State.deliver
  dsimp only
  (repeat' split) <;> simp

@[simp] theorem outer_completeTransfer (s : State) (t : Transfer) : (s.completeTransfer t).outer = s.outer := by
  unfold State.completeTransfer
  dsimp only
  rw [outer_testGrant]
  refine (outer_merge _ _).trans ?_
  simp

@[simp] theorem outer_mergeLinkLost (s : State) : s.mergeLinkLost.outer = s.outer := by
  unfold State.mergeLinkLost
  (repeat' split) <;> rfl

@[simp] theorem outer_mergeLinkRegained (s : State) : s.mergeLinkRegained.outer = s.outer := by
  unfold State.mergeLinkRegained
  (repeat' split) <;> simp

@[simp] theorem outer_resumeMerge (s : State) : s.resumeMerge.1.outer = s.outer := by
  unfold State.resumeMerge
  dsimp only
  split
  · exact outer_startTransfer _ _ _
  · exact outer_testGrant _

@[simp] theorem outer_joinCarriers (s : State) (k : Nat) (cs js : List Nat) : (s.joinCarriers k cs js).outer = s.outer := by
  unfold State.joinCarriers
  rw [outer_gainWork, outer_foldl]
  exact fun s c => outer_joinAudit ..

@[simp] theorem outer_openTare (s : State) (k w c i : Nat) : (s.openTare k w c i).outer = s.outer := by simp [State.openTare]

@[simp] theorem outer_settleExpiry (s : State) (w : Nat) : (s.settleExpiry w).outer = s.outer := by
  unfold State.settleExpiry
  dsimp only
  (repeat' split) <;> simp

@[simp] theorem outer_applyResult (s : State) (a : SlotAddr) (x : Slot) (r : Option Reason) (l : Nat) :
    (s.applyResult a x r l).outer = s.outer := by
  unfold State.applyResult
  (repeat' split) <;> simp

@[simp] theorem outer_applyDiscrepancy (s : State) (a : SlotAddr) (x : Slot) (r : Option Reason) (e : Option Nat) (l : Nat) :
    (s.applyDiscrepancy a x r e l).1.outer = s.outer := by
  unfold State.applyDiscrepancy
  dsimp only
  (repeat' split) <;> rfl

@[simp] theorem outer_judgeSlot (s : State) (w : Nat) (a : SlotAddr) (x : Slot) (n : Nat) (cal : Calibration) :
    (s.judgeSlot w a x n cal).outer = s.outer := by simp [State.judgeSlot]

@[simp] theorem outer_finishCount (s : State) (k w c : Nat) : (s.finishCount k w c).outer = s.outer := by simp [State.finishCount]

@[simp] theorem outer_gateMeasure (s : State) (k w : Nat) (m : Measurement) : (s.gateMeasure k w m).outer = s.outer := by
  unfold State.gateMeasure
  dsimp only
  split
  · have h : ∀ (t : State), (t.seekFrom k w m.carrier (m.position + 1)).1.outer = t.outer := fun t => outer_seekFrom ..
    split <;> next heq => (have := congrArg (fun q : State × Bool => q.1.outer) heq; simp at this; simp [← this])
  · simp

@[simp] theorem outer_gateTare (s : State) (k w : Nat) (m : Measurement) : (s.gateTare k w m).outer = s.outer := by
  simp [State.gateTare]

@[simp] theorem outer_gateExpiry (s : State) (w : Nat) : (s.gateExpiry w).outer = s.outer := by
  unfold State.gateExpiry
  dsimp only
  (repeat' split) <;> simp

@[simp] theorem outer_endAccess (s : State) (st : Nat) (r : AccessResult) : (s.endAccess st r).outer = s.outer := by
  unfold State.endAccess
  dsimp only
  (repeat' split) <;> simp

@[simp] theorem outer_changeLink (s : State) (st : Nat) (new : LinkState) (c : LinkCause) :
    (s.changeLink st new c).outer = s.outer := by simp [State.changeLink]

@[simp] theorem outer_leaveLocked (s : State) (st : Nat) (new : LinkState) (c : LinkCause) (r : AccessResult) :
    (s.leaveLocked st new c r).outer = s.outer := by
  unfold State.leaveLocked State.tellLost
  split <;> simp

@[simp] theorem outer_tellLocked (s : State) (st : Nat) : (s.tellLocked st).outer = s.outer := by
  unfold State.tellLocked
  split <;> simp

@[simp] theorem outer_onTest (s : State) (st : Nat) (f : TestRecord → TestRecord) : (s.onTest st f).outer = s.outer := by
  simp [State.onTest]

@[simp] theorem outer_endTest (s : State) (st : Nat) (f : TestRecord → TestRecord) : (s.endTest st f).outer = s.outer := by
  simp [State.endTest]

@[simp] theorem outer_replyTestStop (s : State) (st : Nat) : (s.replyTestStop st).outer = s.outer := by
  simp [State.replyTestStop]

/-! ### Reports, timers, answers, modes -/

@[simp] theorem outer_moveDone (s : State) (st p : Nat) : (s.moveDone st p).outer = s.outer := by
  unfold State.moveDone
  (repeat' split) <;> simp

@[simp] theorem outer_moveFail (s : State) (st : Nat) (r : FailReason) (p : Nat) : (s.moveFail st r p).outer = s.outer := by
  unfold State.moveFail
  (repeat' split) <;> simp

@[simp] theorem outer_stopped (s : State) (st p : Nat) : (s.stopped st p).outer = s.outer := by
  unfold State.stopped
  (repeat' split) <;> simp

@[simp] theorem outer_guardReport (s : State) (st w : Nat) (g : Guard) (p : Nat) : (s.guardReport st w g p).outer = s.outer := by
  unfold State.guardReport State.guardActs
  (repeat' split) <;> simp

@[simp] theorem outer_moveDeadline (s : State) (k : Nat) : (s.moveDeadline k).outer = s.outer := by
  unfold State.moveDeadline
  (repeat' split) <;> simp

@[simp] theorem outer_resumeMove (s : State) (k : Nat) : (s.resumeMove k).outer = s.outer := by
  unfold State.resumeMove
  (repeat' split) <;> simp

@[simp] theorem outer_restartDelay (s : State) (k : Nat) : (s.restartDelay k).outer = s.outer := by
  unfold State.restartDelay
  (repeat' split) <;> simp

@[simp] theorem outer_stopDeadline (s : State) (k : Nat) : (s.stopDeadline k).outer = s.outer := by
  unfold State.stopDeadline
  (repeat' split) <;> simp

@[simp] theorem outer_positionReply (s : State) (st n p : Nat) (gs : List (Nat × Guard)) : (s.positionReply st n p gs).outer = s.outer := by
  unfold State.positionReply
  (repeat' split) <;> simp

@[simp] theorem outer_arrived (s : State) (st n : Nat) : (s.arrived st n).outer = s.outer := by
  unfold State.arrived
  (repeat' split) <;> simp

@[simp] theorem outer_jammed (s : State) (st n : Nat) : (s.jammed st n).outer = s.outer := by
  unfold State.jammed
  (repeat' split) <;> simp

@[simp] theorem outer_transferExpiry (s : State) : s.transferExpiry.outer = s.outer := by
  unfold State.transferExpiry
  (repeat' split) <;> simp

@[simp] theorem outer_presenceActive (s : State) (st : Nat) : (s.presenceActive st).outer = s.outer := by
  unfold State.presenceActive
  (try dsimp only)
  (repeat' split) <;> simp

@[simp] theorem outer_abortTest (s : State) (st : Nat) : (s.abortTest st).outer = s.outer := by
  unfold State.abortTest
  (try dsimp only)
  simp

@[simp] theorem outer_presenceInactive (s : State) (st : Nat) : (s.presenceInactive st).outer = s.outer := by
  unfold State.presenceInactive
  (try dsimp only)
  (repeat' split) <;> simp

@[simp] theorem outer_lockReport (s : State) (st : Nat) : (s.lockReport st).outer = s.outer := by
  unfold State.lockReport
  (repeat' split) <;> simp

@[simp] theorem outer_linkSettled (s : State) (st : Nat) : (s.linkSettled st).outer = s.outer := by
  unfold State.linkSettled
  (try dsimp only)
  (repeat' split) <;> simp

@[simp] theorem outer_replyExpiry (s : State) (st : Nat) : (s.replyExpiry st).outer = s.outer := by
  unfold State.replyExpiry State.sendAgain State.thirdUnanswered State.testStartUnanswered
  (try dsimp only)
  (repeat' split) <;> simp

@[simp] theorem outer_acked (s : State) (st n : Nat) : (s.acked st n).outer = s.outer := by
  unfold State.acked State.channelAcked
  (repeat' split) <;> simp

@[simp] theorem outer_accessReply (s : State) (st n : Nat) (v : Option Nat) : (s.accessReply st n v).outer = s.outer := by
  unfold State.accessReply
  (repeat' split) <;> simp

@[simp] theorem outer_testStopReply (s : State) (st n : Nat) (v : Option (TestVerdict × Nat)) : (s.testStopReply st n v).outer = s.outer := by
  unfold State.testStopReply
  (repeat' split) <;> simp

@[simp] theorem outer_testSilence (s : State) (st : Nat) : (s.testSilence st).outer = s.outer := by
  unfold State.testSilence
  (try dsimp only)
  (repeat' split) <;> simp

@[simp] theorem outer_holdCarousel (s : State) (k : Nat) : (s.holdCarousel k).outer = s.outer := by
  unfold State.holdCarousel
  (repeat' split) <;> simp

@[simp] theorem outer_resumeCarousel (s : State) (k : Nat) : (s.resumeCarousel k).outer = s.outer := by
  unfold State.resumeCarousel
  (repeat' split) <;> simp

theorem outer_mode (s : State) (m : Mode) : ({ s with mode := m } : State).outer = s.outer := rfl

@[simp] theorem outer_stop (s : State) : s.stop.outer = s.outer := by
  unfold State.stop
  rw [outer_foldl, outer_mode]
  intro s k
  split <;> simp

@[simp] theorem outer_start (s : State) : s.start.outer = s.outer := by
  unfold State.start
  rw [outer_foldl]
  · simp [State.outer]
  · intro s k
    simp

@[simp] theorem outer_assignWindow (s : State) (w : Nat) (a : Nat × Nat) : (s.assignWindow w a).outer = s.outer := by
  unfold State.assignWindow
  split
  · simp
  · rw [outer_onWindow]
    rfl

@[simp] theorem outer_closeGuards (s : State) (k : Nat) : (s.closeGuards k).outer = s.outer :=
  outer_foldl _ (fun s w => outer_onWindow s w _) _ _

theorem outer_discrepancies (s : State) (ds : List Discrepancy) : ({ s with discrepancies := ds } : State).outer = s.outer := rfl

@[simp] theorem outer_writeGeometry (s : State) (k : Nat) (g : Geometry) (l t : Nat) : (s.writeGeometry k g l t).outer = s.outer := by
  unfold State.writeGeometry
  dsimp only
  split <;> split <;> simp [outer_discrepancies]

@[simp] theorem outer_writeLimit (s : State) (k l t : Nat) : (s.writeLimit k l t).outer = s.outer := by simp [State.writeLimit]

end Sys2Proof.Machine
end

