-- ==== Sys2Proof/Laws/Kept.lean ====
section
/-! SUPPORT. An invariant that the primitive updates of the state keep is kept by every operation of the blocks: `Kept` lists the
updates, and one lemma per operation says that it keeps such an invariant. Two invariants of the part are such (`kept_placesFit`,
`kept_figuresExact`). -/

namespace Sys2Proof.Machine

/-- The updates that an invariant has to be kept by: a reaction (anything that leaves `State.lasting`), one write of a slot, the
fields of carousels beside geometry, slots and figures, windows, links, lanes and queues; changes and removals of orders,
tasks, picks and discrepancy records; one more pick or discrepancy record while there is a place. -/
structure Kept (P : State → Prop) : Prop where
  reaction : ∀ {s t : State}, t.lasting = s.lasting → P s → P t
  slot : ∀ {s : State} (a : SlotAddr) (x : Slot), P s → P (s.writeSlot a x)
  carousel : ∀ {s : State} (k : Nat) (f : Carousel → Carousel),
    (∀ c, (f c).geometry = c.geometry ∧ (f c).slots = c.slots ∧ (f c).figures = c.figures) → P s → P (s.onCarousel k f)
  window : ∀ {s : State} (w : Nat) (f : Window → Window), P s → P (s.onWindow w f)
  windows : ∀ {s : State} (ws : List Window), P s → P { s with windows := ws }
  link : ∀ {s : State} (st : Nat) (f : Link → Link), P s → P (s.onLink st f)
  time : ∀ {s : State} (now : Time), P s → P (s.atTime now)
  merge : ∀ {s : State} (m : Merge), P s → P { s with merge := m }
  mode : ∀ {s : State} (m : Mode), P s → P { s with mode := m }
  flags : ∀ {s : State} (f : Flags), P s → P { s with flags := f }
  settings : ∀ {s : State} (x : Settings) (t : Nat), P s → P { s with settings := x, nextTicket := t }
  articles : ∀ {s : State} (x : List (Nat × Article)), P s → P { s with articles := x }
  commands : ∀ {s : State} (x : List Instr), P s → P { s with pending := x }
  draws : ∀ {s : State} (n : Nat), P s → P { s with draws := n }
  line : ∀ {s : State} (l : HostLine), l.buffer.length ≤ s.line.buffer.length → P s → P { s with line := l }
  frame : ∀ {s : State} (f : Frame), P s → P (s.arrive f)
  lanes : ∀ {s : State} (ls : List (Option Lane)) (q : List Nat) (n : Nat), P s →
    P { s with lanes := ls, submission := q, admissions := n }
  orders : ∀ {s : State} (f : Order → Order), P s → P { s with orders := s.orders.map f }
  tasks : ∀ {s : State} (f : Task → Task), P s → P { s with tasks := s.tasks.map f }
  fewerOrders : ∀ {s : State} (f : Order → Bool) (q : List Nat), P s →
    P { s with orders := s.orders.filter f, submission := q }
  fewerTasks : ∀ {s : State} (f : Task → Bool), P s → P { s with tasks := s.tasks.filter f }
  fewerPicks : ∀ {s : State} (f : Pick → Bool), P s → P { s with picks := s.picks.filter f }
  onePick : ∀ {s : State} (before : Pick → Pick → Bool) (p : Pick) (n : Nat), s.picks.length < Config.pickPool → P s →
    P { s with picks := insertBy before p s.picks, creations := n }
  oneOrder : ∀ {s : State} (o : Order) (q : List Nat), s.orders.length < Config.orderPool → P s →
    P { s with orders := s.orders ++ [o], submission := q }
  oneTask : ∀ {s : State} (t : Task), s.tasks.length < Config.taskPool → P s → P { s with tasks := s.tasks ++ [t] }
  discrepancies : ∀ {s : State} (ds : List Discrepancy),
    ds.length ≤ s.discrepancies.length ∨ ds.length ≤ Config.discrepancyPlaces → P s → P { s with discrepancies := ds }

variable {P : State → Prop}

theorem ite_kept {c : Prop} [Decidable c] {s t : State} (hs : P s) (ht : P t) : P (if c then s else t) := by
  split
  · exact hs
  · exact ht

namespace Kept

theorem foldl (_h : Kept P) {α : Type} (f : State → α → State) (hf : ∀ s a, P s → P (f s a)) (xs : List α) {s : State}
    (hs : P s) : P (xs.foldl f s) := by
  induction xs generalizing s with
  | nil => exact hs
  | cons x xs ih => exact ih (hf _ _ hs)

/-! ### Reactions, by the view they leave -/

theorem notify (h : Kept P) {s : State} (n : Notice) (hs : P s) : P (s.notify n) := h.reaction (lasting_notify ..) hs

theorem handOver (h : Kept P) {s : State} (st : Nat) (c : Command) (hs : P s) : P (s.handOver st c) :=
  h.reaction (lasting_handOver ..) hs

theorem takeReply (h : Kept P) {s : State} (st : Nat) (hs : P s) : P (s.takeReply st) := h.reaction (lasting_takeReply ..) hs

theorem refresh (h : Kept P) {s : State} (hs : P s) : P (s.refresh) := h.reaction (lasting_refresh ..) hs

theorem dropPresentation (h : Kept P) {s : State} (w : Nat) (hs : P s) : P (s.dropPresentation w) :=
  h.reaction (lasting_dropPresentation ..) hs

theorem fillPresentation (h : Kept P) {s : State} (k w c : Nat) (hs : P s) : P (s.fillPresentation k w c) :=
  h.reaction (lasting_fillPresentation ..) hs

theorem joinEntry (h : Kept P) {s : State} (a : SlotAddr) (e : Entry) (hs : P s) : P (s.joinEntry a e) :=
  h.reaction (lasting_joinEntry ..) hs

theorem removeEntry (h : Kept P) {s : State} (a : SlotAddr) (e : Entry) (hs : P s) : P (s.removeEntry a e) :=
  h.reaction (lasting_removeEntry ..) hs

theorem cancelPresentation (h : Kept P) {s : State} (w : Nat) (hs : P s) : P (s.cancelPresentation w) :=
  h.reaction (lasting_cancelPresentation ..) hs

theorem onMeasurement (h : Kept P) {s : State} (w : Nat) (f : Measurement → Measurement) (hs : P s) :
    P (s.onMeasurement w f) := h.reaction (lasting_onMeasurement ..) hs

theorem beginCount (h : Kept P) {s : State} (k w i q : Nat) (hs : P s) : P (s.beginCount k w i q) :=
  h.reaction (lasting_beginCount ..) hs

theorem dropMeasurement (h : Kept P) {s : State} (w : Nat) (hs : P s) : P (s.dropMeasurement w) :=
  h.reaction (lasting_dropMeasurement ..) hs

theorem openWindow (h : Kept P) {s : State} (k w : Nat) (hs : P s) : P (s.openWindow k w) :=
  h.reaction (lasting_openWindow ..) hs

theorem openStanding (h : Kept P) {s : State} (k : Nat) (hs : P s) : P (s.openStanding k) :=
  h.reaction (lasting_openStanding ..) hs

theorem become (h : Kept P) {s : State} (k : Nat) (st : CarouselState) (hs : P s) : P (s.become k st) :=
  h.reaction (lasting_become ..) hs

theorem raisePassed (h : Kept P) {s : State} (k c cls : Nat) (hs : P s) : P (s.raisePassed k c cls) :=
  h.reaction (lasting_raisePassed ..) hs

theorem idleAndAct (h : Kept P) {s : State} (k : Nat) (hs : P s) : P (s.idleAndAct k) := h.reaction (lasting_idleAndAct ..) hs

theorem testWindows (h : Kept P) {s : State} (k : Nat) (hs : P s) : P (s.testWindows k) :=
  h.reaction (lasting_testWindows ..) hs

theorem recompute (h : Kept P) {s : State} (k : Nat) (hs : P s) : P (s.recompute k) := h.reaction (lasting_recompute ..) hs

theorem gainWork (h : Kept P) {s : State} (k : Nat) (cs : List Nat) (hs : P s) : P (s.gainWork k cs) :=
  h.reaction (lasting_gainWork ..) hs

theorem testEnds (h : Kept P) {s : State} (hs : P s) : P (s.testEnds) := h.reaction (lasting_testEnds ..) hs

theorem enterHeld (h : Kept P) {s : State} (k : Nat) (hs : P s) : P (s.enterHeld k) := h.reaction (lasting_enterHeld ..) hs

theorem resumeHeld (h : Kept P) {s : State} (k : Nat) (hs : P s) : P (s.resumeHeld k) := h.reaction (lasting_resumeHeld ..) hs

theorem enterFault (h : Kept P) {s : State} (k : Nat) (r : MoveFaultReason) (hs : P s) : P (s.enterFault k r) :=
  h.reaction (lasting_enterFault ..) hs

theorem beginStop (h : Kept P) {s : State} (k : Nat) (hs : P s) : P (s.beginStop k) := h.reaction (lasting_beginStop ..) hs

theorem sendPosition (h : Kept P) {s : State} (k : Nat) (p : Purpose) (hs : P s) : P (s.sendPosition k p) :=
  h.reaction (lasting_sendPosition ..) hs

theorem abandonQuery (h : Kept P) {s : State} (k : Nat) (hs : P s) : P (s.abandonQuery k) :=
  h.reaction (lasting_abandonQuery ..) hs

theorem learnPosition (h : Kept P) {s : State} (k : Nat) (hs : P s) : P (s.learnPosition k) :=
  h.reaction (lasting_learnPosition ..) hs

theorem joinAudit (h : Kept P) {s : State} (k c : Nat) (hs : P s) : P (s.joinAudit k c) :=
  h.reaction (lasting_joinAudit ..) hs

theorem interrupt (h : Kept P) {s : State} (k w : Nat) (hs : P s) : P (s.interrupt k w) :=
  h.reaction (lasting_interrupt ..) hs

theorem carouselLinkLost (h : Kept P) {s : State} (k : Nat) (hs : P s) : P (s.carouselLinkLost k) :=
  h.reaction (lasting_carouselLinkLost ..) hs

theorem notifyOrder (h : Kept P) {s : State} (tag : Nat) (o : Occasion) (hs : P s) : P (s.notifyOrder tag o) :=
  h.reaction (lasting_notifyOrder ..) hs

theorem seekFrom (h : Kept P) {s : State} (k w c i : Nat) (hs : P s) : P (s.seekFrom k w c i).1 := h.reaction (lasting_seekFrom ..) hs

theorem finishCount (h : Kept P) {s : State} (k w c : Nat) (hs : P s) : P (s.finishCount k w c) :=
  h.testWindows _ (h.reaction (lasting_endMeasurement_openAt ..) hs)

/-! ### The host line -/

theorem transmit (h : Kept P) {s : State} (hs : P s) : P s.transmit := by
  refine h.line _ (le_of_eq ?_) hs
  unfold HostLine.choose
  (repeat' split) <;> rfl

theorem close (h : Kept P) {s : State} (hs : P s) : P s.close := h.transmit (h.refresh hs)

theorem take (h : Kept P) {s : State} (kind tag : Nat) (hs : P s) : P (s.take kind tag) := h.line _ (by simp) hs

theorem awaitExchange (h : Kept P) {s : State} (e : Exchange) (hs : P s) : P (s.awaitExchange e) := h.line _ (le_refl _) hs

theorem formReply (h : Kept P) {s : State} (r : Result) (b : ReplyBody) (hs : P s) : P (s.formReply r b) := by
  unfold State.formReply
  split
  · exact h.line _ (le_refl _) hs
  · exact hs

theorem endExchange (h : Kept P) {s : State} (e : Exchange) (r : Result) (b : ReplyBody) (hs : P s) :
    P (s.endExchange e r b) := by
  unfold State.endExchange
  (repeat' split) <;> first
    | exact hs
    | exact h.formReply _ _ hs

/-- The invariant is one that the taking of frames keeps, if the owners do. -/
theorem lineKeeps (h : Kept P) : LineKeeps P := fun _ _ hl hs => h.line _ hl hs

theorem serve (h : Kept P) (ho : OwnersKeep P) {s : State} (hs : P s) : P s.serve := serve_keeps h.lineKeeps ho hs

theorem receive (h : Kept P) (ho : OwnersKeep P) {s : State} (b : Byte) (hs : P s) : P (s.receive b) :=
  receive_keeps h.lineKeeps ho (fun _ _ hs => h.frame _ hs) b hs

theorem sent (h : Kept P) (ho : OwnersKeep P) {s : State} (f : SentFrame) (hs : P s) : P (s.sent f) :=
  sent_keeps h.lineKeeps ho f hs

/-- A request keeps the invariant if its owner does. -/
theorem request (h : Kept P) {s : State} (kind tag : Nat) (i : Instr) (owner : State → Answer)
    (ho : ∀ s, P s → P (owner s).state) (hs : P s) : P (s.request kind tag i owner) := by
  unfold State.request
  split
  · exact h.transmit (handle_keeps h.lineKeeps ho _ _ hs)
  · exact h.transmit (h.frame _ hs)

/-! ### Time, slots, orders, tasks, lanes -/

theorem reachTime (h : Kept P) {s : State} (e : Time) (hs : P s) : P (s.reachTime e) := by
  unfold State.reachTime
  split
  · exact hs
  · exact h.time _ hs

theorem updateSlot (h : Kept P) {s : State} (a : SlotAddr) (f : Slot → Slot) (hs : P s) : P (s.updateSlot a f) := by
  unfold State.updateSlot
  split
  · exact h.slot _ _ hs
  · exact hs

theorem onOrder (h : Kept P) {s : State} (tag : Nat) (f : Order → Order) (hs : P s) : P (s.onOrder tag f) := h.orders _ hs

theorem onTask (h : Kept P) {s : State} (tag : Nat) (f : Task → Task) (hs : P s) : P (s.onTask tag f) := h.tasks _ hs

theorem closeTarget (h : Kept P) {s : State} (tag : Nat) (a : SlotAddr) (o : TargetOutcome) (hs : P s) :
    P (s.closeTarget tag a o) := h.tasks _ hs

theorem setLaneState (h : Kept P) {s : State} (n : Nat) (st : LaneState) (hs : P s) : P (s.setLaneState n st) :=
  h.lanes _ s.submission s.admissions hs

/-! ### Allocation -/

theorem createTarget (h : Kept P) {s : State} (tag place batch : Nat) (c : Candidate) (hs : P s) :
    P (s.createTarget tag place batch c) := h.joinEntry _ _ (h.gainWork _ _ (h.updateSlot _ _ (h.onTask _ _ hs)))

theorem allocatePut (h : Kept P) {s : State} (tag place batch : Nat) (art : Article) (pref : Option Nat) (left rem : Nat)
    (hs : P s) : P (s.allocatePut tag place batch art pref left rem) := by
  induction left generalizing s rem with
  | zero => exact hs
  | succ n ih =>
    unfold State.allocatePut
    (repeat' split) <;> first
      | exact hs
      | exact ih _ (h.createTarget _ _ _ _ hs)

theorem endTask (h : Kept P) {s : State} (tag : Nat) (hs : P s) : P (s.endTask tag) := by
  unfold State.endTask
  (repeat' split) <;> first
    | exact hs
    | exact h.notify _ (h.fewerTasks _ hs)

theorem cancelTarget (h : Kept P) {s : State} (tag : Nat) (x : Target) (c : CancelCause) (hs : P s) :
    P (s.cancelTarget tag x c) := h.recompute _ (h.removeEntry _ _ (h.closeTarget _ _ _ (h.updateSlot _ _ hs)))

theorem createPick (h : Kept P) {s : State} (tag i : Nat) (c : PickCandidate) (hl : s.picks.length < Config.pickPool)
    (hs : P s) : P (s.createPick tag i c) := by
  have h4 := h.gainWork c.addr.carousel [c.addr.carrier] (h.onOrder tag
    (fun o => o.onLine i fun l => { l with openPicks := l.openPicks + 1 })
    (h.updateSlot c.addr (fun x => { x with reserved := x.reserved + c.quantity }) (h.onePick
      (fun x y => decide (x.number < y.number))
      { number := lowestFree (s.picks.map (·.number)) Config.pickPool 0, order := tag, line := i, addr := c.addr,
        quantity := c.quantity, presented := false, seq := s.creations } (countUp Config.lastCount s.creations) hl hs)))
  unfold State.createPick
  dsimp only
  split
  · refine h.joinEntry _ _ (h.reaction ?_ h4)
    refine lasting_mapPicks _ _ fun p => ?_
    split <;> rfl
  · exact h4

theorem judgeShort (h : Kept P) {s : State} (tag i : Nat) (c : ShortCause) (hs : P s) : P (s.judgeShort tag i c) := by
  unfold State.judgeShort
  dsimp only
  (repeat' split) <;> first
    | exact hs
    | exact h.notify _ (h.onOrder _ _ hs)
    | exact h.onOrder _ _ hs

theorem allocateLine (h : Kept P) {s : State} (tag i fuel : Nat) (hs : P s) : P (s.allocateLine tag i fuel) := by
  induction fuel generalizing s with
  | zero => exact hs
  | succ n ih =>
    unfold State.allocateLine
    (repeat' split) <;> first
      | exact hs
      | exact h.judgeShort _ _ _ hs
      | exact ih (h.createPick _ _ _ (by omega) hs)

theorem allocateOrder (h : Kept P) {s : State} (tag : Nat) (hs : P s) : P (s.allocateOrder tag) := by
  unfold State.allocateOrder
  split
  · exact h.foldl _ (fun _ _ hs => h.allocateLine _ _ _ hs) _ hs
  · exact hs

theorem reallocate (h : Kept P) {s : State} (r : Reach) (hs : P s) : P (s.reallocate r) :=
  h.foldl _ (fun _ _ hs => h.allocateLine _ _ _ hs) _ hs

theorem reallocateFor (h : Kept P) {s : State} (held : Option Holding) (n : Nat) (hs : P s) : P (s.reallocateFor held n) := by
  unfold State.reallocateFor
  (repeat' split) <;> first
    | exact hs
    | exact h.reallocate _ hs

theorem cancelPick (h : Kept P) {s : State} (p : Pick) (hs : P s) : P (s.cancelPick p) :=
  h.recompute _ (h.fewerPicks _ (h.onOrder _ _ (h.removeEntry _ _ (h.updateSlot _ _ hs))))

theorem cancelOrderPicks (h : Kept P) {s : State} (tag : Nat) (hs : P s) : P (s.cancelOrderPicks tag) :=
  h.foldl _ (fun _ _ hs => h.cancelPick _ hs) _ hs

theorem clearReservations (h : Kept P) {s : State} (a : SlotAddr) (hs : P s) : P (s.clearReservations a) :=
  h.foldl _ (fun _ _ hs => h.endTask _ (h.cancelTarget _ _ _ hs)) _ (h.foldl _ (fun _ _ hs => h.cancelPick _ hs) _ hs)

theorem quarantine (h : Kept P) {s : State} (a : SlotAddr) (r : Reason) (l : Option Nat) (hs : P s) :
    P (s.quarantine a r l) := h.updateSlot _ _ (h.clearReservations _ hs)

theorem bind (h : Kept P) {s : State} (tag lane : Nat) (hs : P s) : P (s.bind tag lane) := by
  refine h.allocateOrder _ (h.notifyOrder _ _ ?_)
  exact h.lanes _ _ _ (h.onOrder _ _ (h.setLaneState _ _ hs))

theorem bindingRun (h : Kept P) {s : State} (fuel : Nat) (hs : P s) : P (s.bindingRun fuel) := by
  induction fuel generalizing s with
  | zero => exact hs
  | succ n ih =>
    unfold State.bindingRun
    split
    · exact ih (h.bind _ _ hs)
    · exact hs

theorem freeOrder (h : Kept P) {s : State} (tag : Nat) (hs : P s) : P (s.freeOrder tag) := by
  unfold State.freeOrder
  split
  · dsimp only
    split
    · exact h.bindingRun _ (h.setLaneState _ _ (h.fewerOrders _ _ (h.cancelOrderPicks _ hs)))
    · exact h.fewerOrders _ _ (h.cancelOrderPicks _ hs)
  · exact hs

/-! ### Requests on tasks and orders -/

theorem cancelTask (h : Kept P) {s : State} (t : Task) (hs : P s) : P (s.cancelTask t) :=
  h.testEnds (h.endTask _ (h.foldl _ (fun _ _ hs => h.cancelTarget _ _ _ hs) _ hs))

theorem submit (h : Kept P) {s : State} (o : Order) (hl : s.orders.length < Config.orderPool) (hs : P s) : P (s.submit o) :=
  h.bindingRun _ (h.oneOrder _ _ hl hs)

theorem allocateTask (h : Kept P) {s : State} (task place : Nat) (art : Article) (batch q : Nat) (pref : Option Nat)
    (hl : s.tasks.length < Config.taskPool) (hs : P s) : P (s.allocateTask task place art batch q pref) :=
  h.allocatePut _ _ _ _ _ _ _ (h.oneTask _ hl hs)

theorem giveUpRest (h : Kept P) {s : State} (tag : Nat) (hs : P s) : P (s.giveUpRest tag) :=
  h.onOrder _ _ (h.cancelOrderPicks _ hs)

theorem reallocateReleased (h : Kept P) {s : State} (tag : Nat) (ps : List Nat) (hs : P s) :
    P (s.reallocateReleased tag ps) := h.reallocate _ hs

theorem drainLane (h : Kept P) {s : State} (o : Order) (hs : P s) : P (s.drainLane o) := by
  unfold State.drainLane
  split
  · exact h.setLaneState _ _ hs
  · exact hs

/-! ### Windows -/

theorem confirmPut (h : Kept P) {s : State} (a : SlotAddr) (task shown : Nat) (hs : P s) :
    P (s.confirmPut a task shown) := by
  unfold State.confirmPut
  split
  · split
    · exact h.testEnds (h.reallocate _ (h.endTask _ (h.removeEntry _ _ (h.closeTarget _ _ _ (h.updateSlot _ _ hs)))))
    · exact hs
  · exact hs

theorem divert (h : Kept P) {s : State} (t : Transfer) (hs : P s) : P (s.divert t) := h.handOver _ _ hs

theorem startTransfer (h : Kept P) {s : State} (w : Nat) (i : Item) (hs : P s) : P (s.startTransfer w i) :=
  h.divert _ (h.merge _ hs)

theorem testGrant (h : Kept P) {s : State} (hs : P s) : P s.testGrant := by
  unfold State.testGrant
  (repeat' split) <;> first
    | exact hs
    | exact h.startTransfer _ _ hs

theorem shortPick (h : Kept P) {s : State} (w : Nat) (p : Pick) (q : Nat) (hs : P s) : P (s.shortPick w p q) := by
  unfold State.shortPick
  dsimp only
  split
  · exact h.notify _ (h.joinAudit _ _ hs)
  · exact h.notify _ (h.joinAudit _ _ (h.quarantine _ _ _ hs))

theorem pickTaken (h : Kept P) {s : State} (p : Pick) (q : Nat) (hs : P s) : P (s.pickTaken p q) :=
  h.fewerPicks _ (h.onOrder _ _ hs)

theorem addItems (h : Kept P) {s : State} (w : Nat) (p : Pick) (q : Nat) (hs : P s) : P (s.addItems w p q) := h.window _ _ hs

theorem confirmPick (h : Kept P) {s : State} (w : Nat) (p : Pick) (q : Nat) (hs : P s) : P (s.confirmPick w p q) := by
  have h2 : P ((((s.updateSlot p.addr fun x => x.taken q p.quantity).pickTaken p q).addItems w p q).testGrant.removeEntry
      p.addr (.pick p.number p.quantity)) :=
    h.removeEntry _ _ (h.testGrant (h.addItems _ _ _ (h.pickTaken _ _ (h.updateSlot _ _ hs))))
  unfold State.confirmPick
  dsimp only
  exact h.testEnds (h.reallocate _ (ite_kept (h.shortPick w p q h2) h2))

theorem confirmHead (h : Kept P) {s : State} (w i : Nat) (a : SlotAddr) (d : Display) (e : Entry) (hs : P s) :
    P (s.confirmHead w i a d e) := by
  unfold State.confirmHead
  dsimp only
  split
  · exact h.confirmPut _ _ _ hs
  · split
    · split
      · exact h.window _ _ hs
      · exact h.confirmPick _ _ _ hs
    · exact hs
  · exact hs

theorem confirmAt (h : Kept P) {s : State} (w i : Nat) (hs : P s) : P (s.confirmAt w i) := by
  unfold State.confirmAt
  split
  · split
    · exact h.confirmHead _ _ _ _ _ hs
    · exact hs
  · exact hs

theorem assignWindow (h : Kept P) {s : State} (w : Nat) (a : Nat × Nat) (hs : P s) : P (s.assignWindow w a) := by
  unfold State.assignWindow
  split
  · exact h.window _ _ hs
  · exact h.window _ _ (h.draws _ hs)

/-! ### Motion -/

theorem standAt (h : Kept P) {s : State} (k p : Nat) (hs : P s) : P (s.standAt k p) :=
  h.carousel _ _ (fun _ => ⟨rfl, rfl, rfl⟩) hs

theorem park (h : Kept P) {s : State} (k p : Nat) (hs : P s) : P (s.park k p) :=
  h.testWindows _ (h.openStanding _ (h.become _ _ (h.standAt _ _ hs)))

theorem endStop (h : Kept P) {s : State} (k p : Nat) (hs : P s) : P (s.endStop k p) := by
  unfold State.endStop
  split
  · exact h.enterHeld _ (h.standAt _ _ hs)
  · exact h.resumeHeld _ (h.standAt _ _ hs)

theorem sendMove (h : Kept P) {s : State} (k c : Nat) (plan : Plan) (hs : P s) : P (s.sendMove k c plan) :=
  h.reaction (lasting_sendMove ..) hs

theorem writeGuards (h : Kept P) {s : State} (k : Nat) (gs : List (Nat × Guard)) (hs : P s) : P (s.writeGuards k gs) := by
  refine h.foldl _ (fun s g hs => ?_) _ hs
  split
  · exact h.window _ _ hs
  · exact hs

theorem learned (h : Kept P) {s : State} (k p : Nat) (hs : P s) : P (s.learned k p) :=
  h.carousel _ _ (fun _ => ⟨rfl, rfl, rfl⟩) hs

theorem changePosition (h : Kept P) {s : State} (k p : Nat) (c : Carousel) (hs : P s) : P (s.changePosition k p c) := by
  have h1 := h.notify (.positionChanged k c.p p (s.presentingWindows k).length
    (total ((s.presentingWindows k).map fun w => (s.window w).pickEntries)))
    (h.learned k p (h.foldl _ (fun _ w hs => h.cancelPresentation w hs) (s.presentingWindows k) hs))
  have h2 := h.idleAndAct k h1
  unfold State.changePosition
  dsimp only
  split
  · exact h.enterHeld _ h1
  · split
    · exact h.testWindows _ (h.openStanding _ h2)
    · exact h2

theorem positionAnswer (h : Kept P) {s : State} (k p : Nat) (c : Carousel) (hs : P s) : P (s.positionAnswer k p c) := by
  have h1 := h.learned k p hs
  unfold State.positionAnswer
  (repeat' split) <;> first
    | exact h.idleAndAct _ h1
    | exact h.enterHeld _ h1
    | exact h.resumeHeld _ h1
    | exact h.changePosition _ _ _ hs
    | exact h.carousel _ _ (fun _ => ⟨rfl, rfl, rfl⟩) hs

theorem moveDone (h : Kept P) {s : State} (st p : Nat) (hs : P s) : P (s.moveDone st p) := by
  unfold State.moveDone
  (repeat' split) <;> first
    | exact hs
    | exact h.park _ _ hs
    | exact h.endStop _ _ hs

theorem moveFail (h : Kept P) {s : State} (st : Nat) (r : FailReason) (p : Nat) (hs : P s) : P (s.moveFail st r p) := by
  have h1 := h.carousel st (fun c => { c with p := p }) (fun _ => ⟨rfl, rfl, rfl⟩) hs
  unfold State.moveFail
  (repeat' split) <;> first
    | exact hs
    | exact h.enterFault _ _ h1

theorem stopped (h : Kept P) {s : State} (st p : Nat) (hs : P s) : P (s.stopped st p) := by
  unfold State.stopped
  (repeat' split) <;> first
    | exact hs
    | exact h.endStop _ _ hs

theorem guardReport (h : Kept P) {s : State} (st w : Nat) (g : Guard) (p : Nat) (hs : P s) : P (s.guardReport st w g p) := by
  have h1 := h.window w (fun v => { v with guard := g }) hs
  unfold State.guardReport State.guardActs
  (repeat' split) <;> first
    | exact hs
    | exact h1
    | exact h.carousel _ _ (fun _ => ⟨rfl, rfl, rfl⟩) h1

theorem moveDeadline (h : Kept P) {s : State} (k : Nat) (hs : P s) : P (s.moveDeadline k) := by
  unfold State.moveDeadline
  (repeat' split) <;> first
    | exact hs
    | exact h.enterFault _ _ (h.handOver _ _ (h.reachTime _ hs))

theorem resumeMove (h : Kept P) {s : State} (k : Nat) (hs : P s) : P (s.resumeMove k) := by
  unfold State.resumeMove
  (repeat' split) <;> first
    | exact hs
    | exact h.park _ _ hs
    | exact h.sendMove _ _ _ hs

theorem restartDelay (h : Kept P) {s : State} (k : Nat) (hs : P s) : P (s.restartDelay k) := by
  unfold State.restartDelay
  (repeat' split) <;> first
    | exact hs
    | exact h.resumeMove _ (h.reachTime _ hs)

theorem stopDeadline (h : Kept P) {s : State} (k : Nat) (hs : P s) : P (s.stopDeadline k) := by
  unfold State.stopDeadline
  (repeat' split) <;> first
    | exact hs
    | exact h.enterFault _ _ (h.reachTime _ hs)

theorem positionReply (h : Kept P) {s : State} (st n p : Nat) (gs : List (Nat × Guard)) (hs : P s) :
    P (s.positionReply st n p gs) := by
  unfold State.positionReply
  (repeat' split) <;> first
    | exact hs
    | exact h.positionAnswer _ _ _ (h.writeGuards _ _ (h.takeReply _ hs))
    | exact h.takeReply _ hs

/-! ### Consolidation -/

theorem stopMerge (h : Kept P) {s : State} (c : StopCause) (t : Transfer) (hs : P s) : P (s.stopMerge c t) :=
  h.notify _ (h.merge _ hs)

theorem expireAttempt (h : Kept P) {s : State} (c : StopCause) (t : Transfer) (hs : P s) : P (s.expireAttempt c t) := by
  unfold State.expireAttempt
  dsimp only
  (repeat' split) <;> first
    | exact hs
    | exact h.divert _ (h.merge _ hs)
    | exact h.stopMerge _ _ hs

theorem changeRanks (h : Kept P) {s : State} (w : Nat) (hs : P s) : P (s.changeRanks w) := h.windows _ hs

theorem deliver (h : Kept P) {s : State} (i : Item) (hs : P s) : P (s.deliver i) := by
  have h1 := h.onOrder i.order (fun o => o.onLine i.line fun l => { l with delivered := l.delivered + 1 }) hs
  unfold State.deliver
  dsimp only
  (repeat' split) <;> first
    | exact hs
    | exact h.notifyOrder _ _ (h.onOrder _ _ h1)
    | exact h.notifyOrder _ _ h1
    | exact h1

theorem completeTransfer (h : Kept P) {s : State} (t : Transfer) (hs : P s) : P (s.completeTransfer t) := by
  refine h.testGrant (h.merge _ (h.changeRanks _ (h.window _ _ (h.deliver _ ?_))))
  exact h.window _ _ hs

theorem mergeLinkLost (h : Kept P) {s : State} (hs : P s) : P s.mergeLinkLost := by
  unfold State.mergeLinkLost
  (repeat' split) <;> first
    | exact hs
    | exact h.merge _ hs

theorem mergeLinkRegained (h : Kept P) {s : State} (hs : P s) : P s.mergeLinkRegained := by
  unfold State.mergeLinkRegained
  (repeat' split) <;> first
    | exact hs
    | exact h.expireAttempt _ _ hs
    | exact h.testGrant hs

theorem resumeMerge (h : Kept P) {s : State} (hs : P s) : P s.resumeMerge.1 := by
  unfold State.resumeMerge
  dsimp only
  split
  · exact h.startTransfer _ _ (h.merge _ hs)
  · exact h.testGrant (h.merge _ hs)

theorem arrived (h : Kept P) {s : State} (st n : Nat) (hs : P s) : P (s.arrived st n) := by
  unfold State.arrived
  (repeat' split) <;> first
    | exact hs
    | exact h.completeTransfer _ hs

theorem jammed (h : Kept P) {s : State} (st n : Nat) (hs : P s) : P (s.jammed st n) := by
  unfold State.jammed
  (repeat' split) <;> first
    | exact hs
    | exact h.stopMerge _ _ hs

theorem transferExpiry (h : Kept P) {s : State} (hs : P s) : P s.transferExpiry := by
  unfold State.transferExpiry
  (repeat' split) <;> first
    | exact hs
    | exact h.expireAttempt _ _ (h.reachTime _ hs)

/-! ### Audit -/

theorem joinCarriers (h : Kept P) {s : State} (k : Nat) (cs js : List Nat) (hs : P s) : P (s.joinCarriers k cs js) :=
  h.gainWork _ _ (h.foldl _ (fun _ c hs => h.joinAudit k c hs) cs hs)

theorem openTare (h : Kept P) {s : State} (k w c i : Nat) (hs : P s) : P (s.openTare k w c i) :=
  h.become _ _ (h.beginCount _ _ _ _ (h.window _ _ hs))

theorem settleExpiry (h : Kept P) {s : State} (w : Nat) (hs : P s) : P (s.settleExpiry w) := by
  unfold State.settleExpiry
  dsimp only
  (repeat' split) <;> first
    | exact hs
    | exact h.window _ _ (h.reachTime _ hs)

theorem applyResult (h : Kept P) {s : State} (a : SlotAddr) (x : Slot) (r : Option Reason) (l : Nat) (hs : P s) :
    P (s.applyResult a x r l) := by
  unfold State.applyResult
  (repeat' split) <;> first
    | exact hs
    | exact h.updateSlot _ _ hs
    | exact h.quarantine _ _ _ hs
    | exact h.slot _ _ hs

theorem removeDiscrepancy (h : Kept P) {s : State} (a : SlotAddr) (hs : P s) : P (s.removeDiscrepancy a) :=
  h.discrepancies _ (.inl (List.length_filter_le ..)) hs

theorem applyDiscrepancy (h : Kept P) {s : State} (a : SlotAddr) (x : Slot) (r : Option Reason) (e : Option Nat) (l : Nat) (hs : P s) :
    P (s.applyDiscrepancy a x r e l).1 := by
  unfold State.applyDiscrepancy
  dsimp only
  split
  · split
    · exact h.discrepancies _ (.inl (le_of_eq (List.length_map _))) hs
    · split
      · next hl => exact h.discrepancies _ (.inr (by rw [List.length_append]; exact hl)) hs
      · exact h.flags _ hs
  · split
    · exact h.removeDiscrepancy _ hs
    · exact hs

theorem judgeSlot (h : Kept P) {s : State} (w : Nat) (a : SlotAddr) (x : Slot) (n : Nat) (cal : Calibration) (hs : P s) :
    P (s.judgeSlot w a x n cal) :=
  h.reallocate _ (h.onMeasurement _ _ (h.notify _ (h.applyDiscrepancy _ _ _ _ _ (h.applyResult _ _ _ _ hs))))

theorem gateMeasure (h : Kept P) {s : State} (k w : Nat) (m : Measurement) (hs : P s) : P (s.gateMeasure k w m) := by
  unfold State.gateMeasure
  dsimp only
  split
  · next x _ =>
    have h1 := h.seekFrom k w m.carrier (m.position + 1) (h.judgeSlot w ⟨k, m.carrier, m.position⟩ x (s.window w).counter
      ((s.window w).calibrations.getD m.position ⟨0, 41⟩) hs)
    split <;> next heq =>
      (rw [heq] at h1
       first
         | exact h.finishCount _ _ _ h1
         | exact h1)
  · exact h.finishCount _ _ _ hs

theorem gateTare (h : Kept P) {s : State} (k w : Nat) (m : Measurement) (hs : P s) : P (s.gateTare k w m) :=
  h.finishCount _ _ _ (h.notify _ (h.window _ _ hs))

theorem gateExpiry (h : Kept P) {s : State} (w : Nat) (hs : P s) : P (s.gateExpiry w) := by
  unfold State.gateExpiry
  dsimp only
  (repeat' split) <;> first
    | exact hs
    | exact h.gateMeasure _ _ _ (h.window _ _ (h.reachTime _ hs))
    | exact h.gateTare _ _ _ (h.window _ _ (h.reachTime _ hs))

/-! ### Links -/

theorem onTest (h : Kept P) {s : State} (st : Nat) (f : TestRecord → TestRecord) (hs : P s) : P (s.onTest st f) :=
  h.link _ _ hs

theorem endAccess (h : Kept P) {s : State} (st : Nat) (r : AccessResult) (hs : P s) : P (s.endAccess st r) := by
  unfold State.endAccess
  dsimp only
  (repeat' split) <;> first
    | exact hs
    | exact h.notify _ (h.link _ _ hs)
    | exact h.endExchange _ _ _ (h.link _ _ hs)

theorem changeLink (h : Kept P) {s : State} (st : Nat) (new : LinkState) (c : LinkCause) (hs : P s) :
    P (s.changeLink st new c) := h.notify _ (h.link _ _ hs)

theorem leaveLocked (h : Kept P) {s : State} (st : Nat) (new : LinkState) (c : LinkCause) (r : AccessResult) (hs : P s) :
    P (s.leaveLocked st new c r) := by
  have h1 := h.endAccess st r (h.link st Link.clearTraffic (h.changeLink st new c hs))
  unfold State.leaveLocked State.tellLost
  split
  · exact h.mergeLinkLost h1
  · exact h.carouselLinkLost _ h1

theorem tellLocked (h : Kept P) {s : State} (st : Nat) (hs : P s) : P (s.tellLocked st) := by
  unfold State.tellLocked
  (repeat' split) <;> first
    | exact hs
    | exact h.mergeLinkRegained hs
    | exact h.learnPosition _ hs

theorem endTest (h : Kept P) {s : State} (st : Nat) (f : TestRecord → TestRecord) (hs : P s) : P (s.endTest st f) :=
  h.changeLink _ _ _ (h.link _ _ (h.onTest _ _ hs))

theorem replyTestStop (h : Kept P) {s : State} (st : Nat) (hs : P s) : P (s.replyTestStop st) := h.endExchange _ _ _ hs

theorem presenceActive (h : Kept P) {s : State} (st : Nat) (hs : P s) : P (s.presenceActive st) := by
  have h1 := h.link st (fun l => { l with present := true }) hs
  unfold State.presenceActive
  dsimp only
  (repeat' split) <;> first
    | exact hs
    | exact h.changeLink _ _ _ h1
    | exact h1

theorem abortTest (h : Kept P) {s : State} (st : Nat) (hs : P s) : P (s.abortTest st) :=
  h.replyTestStop _ (h.endExchange _ _ _ (h.changeLink _ _ _ (h.link _ _ (h.onTest _ _ hs))))

theorem presenceInactive (h : Kept P) {s : State} (st : Nat) (hs : P s) : P (s.presenceInactive st) := by
  have h1 := h.link st (fun l => { l with present := false }) hs
  unfold State.presenceInactive
  dsimp only
  (repeat' split) <;> first
    | exact hs
    | exact h1
    | exact h.changeLink _ _ _ h1
    | exact h.leaveLocked _ _ _ _ h1
    | exact h.abortTest _ h1

theorem lockReport (h : Kept P) {s : State} (st : Nat) (hs : P s) : P (s.lockReport st) := by
  unfold State.lockReport
  (repeat' split) <;> first
    | exact hs
    | exact h.tellLocked _ (h.link _ _ (h.changeLink _ _ _ hs))

theorem linkSettled (h : Kept P) {s : State} (st : Nat) (hs : P s) : P (s.linkSettled st) := by
  unfold State.linkSettled
  dsimp only
  (repeat' split) <;> first
    | exact hs
    | exact h.link _ _ (h.reachTime _ hs)

theorem replyExpiry (h : Kept P) {s : State} (st : Nat) (hs : P s) : P (s.replyExpiry st) := by
  unfold State.replyExpiry State.sendAgain State.thirdUnanswered State.testStartUnanswered
  dsimp only
  (repeat' split) <;> first
    | exact hs
    | exact h.link _ _ (h.reachTime _ hs)
    | exact h.endExchange _ _ _ (h.endTest _ _ (h.reachTime _ hs))
    | exact h.replyTestStop _ (h.endTest _ _ (h.reachTime _ hs))
    | exact h.leaveLocked _ _ _ _ (h.reachTime _ hs)

theorem acked (h : Kept P) {s : State} (st n : Nat) (hs : P s) : P (s.acked st n) := by
  have h1 := h.takeReply st hs
  unfold State.acked State.channelAcked
  (repeat' split) <;> first
    | exact hs
    | exact h1
    | exact h.onMeasurement _ _ h1
    | exact h.endExchange _ _ _ (h.onTest _ _ h1)
    | exact h.replyTestStop _ (h.endTest _ _ hs)

theorem accessReply (h : Kept P) {s : State} (st n : Nat) (v : Option Nat) (hs : P s) : P (s.accessReply st n v) := by
  have h1 := h.takeReply st hs
  unfold State.accessReply
  (repeat' split) <;> first
    | exact hs
    | exact h.endAccess _ _ h1

theorem testStopReply (h : Kept P) {s : State} (st n : Nat) (v : Option (TestVerdict × Nat)) (hs : P s) :
    P (s.testStopReply st n v) := by
  unfold State.testStopReply
  (repeat' split) <;> first
    | exact hs
    | exact h.replyTestStop _ (h.endTest _ _ hs)

theorem testSilence (h : Kept P) {s : State} (st : Nat) (hs : P s) : P (s.testSilence st) := by
  unfold State.testSilence
  dsimp only
  (repeat' split) <;> first
    | exact hs
    | exact h.onTest _ _ (h.reachTime _ hs)

theorem openAccess (h : Kept P) {s : State} (st : Nat) (a : Access) (hs : P s) : P (s.openAccess st a) :=
  h.handOver _ _ (h.link _ _ hs)

theorem startTest (h : Kept P) {s : State} (st : Nat) (d : TestDir) (l : Latch) (hs : P s) : P (s.startTest st d l) :=
  h.link _ _ (h.leaveLocked _ _ _ _ (h.link _ _ hs))

/-! ### Operating modes -/

theorem holdCarousel (h : Kept P) {s : State} (k : Nat) (hs : P s) : P (s.holdCarousel k) := by
  unfold State.holdCarousel
  (repeat' split) <;> first
    | exact hs
    | exact h.beginStop _ hs

theorem resumeCarousel (h : Kept P) {s : State} (k : Nat) (hs : P s) : P (s.resumeCarousel k) := by
  unfold State.resumeCarousel
  (repeat' split) <;> first
    | exact hs
    | exact h.resumeHeld _ hs
    | exact h.recompute _ hs

theorem stop (h : Kept P) {s : State} (hs : P s) : P s.stop := by
  refine h.foldl _ (fun s k hs => ?_) _ (h.mode _ hs)
  (repeat' split) <;> first
    | exact hs
    | exact h.carousel _ _ (fun _ => ⟨rfl, rfl, rfl⟩) (h.abandonQuery _ hs)

theorem start (h : Kept P) {s : State} (hs : P s) : P s.start := by
  refine h.foldl _ (fun s k hs => h.learnPosition k (h.carousel k Carousel.atStart (fun _ => ⟨rfl, rfl, rfl⟩) hs)) _ ?_
  exact h.windows _ (h.merge _ (h.mode .run hs))

end Kept

/-! ### The pools keep to their places (R41, R57, R158, R186) -/

/-- The pools hold no more than their places; the notice queue is `State.noticesFit`. -/
def State.placesFit (s : State) : Prop :=
  s.tasks.length ≤ Config.taskPool ∧ s.orders.length ≤ Config.orderPool ∧ s.picks.length ≤ Config.pickPool ∧
    s.discrepancies.length ≤ Config.discrepancyPlaces ∧ s.line.buffer.length ≤ Config.receivePlaces

theorem placesFit_of {s t : State} (hs : s.placesFit) (h1 : t.tasks.length ≤ s.tasks.length)
    (h2 : t.orders.length ≤ s.orders.length) (h3 : t.picks.length ≤ s.picks.length)
    (h4 : t.discrepancies.length ≤ s.discrepancies.length) (h5 : t.line.buffer.length ≤ s.line.buffer.length) : t.placesFit :=
  ⟨h1.trans hs.1, h2.trans hs.2.1, h3.trans hs.2.2.1, h4.trans hs.2.2.2.1, h5.trans hs.2.2.2.2⟩

theorem length_insertBy {α : Type} (before : α → α → Bool) (x : α) (xs : List α) :
    (insertBy before x xs).length = xs.length + 1 := by
  induction xs with
  | nil => rfl
  | cons y ys ih =>
    unfold insertBy
    split
    · rfl
    · simp [ih]

theorem writeSlot_buffer (s : State) (a : SlotAddr) (x : Slot) : (s.writeSlot a x).line.buffer = s.line.buffer := by
  have hn : ∀ (t : State) (n : Notice), (t.notify n).line.buffer = t.line.buffer := fun t n => by
    unfold State.notify
    split <;> rfl
  unfold State.writeSlot State.judgeOver
  dsimp only
  (repeat' split) <;> simp [hn]

/-- The places fit is kept by every operation. -/
theorem kept_placesFit : Kept State.placesFit where
  reaction := by
    intro s t h hs
    have h1 := congrArg (fun x : State => x.tasks.length) h
    have h2 := congrArg (fun x : State => x.orders.length) h
    have h3 := congrArg (fun x : State => x.picks.length) h
    have h4 := congrArg (fun x : State => x.discrepancies.length) h
    have h5 := congrArg (fun x : State => x.line.buffer.length) h
    simp only [State.lasting, List.length_map] at h1 h2 h3 h4 h5
    exact placesFit_of hs (le_of_eq h1) (le_of_eq h2) (le_of_eq h3) (le_of_eq h4) (le_of_eq h5)
  slot := by
    intro s a x hs
    exact placesFit_of hs (by simp) (by simp) (by simp) (by simp) (le_of_eq (by rw [writeSlot_buffer]))
  carousel := fun k f _ hs => placesFit_of hs (by simp) (by simp) (by simp) (by simp) (by simp)
  window := fun _ _ hs => hs
  windows := fun _ hs => hs
  link := fun _ _ hs => hs
  time := fun _ hs => hs
  merge := fun _ hs => hs
  mode := fun _ hs => hs
  flags := fun _ hs => hs
  settings := fun _ _ hs => hs
  articles := fun _ hs => hs
  commands := fun _ hs => hs
  draws := fun _ hs => hs
  line := fun _ h hs => placesFit_of hs (le_refl _) (le_refl _) (le_refl _) (le_refl _) h
  frame := by
    intro s f hs
    unfold State.arrive
    split
    · next hl => exact ⟨hs.1, hs.2.1, hs.2.2.1, hs.2.2.2.1, by simpa using Nat.succ_le_of_lt hl⟩
    · exact hs
  lanes := fun _ _ _ hs => hs
  orders := fun _ hs => placesFit_of hs (le_refl _) (by simp) (le_refl _) (le_refl _) (le_refl _)
  tasks := fun _ hs => placesFit_of hs (by simp) (le_refl _) (le_refl _) (le_refl _) (le_refl _)
  fewerOrders := fun _ _ hs => placesFit_of hs (le_refl _) (List.length_filter_le ..) (le_refl _) (le_refl _) (le_refl _)
  fewerTasks := fun _ hs => placesFit_of hs (List.length_filter_le ..) (le_refl _) (le_refl _) (le_refl _) (le_refl _)
  fewerPicks := fun _ hs => placesFit_of hs (le_refl _) (le_refl _) (List.length_filter_le ..) (le_refl _) (le_refl _)
  onePick := fun _ _ _ hl hs =>
    ⟨hs.1, hs.2.1, by rw [length_insertBy]; exact hl, hs.2.2.2.1, hs.2.2.2.2⟩
  oneOrder := fun _ _ hl hs => ⟨hs.1, by rw [List.length_append]; exact hl, hs.2.2⟩
  oneTask := fun _ hl hs => ⟨by rw [List.length_append]; exact hl, hs.2⟩
  discrepancies := by
    intro s ds h hs
    exact ⟨hs.1, hs.2.1, hs.2.2.1, h.elim (fun h => h.trans hs.2.2.2.1) id, hs.2.2.2.2⟩

/-! ### The balance figures are exact (R29, R34) -/

theorem figuresExact_of {s t : State} (hs : s.figuresExact)
    (h : ∀ k d, t.carousel? k = some d → ∃ c, s.carousel? k = some c ∧ d.figures = c.figures) : t.figuresExact := by
  intro k d hd
  obtain ⟨c, hc, e⟩ := h k d hd
  rw [e]
  exact hs k c hc

theorem figuresExact_carousels {s t : State} (h : t.carousels = s.carousels) (hs : s.figuresExact) : t.figuresExact := by
  unfold State.figuresExact State.carousel? at *
  rwa [h]

theorem carousel?_setCarousel (s : State) (k j : Nat) (c : Carousel) : (s.setCarousel k c).carousel? j =
    if k = j ∧ k < s.carousels.length then some c else s.carousel? j := by
  unfold State.setCarousel State.carousel?
  simp only [List.getD_eq_getElem?_getD, List.getElem?_set]
  by_cases h : k = j
  · subst h
    by_cases hl : k < s.carousels.length <;> simp [hl]
  · simp [h]

theorem figuresExact_setCarousel {s : State} {k : Nat} {c : Carousel} (hc : c.figures.exact) (hs : s.figuresExact) :
    (s.setCarousel k c).figuresExact := by
  intro j d hd
  rw [carousel?_setCarousel] at hd
  split at hd
  · cases hd
    exact hc
  · exact hs j d hd

/-- Exact but for BALANCE_OVER, which is about to be judged anew. -/
theorem figuresExact_judgeOver {s : State} {k : Nat} (hk : ∀ j c, j ≠ k → s.carousel? j = some c → c.figures.exact)
    (hw : ∀ c, s.carousel? k = some c →
      c.figures.committedW = worst c.figures.committed ∧ c.figures.onHandW = worst c.figures.onHand) :
    (s.judgeOver k).figuresExact := by
  unfold State.judgeOver
  split
  · next c hc =>
    dsimp only
    split
    · next h =>
      intro j d hd
      by_cases hj : j = k
      · subst hj
        have := hc.symm.trans hd
        cases this
        exact ⟨(hw c hc).1, (hw c hc).2, h.symm⟩
      · exact hk j d hj hd
    · refine figuresExact_carousels (State.notify_carousels ..) ?_
      intro j d hd
      rw [carousel?_setCarousel] at hd
      split at hd
      · cases hd
        exact ⟨(hw c hc).1, (hw c hc).2, rfl⟩
      · next hn =>
        by_cases hj : j = k
        · subst hj
          exfalso
          apply hn
          refine ⟨rfl, ?_⟩
          have := carousel?_eq hc
          exact (List.getElem?_eq_some_iff.mp this).1
        · exact hk j d hj hd
  · next hc =>
    intro j d hd
    by_cases hj : j = k
    · subst hj
      rw [hc] at hd
      cases hd
    · exact hk j d hj hd

/-- Exact figures are kept by every operation. -/
theorem kept_figuresExact : Kept State.figuresExact where
  reaction := by
    intro s t h hs
    refine figuresExact_of hs fun k d hd => ?_
    have h1 : (t.lasting.carousels[k]?) = s.lasting.carousels[k]? := by rw [h]
    have hd' := carousel?_eq hd
    simp only [State.lasting, List.getElem?_map, hd', Option.map_some] at h1
    cases hx : s.carousels[k]? with
    | none => simp [hx] at h1
    | some c? =>
      cases c? with
      | none => simp [hx] at h1
      | some c =>
        simp only [hx, Option.map_some, Option.some.injEq] at h1
        refine ⟨c, ?_, ?_⟩
        · unfold State.carousel?
          rw [List.getD_eq_getElem?_getD, hx]
          rfl
        · exact (congrArg Carousel.figures h1 : d.lasting.figures = c.lasting.figures)
  slot := by
    intro s a x hs
    unfold State.writeSlot
    split
    · next c old hc hold =>
      dsimp only
      split
      · exact figuresExact_setCarousel (c := { c with slots := _ }) (hs a.carousel c hc) hs
      · refine figuresExact_judgeOver ?_ ?_
        · intro j d hj hd
          rw [carousel?_setCarousel, if_neg fun h => hj h.1.symm] at hd
          exact hs j d hd
        · intro d hd
          rw [carousel?_setCarousel] at hd
          split at hd
          · cases hd
            exact ⟨rfl, rfl⟩
          · exact ⟨(hs _ _ hd).1, (hs _ _ hd).2.1⟩
    · exact hs
  carousel := by
    intro s k f hf hs
    unfold State.onCarousel
    split
    · next c hc => exact figuresExact_setCarousel (by rw [(hf c).2.2]; exact hs _ _ hc) hs
    · exact hs
  window := fun _ _ hs => hs
  windows := fun _ hs => hs
  link := fun _ _ hs => hs
  time := fun _ hs => hs
  merge := fun _ hs => hs
  mode := fun _ hs => hs
  flags := fun _ hs => hs
  settings := fun _ _ hs => hs
  articles := fun _ hs => hs
  commands := fun _ hs => hs
  draws := fun _ hs => hs
  line := fun _ _ hs => hs
  frame := fun _ hs => figuresExact_carousels (State.arrive_carousels ..) hs
  lanes := fun _ _ _ hs => hs
  orders := fun _ hs => hs
  tasks := fun _ hs => hs
  fewerOrders := fun _ _ hs => hs
  fewerTasks := fun _ hs => hs
  fewerPicks := fun _ hs => hs
  onePick := fun _ _ _ _ hs => hs
  oneOrder := fun _ _ _ hs => hs
  oneTask := fun _ _ hs => hs
  discrepancies := fun _ _ hs => hs

end Sys2Proof.Machine
end

