-- ==== Sys2Proof/WellFormed.lean ====
section
/-! DEFINITION. Which commands can be met at all: a request's tag is one byte of its frame (section 10.2), and an event names
a window, station, carousel, slot position, command number or transfer number that the part has. Fields that a request may
carry out of range are no matter of form: the owning rule answers them BAD_FIELD. -/

namespace Sys2Proof

/-- A tag is one byte of the frame (section 10.2). -/
def tagFits (tag : Nat) : Bool := tag ≤ 255
/-- There are five stations (R168). -/
def stationExists (station : Nat) : Bool := station < 5
/-- There are eight windows (R108). -/
def windowExists (window : Nat) : Bool := window < 8
/-- There are four carousels (00_scope.md). -/
def carouselExists (carousel : Nat) : Bool := carousel < 4
/-- A panel has a key group for each of at most six slot positions (R8, R150). -/
def positionExists (position : Nat) : Bool := position < 6
/-- Command numbers and transfer numbers run from 0 to 255 (R168, R135). -/
def numberFits (number : Nat) : Bool := number ≤ 255

/-- The check of one command. -/
def Instr.wf : Instr → Bool
  | .reset _ => true
  | .frameArrival _ => true
  | .frameGapTimeout => true
  | .transmitDone => true
  | .unknownKind kind tag => decide (kind ≤ 126) && tagFits tag
  | .status tag => tagFits tag
  | .clearFlags tag _ _ _ => tagFits tag
  | .start tag => tagFits tag
  | .stop tag => tagFits tag
  | .hold tag => tagFits tag
  | .resume tag => tagFits tag
  | .restart tag => tagFits tag
  | .setArticle tag _ _ _ _ => tagFits tag
  | .deleteArticle tag _ => tagFits tag
  | .getArticle tag _ => tagFits tag
  | .setCarousel tag _ _ _ _ _ _ => tagFits tag
  | .setWindow tag _ _ _ => tagFits tag
  | .setLane tag _ _ => tagFits tag
  | .setPutawayClass tag _ => tagFits tag
  | .setBridgeMode tag _ => tagFits tag
  | .loadSlot tag _ _ _ _ => tagFits tag
  | .withdraw tag _ => tagFits tag
  | .editSlot tag _ _ _ _ => tagFits tag
  | .restoreSlot tag _ => tagFits tag
  | .getSlot tag _ => tagFits tag
  | .getBalance tag _ _ => tagFits tag
  | .putaway tag _ _ _ _ _ => tagFits tag
  | .cancelPutaway tag _ => tagFits tag
  | .getPutaway tag _ => tagFits tag
  | .submitOrder tag _ _ _ => tagFits tag
  | .closeOrder tag _ => tagFits tag
  | .cancelOrder tag _ => tagFits tag
  | .ship tag _ => tagFits tag
  | .getOrder tag _ => tagFits tag
  | .recover tag _ => tagFits tag
  | .getCarousel tag _ => tagFits tag
  | .getWindow tag _ => tagFits tag
  | .laneCleared tag _ => tagFits tag
  | .mergeResume tag => tagFits tag
  | .setMergeTimeout tag _ => tagFits tag
  | .getMerge tag => tagFits tag
  | .audit tag _ _ _ => tagFits tag
  | .resolveSlot tag _ _ _ _ => tagFits tag
  | .setAuditTiming tag _ _ => tagFits tag
  | .setCal tag _ _ _ _ => tagFits tag
  | .getCal tag _ => tagFits tag
  | .tare tag _ _ => tagFits tag
  | .getAudit tag _ => tagFits tag
  | .getDiscrepancies tag => tagFits tag
  | .stationAccess tag _ _ _ _ => tagFits tag
  | .linkTestStart tag _ _ _ => tagFits tag
  | .linkTestStop tag _ => tagFits tag
  | .getLink tag _ => tagFits tag
  | .presenceActive station => stationExists station
  | .presenceInactive station => stationExists station
  | .lock station => stationExists station
  | .linkSettleExpiry station => stationExists station
  | .replyTimerExpiry station => stationExists station
  | .ack station number => stationExists station && numberFits number
  | .positionReply station number _ _ => stationExists station && numberFits number
  | .accessReply station number _ => stationExists station && numberFits number
  | .testStopReply station number _ => stationExists station && numberFits number
  | .testWord station _ => stationExists station
  | .testWordTimeout station => stationExists station
  | .moveDone station _ => stationExists station
  | .moveFail station _ _ => stationExists station
  | .stopped station _ => stationExists station
  | .guard station _ _ _ => stationExists station
  | .moveDeadlineExpiry carousel => carouselExists carousel
  | .restartDelayExpiry carousel => carouselExists carousel
  | .stopDeadlineExpiry carousel => carouselExists carousel
  | .minus window position => windowExists window && positionExists position
  | .confirm window position => windowExists window && positionExists position
  | .arrived station t => stationExists station && numberFits t
  | .jammed station t => stationExists station && numberFits t
  | .transferDeadlineExpiry => true
  | .sensorCycle window => windowExists window
  | .settleExpiry window => windowExists window
  | .gateExpiry window => windowExists window
  | .keySampling window down => windowExists window && decide (down.length ≤ 6)

end Sys2Proof
end

