-- ==== Sys2Proof/Laws/PerInstr.lean ====
section
/-! SUPPORT. A statement about every command as syntax: a well-formed command that is a request has a kind of section 10.4
below 127, the kind of notices, and a tag of one byte (section 10.2). -/

namespace Sys2Proof.Laws.RequestFits

/-- A well-formed request has a kind below 127 and a tag of one byte. -/
def Statement (i : Instr) : Prop :=
  i.wf = true → ∀ kind tag, i.request? = some (kind, tag) → kind < 127 ∧ tag ≤ 255

/-- What the check says of a request with a fixed kind. -/
theorem of_request {k t kind tag : Nat} (hk : k < 127) (ht : tagFits t = true) (h : some (k, t) = some (kind, tag)) :
    kind < 127 ∧ tag ≤ 255 := by
  cases h
  exact ⟨hk, by simpa [tagFits] using ht⟩

theorem reset : ∀ x0, Statement (.reset x0) :=
  fun _ _ _ _ h => nomatch h
theorem frameArrival : ∀ x0, Statement (.frameArrival x0) :=
  fun _ _ _ _ h => nomatch h
theorem frameGapTimeout : Statement (.frameGapTimeout) :=
  fun _ _ _ h => nomatch h
theorem transmitDone : Statement (.transmitDone) :=
  fun _ _ _ h => nomatch h
theorem unknownKind : ∀ kind tag, Statement (.unknownKind kind tag) := by
  intro kind tag hw k t h
  simp only [Instr.wf, Bool.and_eq_true, decide_eq_true_eq, tagFits] at hw
  cases h
  omega
theorem status : ∀ tag, Statement (.status tag) :=
  fun tag hw _ _ h => of_request (by decide) hw h
theorem clearFlags : ∀ tag x1 x2 x3, Statement (.clearFlags tag x1 x2 x3) :=
  fun tag x1 x2 x3 hw _ _ h => of_request (by decide) hw h
theorem start : ∀ tag, Statement (.start tag) :=
  fun tag hw _ _ h => of_request (by decide) hw h
theorem stop : ∀ tag, Statement (.stop tag) :=
  fun tag hw _ _ h => of_request (by decide) hw h
theorem hold : ∀ tag, Statement (.hold tag) :=
  fun tag hw _ _ h => of_request (by decide) hw h
theorem resume : ∀ tag, Statement (.resume tag) :=
  fun tag hw _ _ h => of_request (by decide) hw h
theorem restart : ∀ tag, Statement (.restart tag) :=
  fun tag hw _ _ h => of_request (by decide) hw h
theorem setArticle : ∀ tag x1 x2 x3 x4, Statement (.setArticle tag x1 x2 x3 x4) :=
  fun tag x1 x2 x3 x4 hw _ _ h => of_request (by decide) hw h
theorem deleteArticle : ∀ tag x1, Statement (.deleteArticle tag x1) :=
  fun tag x1 hw _ _ h => of_request (by decide) hw h
theorem getArticle : ∀ tag x1, Statement (.getArticle tag x1) :=
  fun tag x1 hw _ _ h => of_request (by decide) hw h
theorem setCarousel : ∀ tag x1 x2 x3 x4 x5 x6, Statement (.setCarousel tag x1 x2 x3 x4 x5 x6) :=
  fun tag x1 x2 x3 x4 x5 x6 hw _ _ h => of_request (by decide) hw h
theorem setWindow : ∀ tag x1 x2 x3, Statement (.setWindow tag x1 x2 x3) :=
  fun tag x1 x2 x3 hw _ _ h => of_request (by decide) hw h
theorem setLane : ∀ tag x1 x2, Statement (.setLane tag x1 x2) :=
  fun tag x1 x2 hw _ _ h => of_request (by decide) hw h
theorem setPutawayClass : ∀ tag x1, Statement (.setPutawayClass tag x1) :=
  fun tag x1 hw _ _ h => of_request (by decide) hw h
theorem setBridgeMode : ∀ tag x1, Statement (.setBridgeMode tag x1) :=
  fun tag x1 hw _ _ h => of_request (by decide) hw h
theorem loadSlot : ∀ tag x1 x2 x3 x4, Statement (.loadSlot tag x1 x2 x3 x4) :=
  fun tag x1 x2 x3 x4 hw _ _ h => of_request (by decide) hw h
theorem withdraw : ∀ tag x1, Statement (.withdraw tag x1) :=
  fun tag x1 hw _ _ h => of_request (by decide) hw h
theorem editSlot : ∀ tag x1 x2 x3 x4, Statement (.editSlot tag x1 x2 x3 x4) :=
  fun tag x1 x2 x3 x4 hw _ _ h => of_request (by decide) hw h
theorem restoreSlot : ∀ tag x1, Statement (.restoreSlot tag x1) :=
  fun tag x1 hw _ _ h => of_request (by decide) hw h
theorem getSlot : ∀ tag x1, Statement (.getSlot tag x1) :=
  fun tag x1 hw _ _ h => of_request (by decide) hw h
theorem getBalance : ∀ tag x1 x2, Statement (.getBalance tag x1 x2) :=
  fun tag x1 x2 hw _ _ h => of_request (by decide) hw h
theorem putaway : ∀ tag x1 x2 x3 x4 x5, Statement (.putaway tag x1 x2 x3 x4 x5) :=
  fun tag x1 x2 x3 x4 x5 hw _ _ h => of_request (by decide) hw h
theorem cancelPutaway : ∀ tag x1, Statement (.cancelPutaway tag x1) :=
  fun tag x1 hw _ _ h => of_request (by decide) hw h
theorem getPutaway : ∀ tag x1, Statement (.getPutaway tag x1) :=
  fun tag x1 hw _ _ h => of_request (by decide) hw h
theorem submitOrder : ∀ tag x1 x2 x3, Statement (.submitOrder tag x1 x2 x3) :=
  fun tag x1 x2 x3 hw _ _ h => of_request (by decide) hw h
theorem closeOrder : ∀ tag x1, Statement (.closeOrder tag x1) :=
  fun tag x1 hw _ _ h => of_request (by decide) hw h
theorem cancelOrder : ∀ tag x1, Statement (.cancelOrder tag x1) :=
  fun tag x1 hw _ _ h => of_request (by decide) hw h
theorem ship : ∀ tag x1, Statement (.ship tag x1) :=
  fun tag x1 hw _ _ h => of_request (by decide) hw h
theorem getOrder : ∀ tag x1, Statement (.getOrder tag x1) :=
  fun tag x1 hw _ _ h => of_request (by decide) hw h
theorem recover : ∀ tag x1, Statement (.recover tag x1) :=
  fun tag x1 hw _ _ h => of_request (by decide) hw h
theorem getCarousel : ∀ tag x1, Statement (.getCarousel tag x1) :=
  fun tag x1 hw _ _ h => of_request (by decide) hw h
theorem getWindow : ∀ tag x1, Statement (.getWindow tag x1) :=
  fun tag x1 hw _ _ h => of_request (by decide) hw h
theorem laneCleared : ∀ tag x1, Statement (.laneCleared tag x1) :=
  fun tag x1 hw _ _ h => of_request (by decide) hw h
theorem mergeResume : ∀ tag, Statement (.mergeResume tag) :=
  fun tag hw _ _ h => of_request (by decide) hw h
theorem setMergeTimeout : ∀ tag x1, Statement (.setMergeTimeout tag x1) :=
  fun tag x1 hw _ _ h => of_request (by decide) hw h
theorem getMerge : ∀ tag, Statement (.getMerge tag) :=
  fun tag hw _ _ h => of_request (by decide) hw h
theorem audit : ∀ tag x1 x2 x3, Statement (.audit tag x1 x2 x3) :=
  fun tag x1 x2 x3 hw _ _ h => of_request (by decide) hw h
theorem resolveSlot : ∀ tag x1 x2 x3 x4, Statement (.resolveSlot tag x1 x2 x3 x4) :=
  fun tag x1 x2 x3 x4 hw _ _ h => of_request (by decide) hw h
theorem setAuditTiming : ∀ tag x1 x2, Statement (.setAuditTiming tag x1 x2) :=
  fun tag x1 x2 hw _ _ h => of_request (by decide) hw h
theorem setCal : ∀ tag x1 x2 x3 x4, Statement (.setCal tag x1 x2 x3 x4) :=
  fun tag x1 x2 x3 x4 hw _ _ h => of_request (by decide) hw h
theorem getCal : ∀ tag x1, Statement (.getCal tag x1) :=
  fun tag x1 hw _ _ h => of_request (by decide) hw h
theorem tare : ∀ tag x1 x2, Statement (.tare tag x1 x2) :=
  fun tag x1 x2 hw _ _ h => of_request (by decide) hw h
theorem getAudit : ∀ tag x1, Statement (.getAudit tag x1) :=
  fun tag x1 hw _ _ h => of_request (by decide) hw h
theorem getDiscrepancies : ∀ tag, Statement (.getDiscrepancies tag) :=
  fun tag hw _ _ h => of_request (by decide) hw h
theorem stationAccess : ∀ tag x1 x2 x3 x4, Statement (.stationAccess tag x1 x2 x3 x4) :=
  fun tag x1 x2 x3 x4 hw _ _ h => of_request (by decide) hw h
theorem linkTestStart : ∀ tag x1 x2 x3, Statement (.linkTestStart tag x1 x2 x3) :=
  fun tag x1 x2 x3 hw _ _ h => of_request (by decide) hw h
theorem linkTestStop : ∀ tag x1, Statement (.linkTestStop tag x1) :=
  fun tag x1 hw _ _ h => of_request (by decide) hw h
theorem getLink : ∀ tag x1, Statement (.getLink tag x1) :=
  fun tag x1 hw _ _ h => of_request (by decide) hw h
theorem presenceActive : ∀ station, Statement (.presenceActive station) :=
  fun _ _ _ _ h => nomatch h
theorem presenceInactive : ∀ station, Statement (.presenceInactive station) :=
  fun _ _ _ _ h => nomatch h
theorem lock : ∀ station, Statement (.lock station) :=
  fun _ _ _ _ h => nomatch h
theorem linkSettleExpiry : ∀ station, Statement (.linkSettleExpiry station) :=
  fun _ _ _ _ h => nomatch h
theorem replyTimerExpiry : ∀ station, Statement (.replyTimerExpiry station) :=
  fun _ _ _ _ h => nomatch h
theorem ack : ∀ station number, Statement (.ack station number) :=
  fun _ _ _ _ _ h => nomatch h
theorem positionReply : ∀ station number x2 x3, Statement (.positionReply station number x2 x3) :=
  fun _ _ _ _ _ _ _ h => nomatch h
theorem accessReply : ∀ station number x2, Statement (.accessReply station number x2) :=
  fun _ _ _ _ _ _ h => nomatch h
theorem testStopReply : ∀ station number x2, Statement (.testStopReply station number x2) :=
  fun _ _ _ _ _ _ h => nomatch h
theorem testWord : ∀ station x1, Statement (.testWord station x1) :=
  fun _ _ _ _ _ h => nomatch h
theorem testWordTimeout : ∀ station, Statement (.testWordTimeout station) :=
  fun _ _ _ _ h => nomatch h
theorem moveDone : ∀ station x1, Statement (.moveDone station x1) :=
  fun _ _ _ _ _ h => nomatch h
theorem moveFail : ∀ station x1 x2, Statement (.moveFail station x1 x2) :=
  fun _ _ _ _ _ _ h => nomatch h
theorem stopped : ∀ station x1, Statement (.stopped station x1) :=
  fun _ _ _ _ _ h => nomatch h
theorem guard : ∀ station x1 x2 x3, Statement (.guard station x1 x2 x3) :=
  fun _ _ _ _ _ _ _ h => nomatch h
theorem moveDeadlineExpiry : ∀ carousel, Statement (.moveDeadlineExpiry carousel) :=
  fun _ _ _ _ h => nomatch h
theorem restartDelayExpiry : ∀ carousel, Statement (.restartDelayExpiry carousel) :=
  fun _ _ _ _ h => nomatch h
theorem stopDeadlineExpiry : ∀ carousel, Statement (.stopDeadlineExpiry carousel) :=
  fun _ _ _ _ h => nomatch h
theorem minus : ∀ window position, Statement (.minus window position) :=
  fun _ _ _ _ _ h => nomatch h
theorem confirm : ∀ window position, Statement (.confirm window position) :=
  fun _ _ _ _ _ h => nomatch h
theorem arrived : ∀ station t, Statement (.arrived station t) :=
  fun _ _ _ _ _ h => nomatch h
theorem jammed : ∀ station t, Statement (.jammed station t) :=
  fun _ _ _ _ _ h => nomatch h
theorem transferDeadlineExpiry : Statement (.transferDeadlineExpiry) :=
  fun _ _ _ h => nomatch h
theorem sensorCycle : ∀ window, Statement (.sensorCycle window) :=
  fun _ _ _ _ h => nomatch h
theorem settleExpiry : ∀ window, Statement (.settleExpiry window) :=
  fun _ _ _ _ h => nomatch h
theorem gateExpiry : ∀ window, Statement (.gateExpiry window) :=
  fun _ _ _ _ h => nomatch h
theorem keySampling : ∀ window down, Statement (.keySampling window down) :=
  fun _ _ _ _ _ h => nomatch h

end Sys2Proof.Laws.RequestFits
end

