-- ==== Sys2Proof/Laws/Pools.lean ====
section
/-! SUPPORT. The pools of the part keep to their places: what each operation does to the notice queue (R189), and that pick
allocation keeps to the pick pool (R57). -/

namespace Sys2Proof.Machine

/-! ### Operations that leave the host line as it was -/

theorem line_foldl {α : Type} (f : State → α → State) (h : ∀ s a, (f s a).line = s.line) (xs : List α) (s : State) :
    (xs.foldl f s).line = s.line := by
  induction xs generalizing s with
  | nil => rfl
  | cons x xs ih => simp [ih, h]

@[simp] theorem refresh_line (s : State) : s.refresh.line = s.line := by
  unfold State.refresh
  rw [line_foldl _ fun s w => by unfold State.refreshHeader; split <;> simp,
    line_foldl _ fun s k => by unfold State.refreshCarousel; split <;> simp]

@[simp] theorem fillPresentation_line (s : State) (k w c : Nat) : (s.fillPresentation k w c).line = s.line := by
  unfold State.fillPresentation
  simp

@[simp] theorem cancelPresentation_line (s : State) (w : Nat) : (s.cancelPresentation w).line = s.line := by
  unfold State.cancelPresentation
  split <;> simp

@[simp] theorem beginCount_line (s : State) (k w i q : Nat) : (s.beginCount k w i q).line = s.line := by
  unfold State.beginCount
  simp

@[simp] theorem become_line (s : State) (k : Nat) (st : CarouselState) : (s.become k st).line = s.line := by
  simp [State.become]

@[simp] theorem raisePassed_line (s : State) (k c cls : Nat) : (s.raisePassed k c cls).line = s.line := by
  simp [State.raisePassed]

@[simp] theorem sendMove_line (s : State) (k c : Nat) (p : Plan) : (s.sendMove k c p).line = s.line := by
  unfold State.sendMove
  split <;> simp

@[simp] theorem suspendMove_line (s : State) (k c : Nat) (p : Plan) : (s.suspendMove k c p).line = s.line := by
  simp [State.suspendMove]

@[simp] theorem beginStop_line (s : State) (k : Nat) : (s.beginStop k).line = s.line := by simp [State.beginStop]

@[simp] theorem standAt_line (s : State) (k p : Nat) : (s.standAt k p).line = s.line := by simp [State.standAt]

@[simp] theorem sendPosition_line (s : State) (k : Nat) (p : Purpose) : (s.sendPosition k p).line = s.line := by
  simp [State.sendPosition]

@[simp] theorem abandonQuery_line (s : State) (k : Nat) : (s.abandonQuery k).line = s.line := by simp [State.abandonQuery]

@[simp] theorem learnPosition_line (s : State) (k : Nat) : (s.learnPosition k).line = s.line := by
  unfold State.learnPosition
  (repeat' split) <;> simp

@[simp] theorem joinAudit_line (s : State) (k c : Nat) : (s.joinAudit k c).line = s.line := by simp [State.joinAudit]

@[simp] theorem testGrant_line (s : State) : s.testGrant.line = s.line := by
  unfold State.testGrant State.startTransfer State.divert
  (repeat' split) <;> simp

/-! ### The notice queue -/

/-- No more notices are held than there are places (R189). -/
def State.noticesFit (s : State) : Prop := s.line.notices.length ≤ Config.noticePlaces

theorem noticesFit_of_line {s t : State} (h : t.line = s.line) (hs : s.noticesFit) : t.noticesFit := by
  unfold State.noticesFit at *
  rw [h]
  exact hs

theorem noticesFit_notify {s : State} (n : Notice) (h : s.noticesFit) : (s.notify n).noticesFit := by
  unfold State.noticesFit State.notify at *
  split
  · next hlt => simpa using Nat.succ_le_of_lt hlt
  · exact h

theorem noticesFit_transmit {s : State} (h : s.noticesFit) : s.transmit.noticesFit := by
  unfold State.noticesFit State.transmit HostLine.choose at *
  (repeat' split) <;> first
    | exact h
    | (next hn => simp only [hn, List.length_cons] at h ⊢; omega)

theorem noticesFit_foldl {α : Type} (f : State → α → State) (h : ∀ s a, s.noticesFit → (f s a).noticesFit) (xs : List α)
    (s : State) (hs : s.noticesFit) : (xs.foldl f s).noticesFit := by
  induction xs generalizing s with
  | nil => exact hs
  | cons x xs ih => exact ih _ (h _ _ hs)

theorem noticesFit_seek {s : State} (k w c left i : Nat) (h : s.noticesFit) : (s.seek k w c left i).1.noticesFit := by
  induction left generalizing s i with
  | zero => exact h
  | succ n ih =>
    unfold State.seek
    split
    · split
      · exact ih _ (noticesFit_of_line (State.onMeasurement_line ..) (noticesFit_notify _ h))
      · exact noticesFit_of_line (beginCount_line ..) h
    · exact h

theorem noticesFit_seekFrom {s : State} (k w c i : Nat) (h : s.noticesFit) : (s.seekFrom k w c i).1.noticesFit := by
  unfold State.seekFrom
  split
  · exact noticesFit_seek _ _ _ _ _ h
  · exact h

theorem noticesFit_startMeasurement {s : State} (k w c : Nat) (h : s.noticesFit) : (s.startMeasurement k w c).1.noticesFit :=
  noticesFit_seekFrom _ _ _ _ (noticesFit_of_line (by simp) h)

theorem noticesFit_endMeasurement {s : State} (k w c : Nat) (opening : State → State)
    (ho : ∀ s, s.noticesFit → (opening s).noticesFit) (h : s.noticesFit) : (s.endMeasurement k w c opening).noticesFit := by
  have h1 : (s.dropMeasurement w).noticesFit := noticesFit_of_line (by simp) h
  unfold State.endMeasurement
  dsimp only
  (repeat' split) <;> first
    | exact h1
    | exact ho _ h1

theorem noticesFit_endPresentation {s : State} (k w c : Nat) (opening : State → State)
    (ho : ∀ s, s.noticesFit → (opening s).noticesFit) (h : s.noticesFit) : (s.endPresentation k w c opening).noticesFit := by
  have h1 : (s.dropPresentation w).noticesFit := noticesFit_of_line (by simp) h
  unfold State.endPresentation
  dsimp only
  split
  · split
    · have h2 := noticesFit_startMeasurement k w c h1
      split <;> next heq => (rw [heq] at h2; first | exact noticesFit_endMeasurement _ _ _ _ ho h2 | exact h2)
    · exact h1
  · exact h1

theorem noticesFit_openAt {s : State} (k w c fuel : Nat) (h : s.noticesFit) : (s.openAt k w c fuel).noticesFit := by
  induction fuel generalizing s with
  | zero => exact h
  | succ n ih =>
    have h1 : (s.fillPresentation k w c).noticesFit := noticesFit_of_line (by simp) h
    unfold State.openAt
    dsimp only
    split
    · exact noticesFit_endPresentation _ _ _ _ (fun _ hs => ih hs) h1
    · exact h1

theorem noticesFit_openWindow {s : State} (k w : Nat) (h : s.noticesFit) : (s.openWindow k w).noticesFit := by
  unfold State.openWindow
  (repeat' split) <;> first
    | exact h
    | exact noticesFit_openAt _ _ _ _ h

theorem noticesFit_openStanding {s : State} (k : Nat) (h : s.noticesFit) : (s.openStanding k).noticesFit :=
  noticesFit_foldl _ (fun _ _ hs => noticesFit_openWindow _ _ hs) _ _ h

theorem noticesFit_actOnce {s : State} (k : Nat) (h : s.noticesFit) : (s.actOnce k).1.noticesFit := by
  unfold State.actOnce
  (repeat' split) <;> first
    | exact h
    | exact noticesFit_openStanding _ (noticesFit_of_line (by simp) h)
    | exact noticesFit_of_line (by simp) h

theorem noticesFit_act {s : State} (k fuel : Nat) (h : s.noticesFit) : (s.act k fuel).noticesFit := by
  induction fuel generalizing s with
  | zero => exact h
  | succ n ih =>
    have h1 := noticesFit_actOnce k h
    unfold State.act
    split
    · split <;> next heq =>
        (rw [heq] at h1; first | exact ih (noticesFit_of_line (become_line ..) h1) | exact h1)
    · exact h

theorem noticesFit_idleAndAct {s : State} (k : Nat) (h : s.noticesFit) : (s.idleAndAct k).noticesFit :=
  noticesFit_act _ _ (noticesFit_of_line (become_line ..) h)

theorem noticesFit_testWindows {s : State} (k : Nat) (h : s.noticesFit) : (s.testWindows k).noticesFit := by
  unfold State.testWindows
  split
  · exact noticesFit_idleAndAct _ h
  · exact h

theorem noticesFit_recompute {s : State} (k : Nat) (h : s.noticesFit) : (s.recompute k).noticesFit := noticesFit_act _ _ h

theorem noticesFit_openGained {s : State} (k : Nat) (cs : List Nat) (h : s.noticesFit) : (s.openGained k cs).noticesFit :=
  noticesFit_foldl _ (fun _ _ h => by
    (repeat' split) <;> first
      | exact h
      | exact noticesFit_openWindow _ _ h) _ _ h

theorem noticesFit_gainWork {s : State} (k : Nat) (cs : List Nat) (h : s.noticesFit) : (s.gainWork k cs).noticesFit := by
  unfold State.gainWork
  refine noticesFit_recompute _ (noticesFit_testWindows _ (noticesFit_openGained _ _ ?_))
  split
  · exact noticesFit_recompute _ h
  · exact h

theorem noticesFit_testEnd {s : State} (w : Nat) (h : s.noticesFit) : (s.testEnd w).noticesFit := by
  unfold State.testEnd
  (repeat' split) <;> first
    | exact h
    | exact noticesFit_testWindows _ (noticesFit_endPresentation _ _ _ _ (fun _ hs => noticesFit_openAt _ _ _ _ hs) h)

theorem noticesFit_testEnds {s : State} (h : s.noticesFit) : s.testEnds.noticesFit :=
  noticesFit_foldl _ (fun _ _ hs => noticesFit_testEnd _ hs) _ _ h

theorem noticesFit_resumeHeld {s : State} (k : Nat) (h : s.noticesFit) : (s.resumeHeld k).noticesFit := by
  unfold State.resumeHeld
  split
  · exact noticesFit_of_line (become_line ..) h
  · exact noticesFit_idleAndAct _ h

theorem noticesFit_enterHeld {s : State} (k : Nat) (h : s.noticesFit) : (s.enterHeld k).noticesFit :=
  noticesFit_openStanding _ (noticesFit_of_line (become_line ..) h)

theorem noticesFit_enterFault {s : State} (k : Nat) (r : MoveFaultReason) (h : s.noticesFit) : (s.enterFault k r).noticesFit := by
  unfold State.enterFault
  split
  · exact noticesFit_notify _ h
  · exact h

theorem noticesFit_interrupt {s : State} (k w : Nat) (h : s.noticesFit) : (s.interrupt k w).noticesFit := by
  unfold State.interrupt
  (repeat' split) <;> first
    | exact h
    | exact noticesFit_of_line (s := s.notify _) (by simp; rfl) (noticesFit_notify _ h)

theorem noticesFit_carouselLinkLost {s : State} (k : Nat) (h : s.noticesFit) : (s.carouselLinkLost k).noticesFit := by
  unfold State.carouselLinkLost
  split <;> first
    | exact h
    | exact noticesFit_enterFault _ _ h
    | exact noticesFit_of_line (abandonQuery_line ..) h
    | exact noticesFit_foldl _ (fun _ _ hs => noticesFit_interrupt _ _ hs) _ _ (noticesFit_of_line (by simp) h)

/-! ### Slots, picks, targets -/

theorem noticesFit_judgeOver {s : State} (k : Nat) (h : s.noticesFit) : (s.judgeOver k).noticesFit := by
  unfold State.judgeOver
  dsimp only
  (repeat' split) <;> first
    | exact h
    | exact noticesFit_notify _ h

theorem noticesFit_writeSlot {s : State} (a : SlotAddr) (x : Slot) (h : s.noticesFit) : (s.writeSlot a x).noticesFit := by
  unfold State.writeSlot
  dsimp only
  (repeat' split) <;> first
    | exact h
    | exact noticesFit_judgeOver _ h

theorem noticesFit_updateSlot {s : State} (a : SlotAddr) (f : Slot → Slot) (h : s.noticesFit) :
    (s.updateSlot a f).noticesFit := by
  unfold State.updateSlot
  split
  · exact noticesFit_writeSlot _ _ h
  · exact h

theorem noticesFit_createPick {s : State} (tag i : Nat) (c : PickCandidate) (h : s.noticesFit) :
    (s.createPick tag i c).noticesFit := by
  unfold State.createPick
  dsimp only
  have h1 : ∀ ps n, (({ s with picks := ps, creations := n } : State).updateSlot c.addr
      fun slot => { slot with reserved := slot.reserved + c.quantity }).noticesFit := fun ps n => noticesFit_updateSlot _ _ h
  have h2 : ∀ ps n, ((({ s with picks := ps, creations := n } : State).updateSlot c.addr
      fun slot => { slot with reserved := slot.reserved + c.quantity }).onOrder tag fun o =>
        o.onLine i fun l => { l with openPicks := l.openPicks + 1 }).noticesFit :=
    fun ps n => noticesFit_of_line (State.onOrder_line ..) (h1 ps n)
  split
  · exact noticesFit_of_line ((State.joinEntry_line ..).trans (State.onPick_line ..)) (noticesFit_gainWork _ _ (h2 _ _))
  · exact noticesFit_gainWork _ _ (h2 _ _)

theorem noticesFit_judgeShort {s : State} (tag i : Nat) (cause : ShortCause) (h : s.noticesFit) :
    (s.judgeShort tag i cause).noticesFit := by
  unfold State.judgeShort
  dsimp only
  (repeat' split) <;> first
    | exact h
    | exact noticesFit_notify _ h

theorem noticesFit_allocateLine {s : State} (tag i fuel : Nat) (h : s.noticesFit) : (s.allocateLine tag i fuel).noticesFit := by
  induction fuel generalizing s with
  | zero => exact h
  | succ n ih =>
    unfold State.allocateLine
    (repeat' split) <;> first
      | exact h
      | exact noticesFit_judgeShort _ _ _ h
      | exact ih (noticesFit_createPick _ _ _ h)

theorem noticesFit_allocateOrder {s : State} (tag : Nat) (h : s.noticesFit) : (s.allocateOrder tag).noticesFit := by
  unfold State.allocateOrder
  split
  · exact noticesFit_foldl _ (fun _ _ hs => noticesFit_allocateLine _ _ _ hs) _ _ h
  · exact h

theorem noticesFit_reallocate {s : State} (r : Reach) (h : s.noticesFit) : (s.reallocate r).noticesFit :=
  noticesFit_foldl _ (fun _ _ hs => noticesFit_allocateLine _ _ _ hs) _ _ h

theorem noticesFit_reallocateFor {s : State} (held : Option Holding) (n : Nat) (h : s.noticesFit) :
    (s.reallocateFor held n).noticesFit := by
  unfold State.reallocateFor
  (repeat' split) <;> first
    | exact h
    | exact noticesFit_reallocate _ h

theorem noticesFit_cancelPick {s : State} (p : Pick) (h : s.noticesFit) : (s.cancelPick p).noticesFit := by
  refine noticesFit_recompute _ (noticesFit_of_line ?_ (noticesFit_updateSlot p.addr
    (fun slot => { slot with reserved := slot.reserved - p.quantity }) h))
  simp

theorem noticesFit_cancelOrderPicks {s : State} (tag : Nat) (h : s.noticesFit) : (s.cancelOrderPicks tag).noticesFit :=
  noticesFit_foldl _ (fun _ _ hs => noticesFit_cancelPick _ hs) _ _ h

theorem noticesFit_notifyOrder {s : State} (tag : Nat) (o : Occasion) (h : s.noticesFit) : (s.notifyOrder tag o).noticesFit := by
  unfold State.notifyOrder
  split
  · exact noticesFit_notify _ h
  · exact h

theorem noticesFit_bind {s : State} (tag lane : Nat) (h : s.noticesFit) : (s.bind tag lane).noticesFit :=
  noticesFit_allocateOrder _ (noticesFit_notifyOrder _ _ h)

theorem noticesFit_bindingRun {s : State} (fuel : Nat) (h : s.noticesFit) : (s.bindingRun fuel).noticesFit := by
  induction fuel generalizing s with
  | zero => exact h
  | succ n ih =>
    unfold State.bindingRun
    split
    · exact ih (noticesFit_bind _ _ h)
    · exact h

theorem noticesFit_freeOrder {s : State} (tag : Nat) (h : s.noticesFit) : (s.freeOrder tag).noticesFit := by
  have h1 := noticesFit_cancelOrderPicks tag h
  unfold State.freeOrder
  dsimp only
  (repeat' split) <;> first
    | exact h
    | exact h1
    | exact noticesFit_bindingRun _ (noticesFit_of_line (State.setLaneState_line ..) h1)

theorem noticesFit_createTarget {s : State} (tag place batch : Nat) (c : Candidate) (h : s.noticesFit) :
    (s.createTarget tag place batch c).noticesFit := by
  refine noticesFit_of_line (State.joinEntry_line ..) (noticesFit_gainWork _ _ (noticesFit_updateSlot _ _ ?_))
  exact noticesFit_of_line (State.onTask_line ..) h

theorem noticesFit_allocatePut {s : State} (tag place batch : Nat) (art : Article) (pref : Option Nat) (left rem : Nat)
    (h : s.noticesFit) : (s.allocatePut tag place batch art pref left rem).noticesFit := by
  induction left generalizing s rem with
  | zero => exact h
  | succ n ih =>
    unfold State.allocatePut
    (repeat' split) <;> first
      | exact h
      | exact ih _ (noticesFit_createTarget _ _ _ _ h)

theorem noticesFit_endTask {s : State} (tag : Nat) (h : s.noticesFit) : (s.endTask tag).noticesFit := by
  unfold State.endTask
  (repeat' split) <;> first
    | exact h
    | exact noticesFit_notify _ h

theorem noticesFit_cancelTarget {s : State} (tag : Nat) (x : Target) (cause : CancelCause) (h : s.noticesFit) :
    (s.cancelTarget tag x cause).noticesFit :=
  noticesFit_recompute _ (noticesFit_of_line (State.removeEntry_line ..) (noticesFit_updateSlot _ _ h))

theorem noticesFit_clearReservations {s : State} (a : SlotAddr) (h : s.noticesFit) : (s.clearReservations a).noticesFit :=
  noticesFit_foldl _ (fun _ _ hs => noticesFit_endTask _ (noticesFit_cancelTarget _ _ _ hs)) _ _
    (noticesFit_foldl _ (fun _ _ hs => noticesFit_cancelPick _ hs) _ _ h)

theorem noticesFit_quarantine {s : State} (a : SlotAddr) (r : Reason) (load : Option Nat) (h : s.noticesFit) :
    (s.quarantine a r load).noticesFit := noticesFit_updateSlot _ _ (noticesFit_clearReservations _ h)

end Sys2Proof.Machine
end

