-- ==== Sys2Proof/Laws/Queues.lean ====
section
/-! SUPPORT. Entry queues and choices that find nothing: the order of entries and where a new one stands (R110, R112), when there
is no plan, no next target and no put-away choice (R85, R86, R46), and on what of the state the bounds of the records depend. -/

namespace Sys2Proof.Machine

/-! ### Records that fit -/

/-- What reactions, allocation and lane binding leave of the part says whether its records fit their places. -/
theorem recordsFit_of_unbound {s t : State} (h : s.unbound = t.unbound) (hs : s.recordsFit) : t.recordsFit := by
  have ho := congrArg State.orders h
  have ht := congrArg State.tasks h
  have hw := congrArg State.windows h
  simp only [State.unbound, State.stored, State.lasting] at ho ht hw
  have lines : ∀ os : List Order, (os.map fun o => o.lines.length) =
      ((os.map Order.stored).map Order.unbound).map fun o => o.lines.length := by
    intro os
    simp [Order.unbound, Order.stored, Function.comp_def]
  refine ⟨?_, ht ▸ hs.2.1, fun v hv => ?_, fun o hm => ?_⟩
  · rw [lines t.orders, ← ho, ← lines]
    exact hs.1
  · have : v.lasting ∈ s.windows.map Window.lasting := hw ▸ List.mem_map_of_mem hv
    obtain ⟨u, hu, e⟩ := List.mem_map.1 this
    have : u.lasting.outfeed = v.lasting.outfeed := congrArg Window.outfeed e
    have : u.outfeed = v.outfeed := this
    exact this ▸ hs.2.2.1 u hu
  · have : o.stored.unbound ∈ (s.orders.map Order.stored).map Order.unbound :=
      ho ▸ List.mem_map_of_mem (List.mem_map_of_mem hm)
    obtain ⟨x, hx, e⟩ := List.mem_map.1 this
    obtain ⟨y, hy, rfl⟩ := List.mem_map.1 hx
    have : y.stored.unbound.priority = o.stored.unbound.priority := congrArg Order.priority e
    have : y.priority = o.priority := this
    exact this ▸ hs.2.2.2 y hy

/-! ### Entry queues -/

/-- Order of triples, spelled out. -/
theorem lexTriple_iff (a b : Nat × Nat × Nat) :
    lexTriple a b = true ↔ a.1 < b.1 ∨ (a.1 = b.1 ∧ (a.2.1 < b.2.1 ∨ (a.2.1 = b.2.1 ∧ a.2.2 < b.2.2))) := by
  simp [lexTriple, lexPair]

/-- Of two entries at most one stands before the other (R110). -/
theorem entryBefore_asymm (s : State) {a b : Entry} (h : s.entryBefore a b = true) : s.entryBefore b a = false := by
  unfold State.entryBefore at *
  rw [lexTriple_iff] at h
  rw [Bool.eq_false_iff, ne_eq, lexTriple_iff]
  omega

/-- An insertion stands behind the elements it does not precede and before the first that it precedes. -/
theorem insertBy_split {α : Type} (before : α → α → Bool) (x : α) (xs : List α) : ∃ l r, xs = l ++ r ∧
    insertBy before x xs = l ++ x :: r ∧ (∀ y ∈ l, before x y = false) ∧ ∀ y ∈ r.head?, before x y = true := by
  induction xs with
  | nil => exact ⟨[], [], rfl, rfl, by simp, by simp⟩
  | cons y ys ih =>
    by_cases hy : before x y = true
    · exact ⟨[], y :: ys, rfl, by simp [insertBy, hy], by simp, by simpa using hy⟩
    · obtain ⟨l, r, h1, h2, h3, h4⟩ := ih
      exact ⟨y :: l, r, by simp [h1], by simp [insertBy, hy, h2], by simpa [hy] using h3, h4⟩

/-- In a sorted list nothing that stands later precedes what stands earlier, for an order in which elements may be alike. -/
theorem sortBy_pairwise_not {α : Type} (before : α → α → Bool)
    (asymm : ∀ a b, before a b = true → before b a = false)
    (trans : ∀ a b c, before b a = false → before c b = false → before c a = false) (xs : List α) :
    (sortBy before xs).Pairwise fun a b => before b a = false := by
  have main : ∀ (ys acc : List α), (acc.Pairwise fun a b => before b a = false) →
      (ys.foldl (fun acc x => insertBy before x acc) acc).Pairwise fun a b => before b a = false := by
    intro ys
    induction ys with
    | nil => exact fun _ h => h
    | cons y ys ih =>
      intro acc h
      refine ih _ ?_
      obtain ⟨l, r, rfl, h2, h3, h4⟩ := insertBy_split before y acc
      show (insertBy before y (l ++ r)).Pairwise _
      rw [h2]
      obtain ⟨hl, hr, hlr⟩ := List.pairwise_append.1 h
      refine List.pairwise_append.2 ⟨hl, List.pairwise_cons.2 ⟨fun b hb => ?_, hr⟩, fun a ha b hb => ?_⟩
      · cases r with
        | nil => cases hb
        | cons c r =>
          have hc := asymm _ _ (h4 c rfl)
          rcases List.mem_cons.1 hb with rfl | hb
          · exact hc
          · exact trans _ c _ hc ((List.pairwise_cons.1 hr).1 b hb)
      · rcases List.mem_cons.1 hb with rfl | hb
        · exact h3 a ha
        · exact hlr a ha b hb
  exact main xs [] .nil

/-- An entry that is not before one that is not before a third is not before the third (R110). -/
theorem entryBefore_negTrans (s : State) (a b c : Entry) (h : s.entryBefore b a = false) (h' : s.entryBefore c b = false) :
    s.entryBefore c a = false := by
  unfold State.entryBefore at *
  rw [Bool.eq_false_iff, ne_eq, lexTriple_iff] at *
  omega

/-- The entries of a presentation's queue stand in the order of R110. -/
theorem fillQueue_pairwise (s : State) (k c i : Nat) : (s.fillQueue k c i).Pairwise fun a b => s.entryBefore b a = false :=
  sortBy_pairwise_not _ (fun _ _ => entryBefore_asymm s) (fun a b c => entryBefore_negTrans s a b c) _

/-- An entry that joins never stands before the head (R112). -/
theorem joinQueue_head (s : State) (e h : Entry) (rest : List Entry) : (s.joinQueue e (h :: rest)).head? = some h := by
  rw [State.joinQueue]
  split <;> rfl

/-- A window at which a carrier is presented (R112). -/
theorem presentingWindow_some {s : State} {k c w : Nat} (h : s.presentingWindow k c = some w) :
    w ∈ s.windowsOf k ∧ ∃ p, (s.window w).presentation = some p ∧ p.carrier = c := by
  unfold State.presentingWindow at h
  have h1 := List.find?_some h
  refine ⟨List.mem_of_find?_eq_some h, ?_⟩
  split at h1
  · next p hp => exact ⟨p, hp, by simpa using h1⟩
  · cases h1

/-! ### Choices that find nothing -/

/-- No plan just when the carousel has no window (R86). -/
theorem plan_eq_none {s : State} {k : Nat} {r : Carousel} (h : s.carousel? k = some r) (c : Nat) :
    s.plan k c = none ↔ s.windowsOf k = [] := by
  unfold State.plan
  simp only [h]
  rw [leastBy_eq_none, List.map_eq_nil_iff]

/-- No next target just when no carrier is a candidate (R85). -/
theorem nextTarget_eq_none {s : State} {k : Nat} {r : Carousel} (h : s.carousel? k = some r) :
    s.nextTarget k = none ↔ ∀ d, d < r.geometry.n → s.carrierClass k d = none ∨ s.plan k d = none ∨ s.standsInUse k d = true := by
  unfold State.nextTarget
  simp only [h]
  rw [Option.map_eq_none_iff, leastBy_eq_none, List.filterMap_eq_nil_iff]
  simp only [List.mem_range]
  refine forall₂_congr fun d _ => ?_
  cases s.carrierClass k d <;> cases s.plan k d <;> simp

/-- No choice just when no tier has a candidate granted (R45, R46). -/
theorem choosePut_eq_none (s : State) (place batch : Nat) (art : Article) (pref : Option Nat) (remaining : Nat) :
    s.choosePut place batch art pref remaining = none ↔
      ∀ t ∈ tiers art.sizeClass, s.putCandidates place batch art pref remaining t = [] := by
  unfold State.choosePut
  rw [List.findSome?_eq_none_iff]
  simp only [leastBy_eq_none]

end Sys2Proof.Machine
end

