-- ==== Sys2Proof/Laws/Updates.lean ====
section
/-! SUPPORT. What an update of a carousel, a window or a link reads back as, and how two of them in a row combine; when a window
of a carousel is in use; what `State.reachTime` leaves. -/

namespace Sys2Proof.Machine

/-! ### Carousels -/

/-- A configured carousel has a place. -/
theorem carousel?_lt {s : State} {k : Nat} {c : Carousel} (h : s.carousel? k = some c) : k < s.carousels.length :=
  (List.getElem?_eq_some_iff.mp (carousel?_eq h)).1

/-- A configured carousel reads back as it was set. -/
theorem carousel?_set {s : State} {k : Nat} {c : Carousel} (h : s.carousel? k = some c) (d : Carousel) :
    (s.setCarousel k d).carousel? k = some d := by
  simp [State.carousel?, State.setCarousel, carousel?_lt h]

/-- Of two settings of one carousel the later stands. -/
@[simp] theorem State.setCarousel_setCarousel (s : State) (k : Nat) (c d : Carousel) :
    (s.setCarousel k c).setCarousel k d = s.setCarousel k d := by
  simp [State.setCarousel]

/-- A configured carousel set as it is leaves the part as it was. -/
theorem State.setCarousel_self {s : State} {k : Nat} {c : Carousel} (h : s.carousel? k = some c) : s.setCarousel k c = s := by
  obtain ⟨hk, hget⟩ := List.getElem?_eq_some_iff.mp (carousel?_eq h)
  simp [State.setCarousel, ← hget]

/-- A change of a configured carousel sets it. -/
theorem State.onCarousel_eq {s : State} {k : Nat} {c : Carousel} (h : s.carousel? k = some c) (f : Carousel → Carousel) :
    s.onCarousel k f = s.setCarousel k (f c) := by
  simp [State.onCarousel, h]

/-- A configured carousel takes a state. -/
theorem State.become_eq {s : State} {k : Nat} {c : Carousel} (h : s.carousel? k = some c) (st : CarouselState) :
    s.become k st = s.setCarousel k { c with state := st } := State.onCarousel_eq h _

@[simp] theorem State.windowsOf_setCarousel (s : State) (k j : Nat) (c : Carousel) :
    (s.setCarousel k c).windowsOf j = s.windowsOf j := rfl

@[simp] theorem State.window_setCarousel (s : State) (k w : Nat) (c : Carousel) : (s.setCarousel k c).window w = s.window w := rfl

@[simp] theorem State.anyInUse_setCarousel (s : State) (k j : Nat) (c : Carousel) :
    (s.setCarousel k c).anyInUse j = s.anyInUse j := rfl

/-- A window of the carousel is in use (R89). -/
theorem anyInUse_iff (s : State) (k : Nat) : s.anyInUse k = true ↔
    ∃ w ∈ s.windowsOf k, (s.window w).presentation ≠ none ∨ (s.window w).measurement ≠ none := by
  simp [State.anyInUse, Window.inUse, Option.isSome_iff_ne_none]

/-! ### Links -/

/-- A link reads back as it was changed. -/
theorem link_onLink {s : State} {st : Nat} (h : st < s.links.length) (f : Link → Link) : (s.onLink st f).link st = f (s.link st) := by
  simp [State.onLink, State.link, h]

/-- Two changes of one link are one change. -/
theorem onLink_onLink {s : State} {st : Nat} (h : st < s.links.length) (f g : Link → Link) :
    (s.onLink st f).onLink st g = s.onLink st fun l => g (f l) := by
  simp [State.onLink, State.link, h]

@[simp] theorem State.onLink_links_length (s : State) (st : Nat) (f : Link → Link) :
    (s.onLink st f).links.length = s.links.length := by simp [State.onLink]

/-- Queueing a notice and changing a link commute. -/
theorem notify_onLink (s : State) (n : Notice) (st : Nat) (f : Link → Link) :
    (s.notify n).onLink st f = (s.onLink st f).notify n := by
  unfold State.notify State.onLink State.link
  split <;> simp

/-! ### Time -/

@[simp] theorem State.reachTime_links_length (s : State) (e : Time) : (s.reachTime e).links.length = s.links.length := by
  unfold State.reachTime State.atTime
  split <;> simp

/-- Time alone changes no link state. -/
theorem reachTime_link_state (s : State) (e : Time) (st : Nat) : ((s.reachTime e).link st).state = (s.link st).state := by
  unfold State.reachTime State.atTime State.link
  split
  · rfl
  · simp only [List.getD_eq_getElem?_getD, List.getElem?_map]
    cases s.links[st]? <;> rfl

/-! ### The tests that follow a presentation or a resume (R99, R100) -/

/-- A PRESENTING carousel with no window in use becomes IDLE and acts (R100). -/
theorem testWindows_idle {s : State} {k : Nat} {c : Carousel} (h : s.carousel? k = some c) (hc : c.state = .presenting)
    (hu : s.anyInUse k = false) : s.testWindows k = (s.setCarousel k { c with state := .idle }).recompute k := by
  unfold State.testWindows
  rw [if_pos ⟨by simp [State.carouselState, h, hc], hu⟩, State.idleAndAct, State.become_eq h]
  rfl

/-- A HELD carousel goes on as PRESENTING while a window of it is in use, else it becomes IDLE and acts (R99). -/
theorem resumeHeld_eq {s : State} {k : Nat} {c : Carousel} (h : s.carousel? k = some c) : s.resumeHeld k =
    if s.anyInUse k then s.setCarousel k { c with state := .presenting }
    else (s.setCarousel k { c with state := .idle }).recompute k := by
  unfold State.resumeHeld State.idleAndAct State.recompute
  rw [State.become_eq h, State.become_eq h]

end Sys2Proof.Machine
end

