-- ==== Sys2Proof/Tests/Slice0.lean ====
section
/-! SUPPORT. Tests. Ill-formed terms that the check refuses; for every statement with hypotheses, and for each of its clauses, a
state and operands that meet them (`witness_…`); and steps of single commands on a small store (`test_…`). -/

namespace Sys2Proof.Tests

open Sys2Proof Sys2Proof.Machine

set_option Elab.async false

/-! ### Well-formedness: one ill-formed command for each check -/

theorem test_tag_above_a_byte_is_refused : (Instr.status 256).wf = false ∧ (Instr.status 255).wf = true := by decide

theorem test_notice_kind_is_no_request : (Instr.unknownKind 127 1).wf = false ∧ (Instr.unknownKind 126 1).wf = true := by decide

theorem test_station_five_is_refused : (Instr.lock 5).wf = false ∧ (Instr.lock 4).wf = true := by decide

theorem test_window_eight_is_refused : (Instr.sensorCycle 8).wf = false ∧ (Instr.sensorCycle 7).wf = true := by decide

theorem test_carousel_four_is_refused :
    (Instr.moveDeadlineExpiry 4).wf = false ∧ (Instr.moveDeadlineExpiry 3).wf = true := by decide

theorem test_position_six_is_refused : (Instr.minus 0 6).wf = false ∧ (Instr.minus 0 5).wf = true := by decide

theorem test_command_number_256_is_refused : (Instr.ack 0 256).wf = false ∧ (Instr.ack 0 255).wf = true := by decide

theorem test_seven_key_groups_are_refused :
    (Instr.keySampling 0 (List.replicate 7 (true, true))).wf = false ∧
      (Instr.keySampling 0 (List.replicate 6 (true, true))).wf = true := by decide

/-! ### A small store -/

/-- The next state of a command. -/
def after (i : Instr) (s : State) : State :=
  match exec i s with
  | .next t => t
  | _ => s

/-- Result and fields of the reply being sent. -/
def replyOf (s : State) : Option (Result × ReplyBody) :=
  match s.line.sending with
  | some f => match f.content with
    | .reply r => some (r.result, r.body)
    | .notice _ => none
  | none => none

/-- Carousel 0: eight carriers with a wide and a narrow position. Slot 0.0.0 is STOCKED with a pick on it, 0.1.0 WITHDRAWN,
0.2.0 in QUARANTINE, 0.3.0 awaits a put-away. -/
def carousel0 : Carousel :=
  { Carousel.fresh ⟨8, 2, [(2, 8), (1, 4)]⟩ 2000 1500 with
    slots := (((List.replicate 16 Slot.freeSlot).set 0 ⟨.stocked, some ⟨0, 1305⟩, 3, 1, 0, none, none⟩).set 2
      ⟨.withdrawn, some ⟨0, 1305⟩, 2, 0, 0, none, none⟩).set 4
      ⟨.quarantine, some ⟨0, 1305⟩, 1, 0, 0, some 90, some .mismatch⟩ |>.set 6 ⟨.stocked, some ⟨0, 1305⟩, 0, 0, 2, none, none⟩,
    figures := { limit := 2000, committed := [196, 196, 90, 196, 0, 0, 0, 0], onHand := [294, 196, 90, 0, 0, 0, 0, 0],
                 committedW := 678, onHandW := 580, overLimit := false },
    state := .idle, known := true, resume := none }

/-- Order 5 asks for three tyres, has picked two and delivered one, and has one pick open. -/
def order5 : Order :=
  { tag := 5, priority := 20, state := .active, lane := some 0, admission := some 0,
    lines := [{ place := 0, requested := 3, picked := 2, delivered := 1, openPicks := 1, short := false }] }

/-- Its open pick. -/
def pick0 : Pick := { number := 0, order := 5, line := 0, addr := ⟨0, 0, 0⟩, quantity := 1, presented := false, seq := 0 }

/-- Task 7 has one OPEN target of two tyres. -/
def task7 : Task :=
  { tag := 7, place := 0, batch := 1305, requested := 2, placed := 2, state := .opened, targets := [⟨⟨0, 3, 0⟩, 2, .opened⟩] }

/-- A LOCKED link with no traffic. -/
def lockedLink : Link := { Link.afterReset true with state := .locked }

/-- The store in RUN mode: windows 0 and 1 at opposite places of carousel 0, every link LOCKED, one tyre of order 5 in the
outfeed queue of window 0. -/
def store : State :=
  { State.reset with
    mode := .run, articles := [(0, ⟨70412, 98, 2, 6⟩), (1, ⟨81230, 112, 1, 4⟩)], carousels := [some carousel0, none, none, none],
    windows := ((List.replicate 8 Window.afterReset).set 0
      { Window.afterReset with assigned := some (0, 0), rank := some 0, outfeed := [⟨5, 0, 0⟩] }).set 1
      { Window.afterReset with assigned := some (0, 4), rank := some 1 },
    tasks := [task7], orders := [order5], picks := [pick0], creations := 1, admissions := 1,
    lanes := [some ⟨8, .bound 5⟩, some ⟨4, .free⟩, none, none, none, none, none, none],
    discrepancies := [⟨⟨0, 2, 0⟩, .mismatch, 1, some 0, 90⟩],
    links := List.replicate 5 lockedLink }

/-- The store in CONFIG mode. -/
def storeConfig : State := { store with mode := .config }

/-- The store with its carousel changed. -/
def withCarousel (f : Carousel → Carousel) : State := store.onCarousel 0 f

/-- Window 0 presents carrier 0 with a pick and carrier 3 stands nowhere; the display shows the pick. -/
def presenting : State :=
  { (withCarousel fun c => { c with state := .presenting }) with picks := [{ pick0 with presented := true }] }.onWindow 0 fun v =>
    { v with presentation := some ⟨0, [[.pick 0 1], []]⟩,
             displays := blankDisplays.set 0 { mode := .pick, quantity := 1, lane := some 0, blink := false } }

/-- A transfer of window 0's item in flight. -/
def transfer0 : Transfer :=
  { number := 9, window := 0, item := ⟨5, 0, 0⟩, attempt := 1, deadline := some 8000#32, linkLost := false }

/-- The store with that transfer at a given attempt. -/
def transferring (attempt : Nat) : State :=
  { store with merge := { store.merge with transfer := some { transfer0 with attempt := attempt } } }

/-- A window of the carousel is in use: something is presented or counted there. -/
abbrev used (s : State) (k : Nat) : Prop :=
  ∃ w ∈ s.windowsOf k, (s.window w).presentation ≠ none ∨ (s.window w).measurement ≠ none

/-- Window 0 counts slot 0.0.0. -/
def busyWindow (s : State) : State :=
  s.onWindow 0 fun v => { v with measurement := some ⟨.measure, 0, 0, .channel, 0, 0, 0, 0⟩ }

theorem store_lineFree : store.lineFree := ⟨rfl, rfl⟩

theorem store_shaped : store.shaped := ⟨rfl, rfl, rfl, rfl⟩

theorem store_configured (k : Nat) (c : Carousel) (h : store.carousel? k = some c) : k = 0 ∧ c = carousel0 := by
  match k, h with
  | 0, h => exact ⟨rfl, (Option.some.inj h).symm⟩
  | 1, h => nomatch h
  | 2, h => nomatch h
  | 3, h => nomatch h
  | _ + 4, h => nomatch h

/-! ### Witnesses: the queue, the invariants -/

theorem witness_a_command_waits_or_none : ({ store with pending := [.status 1] } : State).pending = [.status 1] ∧
    store.pending = [] := ⟨rfl, rfl⟩

theorem witness_the_article_table_is_sound : store.articlesSound ∧ ∃ t, step store = .next t := by
  refine ⟨?_, _, rfl⟩
  unfold State.articlesSound
  decide +kernel

theorem witness_settings_units_and_pools : store.settingsInRange ∧ store.shaped ∧ store.poolsFit := by
  refine ⟨?_, store_shaped, ?_⟩
  · unfold State.settingsInRange
    decide +kernel
  · unfold State.poolsFit
    decide +kernel

/-- The store with the greatest number of line records, of targets of its task and of tyres in an outfeed queue. -/
def fullRecords : State :=
  { store with orders := List.replicate 16 { order5 with priority := 63, lines := List.replicate 16 ⟨0, 3, 2, 1, 1, false⟩ },
               tasks := [{ task7 with targets := List.replicate 8 ⟨⟨0, 3, 0⟩, 2, .opened⟩ }] }.onWindow 0 fun v =>
    { v with outfeed := List.replicate 8 ⟨5, 0, 0⟩ }

theorem witness_the_records_fit : store.recordsFit ∧ fullRecords.recordsFit ∧ ∃ t, step fullRecords = .next t := by
  refine ⟨?_, ?_, _, rfl⟩ <;> unfold State.recordsFit <;> decide +kernel

theorem store_rank (w r : Nat) (hw : w < 8) (h : (store.window w).rank = some r) : w = r ∧ r < 2 := by
  interval_cases w <;> revert h
  · exact fun h => ⟨Option.some.inj h, Option.some.inj h ▸ by decide⟩
  · exact fun h => ⟨Option.some.inj h, Option.some.inj h ▸ by decide⟩
  all_goals exact fun h => nomatch h

theorem witness_the_ranks_are_sound_and_no_frame_idles :
    store.shaped ∧ store.ranksSound ∧ store.noFrameIdles ∧ ∃ t, step store = .next t := by
  refine ⟨store_shaped, ⟨by decide +kernel, fun w r hw h => ?_, fun w v r hw hv hne h h' => ?_⟩, fun _ => rfl, _, rfl⟩
  · exact Nat.lt_of_lt_of_le (store_rank w r hw h).2 (by decide)
  · exact hne ((store_rank w r hw h).1.trans (store_rank v r hv h').1.symm)

theorem store_slot (a : SlotAddr) (x : Slot) (h : store.slot? a = some x) :
    ∃ i < 8, ∃ j < 2, a = ⟨0, i, j⟩ ∧ store.slot? ⟨0, i, j⟩ = some x := by
  obtain ⟨k, i, j⟩ := a
  have hc : ∃ c, store.carousel? k = some c := by
    unfold State.slot? at h
    revert h
    cases store.carousel? k with
    | none => exact fun h => nomatch h
    | some c => exact fun _ => ⟨c, rfl⟩
  obtain ⟨c, hc⟩ := hc
  obtain ⟨rfl, rfl⟩ := store_configured k c hc
  by_cases hi : i < 8
  · by_cases hj : j < 2
    · exact ⟨i, hi, j, hj, rfl, h⟩
    · simp [State.slot?, hc] at h
      exact absurd h.1.2 hj
  · simp [State.slot?, hc] at h
    exact absurd h.1.1 hi

theorem witness_the_directory_is_weighed : store.directoryWeighed ∧ ∃ t, step store = .next t := by
  refine ⟨⟨witness_the_article_table_is_sound.1, fun k c h => ?_⟩, _, rfl⟩
  obtain ⟨rfl, rfl⟩ := store_configured k c h
  refine ⟨by decide, by decide +kernel, by decide +kernel, fun i j x d hx hd => ?_⟩
  obtain ⟨i', hi, j', hj, e, hx'⟩ := store_slot _ _ hx
  cases e
  interval_cases i <;> interval_cases j <;> cases Option.some.inj hx' <;>
    first | exact ⟨⟨70412, 98, 2, 6⟩, Option.some.inj hd ▸ rfl, by decide⟩ | exact nomatch hd

theorem witness_the_reservations_are_sound : store.reservationsSound ∧ ∃ t, step store = .next t := by
  refine ⟨⟨witness_the_article_table_is_sound.1, fun a x h => ?_, by decide +kernel, by decide +kernel, by decide, by decide,
    fun h => nomatch h⟩, _, rfl⟩
  obtain ⟨i, hi, j, hj, rfl, hx⟩ := store_slot _ _ h
  interval_cases i <;> interval_cases j <;> cases Option.some.inj hx <;>
    exact ⟨by simp [Slot.lawful, Slot.freeSlot], by decide +kernel, by decide +kernel⟩

theorem witness_the_figures_are_exact : store.figuresExact := by
  intro k c h
  obtain ⟨_, rfl⟩ := store_configured k c h
  unfold Figures.exact
  decide +kernel

/-! ### Witnesses: the host line -/

/-- The line with a STATUS request in progress and `n` frames waiting. -/
def busyLine (n : Nat) : State :=
  { store with line := { store.line with progress := some ⟨1, 1, none⟩, buffer := List.replicate n ⟨3, 9, .bytes []⟩ } }

/-- The line sending a frame with the given content, a reply and `n` notices behind it. -/
def sending (c : Option Content) (n : Nat) : State :=
  { store with line := { store.line with
      sending := c.map fun c => ⟨0x31#8, 129, 1, 0, c⟩, notices := List.replicate n (.tared 0 0 0 none),
      progress := some ⟨1, 1, none⟩ } }

theorem witness_a_request_comes_to_a_free_line :
    (Instr.status 1).request? = some (0x01, 1) ∧ (Instr.start 0).request? = some (0x03, 0) ∧ store.lineFree :=
  ⟨rfl, rfl, store_lineFree⟩

theorem witness_a_request_comes_to_a_busy_line : ∀ n ∈ [0, 1, 2], (Instr.start 4).request? = some (0x03, 4) ∧
    ¬(busyLine n).lineFree := by
  unfold State.lineFree
  decide +kernel

/-- No request in progress, with a START frame waiting that has the given payload. -/
def idleWaiting (payload : List Byte) : State :=
  { store with line := { store.line with buffer := [⟨3, 9, .bytes payload⟩] } }

theorem witness_a_frame_waits_or_none_does :
    (store.line.progress ≠ none ∨ store.line.buffer = []) ∧ (busyLine 2).line.progress ≠ none ∧
    ∀ b : List Byte, (idleWaiting b).line.progress = none ∧ (idleWaiting b).line.buffer = ⟨3, 9, .bytes b⟩ :: [] :=
  ⟨.inr rfl, by decide, fun _ => ⟨rfl, rfl⟩⟩

theorem witness_frames_of_the_shortest_and_longest_payload : store.line.receiver = .hunting ∧
    ([] : List Byte).length ≤ 200 ∧ (List.replicate 200 (0#8 : Byte)).length ≤ 200 := by decide +kernel

theorem witness_a_frame_is_begun :
    ({ store with line := { store.line with receiver := .inFrame [startByte] 5#32 } } : State).line.receiver =
      .inFrame [startByte] 5#32 := rfl

theorem witness_frames_being_sent :
    (∃ f r, (sending (some (.reply ⟨1, 1, .ok, .none⟩)) 0).line.sending = some f ∧ f.content = .reply r ∧
      ¬(r.kind = 0x07 ∧ r.result = .ok)) ∧
    (∃ f n, (sending (some (.notice (.tared 0 0 0 none))) 0).line.sending = some f ∧ f.content = .notice n) ∧
    ∃ f r, (sending (some (.reply ⟨7, 1, .ok, .none⟩)) 0).line.sending = some f ∧ f.content = .reply r ∧ r.kind = 0x07 ∧
      r.result = .ok := by
  refine ⟨⟨_, _, rfl, rfl, by decide⟩, ⟨_, _, rfl, rfl⟩, ⟨_, _, rfl, rfl, rfl, rfl⟩⟩

theorem witness_the_transmitter_is_idle :
    (sending none 0).line.sending = none ∧ (sending none 1).line.reply = none ∧
    (sending none 1).line.notices = Notice.tared 0 0 0 none :: [] ∧
    ({ (sending none 1).line with reply := some ⟨1, 1, .ok, .none⟩ } : HostLine).reply = some ⟨1, 1, .ok, .none⟩ :=
  ⟨rfl, rfl, rfl, rfl⟩

theorem witness_the_notice_queue_at_its_bound :
    (sending none 31).line.notices.length < 32 ∧ 32 ≤ (sending none 32).line.notices.length := by decide

theorem witness_kinds_known_and_unknown :
    store.lineFree ∧ (1 : Nat) ≠ 0 ∧ 0x08 ∉ requestKinds ∧ 0x54 ∉ requestKinds ∧ 0x01 ∈ requestKinds ∧ 0x53 ∈ requestKinds :=
  ⟨store_lineFree, by decide⟩

theorem test_status_reports_the_store : (match replyOf (after (.status 1) store) with
    | some (.ok, .status r) => (r.carousels.map fun c => c.map fun c => c.limit, r.lanes, r.freeLanes, r.picks)
    | _ => ([], 0, 0, 0)) = ([some 2000, none, none, none], 2, 1, 1) := by decide +kernel

theorem test_clear_flags_clears_the_named_flag :
    (after (.clearFlags 1 false true false) { store with flags := ⟨true, true, true⟩ }).flags = ⟨true, false, true⟩ := by
  decide +kernel

theorem test_unknown_kind_is_answered_so :
    replyOf (after (.unknownKind 0x54 1) store) = some (.unknownKind, .none) := by decide +kernel

theorem test_crc_of_the_check_string :
    crc16 [0x31#8, 0x32#8, 0x33#8, 0x34#8, 0x35#8, 0x36#8, 0x37#8, 0x38#8, 0x39#8] = 0x29B1#16 := by decide +kernel

/-- A STATUS or START frame of tag 7 without payload, with the CRC it asks for. -/
def frame7 (kind : Byte) : List Byte := frameBytes 0x31#8 kind 7#8 [] (crc16 (frameBody 0x31#8 kind 7#8 []))

theorem test_a_frame_is_taken_at_once_and_dropped_with_another_crc :
    (after (.frameArrival (frame7 3#8)) storeConfig).mode = .run ∧
    (after (.frameArrival (frame7 3#8)) storeConfig).line.progress = some ⟨3, 7, none⟩ ∧
    replyOf (after (.frameArrival (frame7 1#8)) store) = replyOf (after (.status 7) store) ∧
    (after (.frameArrival (frameBytes 0x31#8 3#8 7#8 [] 0#16)) storeConfig).mode = .config := by decide +kernel

theorem test_the_waiting_frame_is_taken_when_the_reply_is_sent :
    (after (.frameArrival (frame7 3#8)) (after (.status 1) storeConfig)).mode = .config ∧
    replyOf (after .transmitDone (after (.frameArrival (frame7 3#8)) (after (.status 1) storeConfig))) = some (.ok, .none) ∧
    (after .transmitDone (after (.frameArrival (frame7 3#8)) (after (.status 1) storeConfig))).mode = .run := by
  decide +kernel

theorem test_restart_resets_when_its_reply_is_sent :
    (after .transmitDone (after (.restart 1) store)).articles = [] ∧
      (after .transmitDone (after (.restart 1) store)).mode = .config := by decide +kernel

theorem test_restart_reads_the_straps_anew :
    (after .transmitDone (after (.restart 1) store)).line.address = addressOf (Config.strapLevels 0) ∧
      (after .transmitDone (after (.restart 1) store)).draws = 1 := ⟨rfl, rfl⟩

/-! ### Witnesses: operating modes -/

theorem storeConfig_configured (k : Nat) (c : Carousel) (h : storeConfig.carousel? k = some c) : k = 0 ∧ c = carousel0 :=
  store_configured k c h

theorem storeConfig_assigned (w : Nat) (hw : w < 8) (a : Nat × Nat) (h : (storeConfig.window w).assigned = some a) :
    (w = 0 ∧ a = (0, 0)) ∨ (w = 1 ∧ a = (0, 4)) := by
  interval_cases w <;> revert h
  · exact fun h => .inl ⟨rfl, (Option.some.inj h).symm⟩
  · exact fun h => .inr ⟨rfl, (Option.some.inj h).symm⟩
  all_goals exact fun h => nomatch h

theorem storeConfig_ready : storeConfig.readyToStart := by
  refine ⟨fun k c h => ?_, fun w k pos hw h => ?_, fun w v a hw hv hne h h' => ?_, ⟨0, by decide, rfl⟩, ⟨8, .bound 5⟩, List.Mem.head _⟩
  · obtain ⟨rfl, _⟩ := storeConfig_configured k c h
    exact ⟨0, by decide, rfl⟩
  · refine ⟨carousel0, ?_⟩
    rcases storeConfig_assigned w hw _ h with ⟨_, e⟩ | ⟨_, e⟩ <;> cases e <;> exact ⟨rfl, by decide⟩
  · rcases storeConfig_assigned w hw _ h with ⟨rfl, rfl⟩ | ⟨rfl, rfl⟩ <;>
      rcases storeConfig_assigned v hv _ h' with ⟨rfl, e⟩ | ⟨rfl, e⟩
    · exact hne rfl
    · cases e
    · cases e
    · exact hne rfl

theorem witness_start_is_ready : storeConfig.lineFree ∧ storeConfig.shaped ∧ storeConfig.mode = .config ∧
    storeConfig.readyToStart := ⟨store_lineFree, store_shaped, rfl, storeConfig_ready⟩

/-- The store with nothing held. -/
def storeEmpty : State := { store with orders := [], tasks := [], picks := [] }

theorem witness_stop_with_nothing_held : storeEmpty.lineFree ∧ storeEmpty.shaped ∧ storeEmpty.mode ≠ .config ∧
    storeEmpty.orders = [] ∧ storeEmpty.tasks = [] ∧
    ∀ k c, storeEmpty.carousel? k = some c → c.state = .idle ∨ c.state = .offline :=
  ⟨store_lineFree, store_shaped, by decide, rfl, rfl, fun k c h => by
    obtain ⟨_, rfl⟩ := store_configured k c h
    exact .inl rfl⟩

theorem witness_stop_sets_the_headers : (storeEmpty.window 0).assigned.isSome = true ∧ (storeEmpty.window 0).presentation = none ∧
    (storeEmpty.window 0).measurement = none := by decide +kernel

/-- The store with the carousel in a state of motion, its move to carrier 3 by five steps short of a whole turn. -/
def inMove (st : CarouselState) (deadline restart : Option Time) : State :=
  withCarousel fun c => { c with
    state := st, restart := restart,
    move := some { carrier := 3, plan := ⟨0, 3, .forward, 3⟩, speed := some .normal, deadline := deadline } }

/-- The store without order and task, its carousel with audit work on the carriers of a list. -/
def auditing (cs : List Nat) : State :=
  { withCarousel fun c => { c with auditList := cs, slots := c.slots.map fun x => { x with reserved := 0, pending := 0 } } with
    orders := [], tasks := [], picks := [] }

/-- The same with every slot WITHDRAWN, so that there is nothing to count. -/
def auditingNothing (cs : List Nat) : State :=
  (auditing cs).onCarousel 0 fun c => { c with slots := c.slots.map fun x => { x with state := .withdrawn } }

/-- Carousel 0 PRESENTING with presentations and measurements opened, the counts of the rivals of its next target raised. -/
def openedForNext (s : State) : State :=
  match s.carousel? 0, s.nextTarget 0 with
  | some c, some (x, cls, _) => (s.setCarousel 0 { c with
      passed := (List.range c.passed.length).map fun i =>
        if i ≠ x ∧ s.carrierClass 0 i = some cls ∧ c.passed.getD i 0 < 7 then c.passed.getD i 0 + 1 else c.passed.getD i 0,
      state := .presenting }).openStanding 0
  | _, _ => s

theorem witness_carousels_to_resume :
    (∀ st ∈ [CarouselState.held, .idle, .moving],
      ((withCarousel fun c => { c with state := st }).carousel? 0).map Carousel.state = some st) ∧
    ¬used (withCarousel fun c => { c with state := .held }) 0 ∧ used (busyWindow (withCarousel fun c => { c with state := .held })) 0 := by
  decide +kernel

theorem witness_idle_carousels_act :
    storeEmpty.nextTarget 0 = none ∧ (storeEmpty.carousel? 0).map Carousel.state = some .idle ∧
    (store.nextTarget 0).map (fun q => q.2.2.steps) = some 0 ∧ used (openedForNext store) 0 ∧
    ((auditingNothing [0]).nextTarget 0).map (fun q => q.2.2.steps) = some 0 ∧ ¬used (openedForNext (auditingNothing [0])) 0 ∧
    ((auditing [2]).nextTarget 0).map (fun q => q.2.2.steps) = some 2 ∧ (auditing [2]).mode ≠ .hold ∧
    (∀ w ∈ (auditing [2]).windowsOf 0, ((auditing [2]).window w).guard = .closed) ∧
    ({ auditing [2] with mode := .hold } : State).mode = .hold ∧
    (({ auditing [2] with mode := .hold } : State).nextTarget 0).map (fun q => q.2.2.steps) = some 2 ∧
    (∃ w ∈ (auditing [2]).windowsOf 0, (((auditing [2]).onWindow 1 fun v => { v with guard := .opened }).window w).guard = .opened) ∧
    (((auditing [2]).onWindow 1 fun v => { v with guard := .opened }).nextTarget 0).map (fun q => q.2.2.steps) = some 2 := by
  decide +kernel

theorem witness_hold_and_resume :
    (∀ st ∈ [CarouselState.moving, .suspended, .idle], (inMove st none none).mode = .run ∧
      ((inMove st none none).carousel? 0).map Carousel.state = some st) ∧
    (inMove .moving none none).lineFree ∧ (inMove .moving none none).shaped ∧
    ({ inMove .fault none none with mode := .hold } : State).mode = .hold ∧
    ∀ k c, ({ inMove .fault none none with mode := .hold } : State).carousel? k = some c → c.state ≠ .held ∧ c.state ≠ .idle := by
  refine ⟨by decide +kernel, store_lineFree, store_shaped, rfl, fun k c h => ?_⟩
  match k, h with
  | 0, h =>
    cases Option.some.inj h
    decide
  | 1, h => nomatch h
  | 2, h => nomatch h
  | 3, h => nomatch h
  | _ + 4, h => nomatch h

theorem test_start_puts_the_part_in_run_mode :
    (after (.start 1) storeConfig).mode = .run ∧ ((after (.start 1) storeConfig).carousel? 0).map Carousel.query = some (some .start) := by
  decide +kernel

theorem test_stop_is_refused_while_an_order_is_held :
    replyOf (after (.stop 1) store) = some (.busy, .stopCause .orders) := by decide +kernel

theorem test_stop_blanks_the_headers :
    ((after (.stop 1) (storeEmpty.onWindow 0 fun v => { v with header := ⟨some 3, .held⟩ })).window 0).header = ⟨none, .blank⟩ := by
  decide +kernel

theorem test_hold_stops_a_moving_carousel :
    ((after (.hold 1) (inMove .moving none none)).carousel? 0).map Carousel.state = some .stopping := by decide +kernel

theorem test_resume_lets_an_idle_carousel_act :
    ((after (.resume 1) { store with mode := .hold }).carousel? 0).map Carousel.state = some .presenting := by decide +kernel

/-! ### Witnesses: articles and slots -/

/-- The store with every place of the article table taken. -/
def fullTable : State := { store with articles := (List.range 512).map fun i => (i, ⟨i + 1, 40, 0, 1⟩) }

theorem witness_set_article : store.articleOf 1 = none ∧ store.articleOf 4294967295 = none ∧ store.articles.length < 512 ∧
    fullTable.articleOf 513 = none ∧ 512 ≤ fullTable.articles.length ∧ store.articlesSound ∧
    store.articleOf 70412 = some (0, ⟨70412, 98, 2, 6⟩) ∧ store.inUse 0 = true ∧ store.inUse 1 = false ∧
    store.articleOf 81230 = some (1, ⟨81230, 112, 1, 4⟩) := by
  refine ⟨by decide +kernel, by decide +kernel, by decide +kernel, by decide +kernel, by decide +kernel, ?_⟩
  unfold State.articlesSound
  decide +kernel

theorem witness_numbers_above_the_codes : store.lineFree ∧ (4294967295 : Nat) < 4294967296 ∧
    store.articleOf 4294967296 = none ∧ store.articleOf 4294967295 = none := ⟨store_lineFree, by decide +kernel⟩

theorem witness_articles_to_delete_and_to_get : store.lineFree ∧ store.articleOf 1 = none ∧
    store.articleOf 70412 = some (0, ⟨70412, 98, 2, 6⟩) ∧ store.inUse 0 = true ∧
    store.articleOf 81230 = some (1, ⟨81230, 112, 1, 4⟩) ∧ store.inUse 1 = false :=
  ⟨store_lineFree, by decide +kernel⟩

theorem witness_slots_within_and_outside_the_geometry :
    store.slot? ⟨0, 0, 0⟩ = some ⟨.stocked, some ⟨0, 1305⟩, 3, 1, 0, none, none⟩ ∧
    store.slot? ⟨0, 7, 1⟩ = some Slot.freeSlot ∧ store.slot? ⟨0, 8, 0⟩ = none ∧ store.slot? ⟨0, 0, 2⟩ = none ∧
    store.slot? ⟨1, 0, 0⟩ = none ∧ store.carousel? 0 = some carousel0 ∧ store.articleAt 0 = some ⟨70412, 98, 2, 6⟩ := by
  decide +kernel

theorem witness_load_slot : storeConfig.lineFree ∧ storeConfig.mode = .config ∧
    storeConfig.slot? ⟨0, 4, 0⟩ = some Slot.freeSlot ∧ storeConfig.contentFields ⟨0, 4, 0⟩ 4095 6 = true ∧
    storeConfig.contentChecks ⟨0, 4, 0⟩ 70412 4095 6 = .ok (some ⟨0, 4095⟩) ∧
    storeConfig.contentChecks ⟨0, 4, 0⟩ 0 0 0 = .ok none := ⟨store_lineFree, rfl, rfl, rfl, rfl, rfl⟩

theorem witness_withdraw : store.mode ≠ .config ∧ store.slot? ⟨0, 7, 1⟩ = some Slot.freeSlot ∧
    Slot.freeSlot.reserved = 0 ∧ Slot.freeSlot.pending = 0 ∧ store.carrierEngaged ⟨0, 7, 1⟩ = false ∧
    store.inMotion 0 = false := by decide +kernel

theorem witness_edit_and_restore_slot :
    store.slot? ⟨0, 1, 0⟩ = some ⟨.withdrawn, some ⟨0, 1305⟩, 2, 0, 0, none, none⟩ ∧ store.mode ≠ .config ∧
    store.contentFields ⟨0, 1, 0⟩ 1305 6 = true ∧ store.inMotion 0 = false ∧
    store.contentChecks ⟨0, 1, 0⟩ 70412 1305 6 = .ok (some ⟨0, 1305⟩) := ⟨rfl, by decide, rfl, rfl, rfl⟩

theorem witness_resolve_slot :
    store.slot? ⟨0, 2, 0⟩ = some ⟨.quarantine, some ⟨0, 1305⟩, 1, 0, 0, some 90, some .mismatch⟩ ∧
    store.contentFields ⟨0, 2, 0⟩ 1305 0 = true ∧ store.inMotion 0 = false ∧ store.beingCounted ⟨0, 2, 0⟩ = false ∧
    store.contentChecks ⟨0, 2, 0⟩ 70412 1305 0 = .ok (some ⟨0, 1305⟩) := ⟨rfl, rfl, rfl, rfl, rfl⟩

theorem witness_slots_return_with_and_without_tyres :
    store.contentFields ⟨0, 2, 0⟩ 1305 2 = true ∧ store.contentChecks ⟨0, 2, 0⟩ 70412 1305 2 = .ok (some ⟨0, 1305⟩) ∧
    ((withCarousel fun c => { c with slots := c.slots.set 2 { Slot.freeSlot with state := .withdrawn } }).slot? ⟨0, 1, 0⟩).map
      Slot.state = some .withdrawn := ⟨rfl, rfl, rfl⟩

theorem test_set_article_takes_the_lowest_place :
    (after (.setArticle 1 600 98 2 6) { store with articles := [(1, ⟨81230, 112, 1, 4⟩)] }).articles =
      [(0, ⟨600, 98, 2, 6⟩), (1, ⟨81230, 112, 1, 4⟩)] := by decide +kernel

theorem test_delete_article_frees_its_place :
    (after (.deleteArticle 1 81230) store).articles = [(0, ⟨70412, 98, 2, 6⟩)] := by decide +kernel

theorem test_load_slot_stocks_the_slot :
    (after (.loadSlot 1 ⟨0, 4, 0⟩ 70412 1305 6) storeConfig).slot? ⟨0, 4, 0⟩ =
      some ⟨.stocked, some ⟨0, 1305⟩, 6, 0, 0, none, none⟩ := by decide +kernel

theorem test_edit_slot_with_nothing_left_has_no_article :
    (after (.editSlot 1 ⟨0, 1, 0⟩ 70412 1305 0) store).slot? ⟨0, 1, 0⟩ = some ⟨.withdrawn, none, 0, 0, 0, none, none⟩ := by
  decide +kernel

theorem test_restore_slot_returns_to_stock :
    (after (.restoreSlot 1 ⟨0, 1, 0⟩) store).slot? ⟨0, 1, 0⟩ = some ⟨.stocked, some ⟨0, 1305⟩, 2, 0, 0, none, none⟩ := by
  decide +kernel

theorem test_resolve_slot_removes_the_discrepancy :
    (after (.resolveSlot 1 ⟨0, 2, 0⟩ 70412 1305 2) store).discrepancies = [] ∧
      replyOf (after (.resolveSlot 1 ⟨0, 2, 0⟩ 70412 1305 2) store) = some (.ok, .resolved ⟨0, 2, 0⟩ .stocked true) := by
  decide +kernel

theorem test_withdraw_of_a_reserved_slot_is_busy :
    replyOf (after (.withdraw 1 ⟨0, 0, 0⟩) store) = some (.busy, .none) := by decide +kernel

/-! ### Witnesses: balance, SET_CAROUSEL, settings -/

theorem witness_loads_of_an_even_carousel : ([5, 0, 0, 7, 1, 0, 2, 0] : List Nat).length % 2 = 0 ∧
    0 < ([5, 0, 0, 7, 1, 0, 2, 0] : List Nat).length ∧ 7 < ([5, 0, 0, 7, 1, 0, 2, 0] : List Nat).length := by decide

theorem witness_loads_in_balance_and_not : ([5, 0, 0, 7, 1, 0, 2, 0] : List Nat).length % 2 = 0 ∧
    worst [5, 0, 0, 7, 1, 0, 2, 0] ≠ 0 ∧ (List.replicate 8 5).length % 2 = 0 ∧ worst (List.replicate 8 5) = 0 := by decide +kernel

theorem witness_reports : store.lineFree ∧ (1 : Nat) ≠ 0 ∧ store.carousel? 0 = some carousel0 ∧ store.carousel? 1 = none ∧
    store.carousel? 4 = none ∧ store.order? 6 = none ∧ store.order? 5 = some order5 ∧ (7 : Nat) ≤ 7 ∧ (7 : Nat) < 8 ∧
    ((LoadForm.committed = LoadForm.committed ∧ carousel0.figures.committed = carousel0.figures.committed) ∨
      (LoadForm.committed = LoadForm.onHand ∧ carousel0.figures.committed = carousel0.figures.onHand)) :=
  ⟨store_lineFree, by decide +kernel⟩

theorem witness_set_carousel_of_the_smallest_and_the_greatest_geometry :
    storeConfig.lineFree ∧ storeConfig.shaped ∧ storeConfig.mode = .config ∧
    (∀ c, storeConfig.carousel? 3 = some c → c.geometry ≠ ⟨8, 1, [(0, 1)]⟩) ∧
    (∀ q ∈ [((0 : Nat), (1 : Nat))], q.1 ≤ 3 ∧ 1 ≤ q.2 ∧ q.2 ≤ 8) ∧
    (∀ c, storeConfig.carousel? 0 = some c → c.geometry ≠ ⟨48, 6, List.replicate 6 (3, 8)⟩) ∧
    (∀ q ∈ List.replicate 6 ((3 : Nat), (8 : Nat)), q.1 ≤ 3 ∧ 1 ≤ q.2 ∧ q.2 ≤ 8) ∧
    storeConfig.carousel? 0 = some carousel0 ∧ carousel0.geometry = ⟨8, 2, [(2, 8), (1, 4)]⟩ ∧
    ((storeConfig.onCarousel 0 fun c => { c with figures := { c.figures with overLimit := true } }).carousel? 0).map
      (fun d => d.figures.overLimit) = some true ∧ storeConfig.line.notices.length < 32 :=
  ⟨store_lineFree, store_shaped, rfl, fun c h => (nomatch h), by decide,
   fun c h => by
     cases Option.some.inj h
     decide, by decide, rfl, rfl, by decide +kernel⟩

theorem witness_settings : storeConfig.mode = .config ∧ (∀ l ∈ storeConfig.links, l.access = none) ∧ store.lineFree ∧
    (1 ≤ 1 ∧ 1 ≤ 4 ∧ 1 ≤ 4 ∧ 4 ≤ 4) ∧ (7 ≤ 7 ∧ 4 ≤ 4 ∧ 4 ≤ 48 ∧ 48 ≤ 48) :=
  ⟨rfl, by decide +kernel, store_lineFree, by decide⟩

/-- Window 0 counts slot position 0 of carrier 0 in a phase. -/
def counting (phase : Phase) (purpose : CountPurpose) (position count : Nat) : State :=
  (withCarousel fun c => { c with state := .presenting }).onWindow 0 fun v =>
    { v with measurement := some ⟨purpose, 0, position, phase, 0, 0, 0, 0⟩, counter := count, counterOpen := true,
             displays := auditDisplays position 3 }

theorem witness_time_settings : (∃ t : Transfer, t.attempt < 3) ∧
    (∃ m, 0 < (counting .channel .measure 0 0).windows.length ∧ ((counting .channel .measure 0 0).window 0).measurement = some m ∧
      m.phase = .channel ∧ m.position = 0) ∧
    ∃ m, ((counting (.settle 200#32) .measure 0 0).window 0).measurement = some m ∧ m.phase = .settle 200#32 :=
  ⟨⟨{ transfer0 with attempt := 2 }, by decide⟩, ⟨_, by decide, rfl, rfl, rfl⟩, ⟨_, rfl, rfl⟩⟩

theorem test_set_carousel_keeps_slots_under_its_geometry :
    (after (.setCarousel 1 0 8 2 [(2, 8), (1, 4)] 600 (some 10)) storeConfig).line.notices =
        [.balance 0 true 678 580 600] ∧
      replyOf (after (.setCarousel 1 0 8 2 [(2, 8), (1, 4)] 600 (some 10)) storeConfig) = some (.ok, .stepTime 500) := by
  decide +kernel

theorem test_set_carousel_of_a_new_geometry_empties_it :
    (after (.setCarousel 1 0 8 1 [(2, 8)] 600 none) storeConfig).discrepancies = [] ∧
      ((after (.setCarousel 1 0 8 1 [(2, 8)] 600 none) storeConfig).carousel? 0).map Carousel.slots =
        some (List.replicate 8 Slot.freeSlot) := by decide +kernel

theorem test_get_balance_finds_the_worst_position :
    replyOf (after (.getBalance 1 0 (some .committed)) store) = some (.ok, .balance
      { n := 8, limit := 2000, committedW := 678, onHandW := 580, overLimit := false, worstPosition := 0, upHeavier := true,
        loads := [196, 196, 90, 196, 0, 0, 0, 0] }) := by decide +kernel

theorem test_settings_are_answered :
    replyOf (after (.setMergeTimeout 1 30001) store) = some (.ok, .timeout 30000) ∧
    replyOf (after (.setAuditTiming 1 49 251) store) = some (.ok, .auditTiming 50 250) ∧
    replyOf (after (.setLane 1 8 none) storeConfig) = some (.badField, .none) ∧
    replyOf (after (.setPutawayClass 1 0) storeConfig) = some (.badField, .none) ∧
    replyOf (after (.setBridgeMode 1 (some .deferred)) storeConfig) = some (.ok, .bridgeMode .deferred) ∧
    replyOf (after (.setCal 1 7 5 65535 65535) store) = some (.ok, .calibration ⟨65535, 65535⟩) := by decide +kernel

/-! ### Witnesses: put-away -/

theorem witness_putaway : store.lineFree ∧ store.mode ≠ .config ∧ store.putawayFields 65535 70412 4095 64 none = true ∧
    store.putawayFields 1 70412 0 1 (some 0) = true ∧ store.articleOf 70412 = some (0, ⟨70412, 98, 2, 6⟩) ∧
    store.task? 1 = none ∧ store.task? 65535 = none ∧ store.tasks.length < 32 ∧
    (store.choosePut 0 0 ⟨70412, 98, 2, 6⟩ (some 0) 1).isSome = true ∧
    (withCarousel fun c => { c with slots := c.slots.map fun x => { x with state := .withdrawn } }).choosePut 0 0
      ⟨70412, 98, 2, 6⟩ none 1 = none := ⟨store_lineFree, by decide +kernel⟩

theorem witness_a_target_is_chosen :
    (store.choosePut 0 1305 ⟨70412, 98, 2, 6⟩ none 64).isSome = true ∧
      (store.choosePut 0 1305 ⟨70412, 98, 2, 6⟩ (some 0) 1).isSome = true := by decide +kernel

/-- The task with its one target ended. -/
def taskEnded : Task := { task7 with targets := [⟨⟨0, 3, 0⟩, 2, .confirmed 2⟩] }

theorem witness_targets_are_created_and_end :
    (3 : Nat) ≠ 0 ∧ (store.choosePut 0 1305 ⟨70412, 98, 2, 6⟩ none 3).isSome = true ∧
    store.slot? ⟨0, 4, 0⟩ = some Slot.freeSlot ∧ store.slot? ⟨0, 3, 0⟩ = some ⟨.stocked, some ⟨0, 1305⟩, 0, 0, 2, none, none⟩ ∧
    (∃ x ∈ task7.targets, x.outcome = .opened) ∧ ({ store with tasks := [taskEnded] } : State).task? 7 = some taskEnded ∧
    ∀ x ∈ taskEnded.targets, x.outcome ≠ .opened := by decide +kernel

theorem witness_a_slot_has_room : store.carousel? 0 = some carousel0 ∧
    store.slot? ⟨0, 0, 0⟩ = some ⟨.stocked, some ⟨0, 1305⟩, 3, 1, 0, none, none⟩ ∧
    store.articleAt 0 = some ⟨70412, 98, 2, 6⟩ := by decide +kernel

theorem witness_tasks : store.lineFree ∧ store.mode ≠ .config ∧ (7 : Nat) ≠ 0 ∧ store.task? 7 = some task7 ∧ store.task? 8 = none :=
  ⟨store_lineFree, by decide +kernel⟩

theorem test_putaway_places_what_fits :
    ((after (.putaway 1 9 70412 1306 8 none) store).task? 9).map (fun t => (t.placed, t.targets.length)) = some (8, 2) := by
  decide +kernel

theorem test_cancel_putaway_frees_the_task_and_its_slot :
    (after (.cancelPutaway 1 7) store).tasks = [] ∧ (after (.cancelPutaway 1 7) store).slot? ⟨0, 3, 0⟩ = some Slot.freeSlot := by
  decide +kernel

theorem test_get_putaway_reports :
    replyOf (after (.getPutaway 1 7) store) = some (.ok, .task ⟨7, 70412, 1305, 2, 2, .opened, [⟨⟨0, 3, 0⟩, 2, .opened⟩], 0, 2⟩) := by
  decide +kernel

/-! ### Witnesses: orders -/

/-- The store with order 5 in another state, with its lane. -/
def withOrder (f : Order → Order) (lane : LaneState) : State :=
  { store with orders := [f order5], picks := [], submission := if (f order5).state = .waiting then [5] else [],
               lanes := some ⟨8, lane⟩ :: store.lanes.tail }

/-- Every line of the order has picked and delivered the same. -/
def settledOrder (picked : Nat) (o : Order) : Order :=
  { o with lines := [{ place := 0, requested := 3, picked := picked, delivered := picked, openPicks := 0, short := false }] }

theorem witness_submit_order : store.lineFree ∧ store.mode ≠ .config ∧ orderFields 65535 (List.replicate 16 (70412, 1)) = true ∧
    orderFields 1 [(81230, 4)] = true ∧ store.unknownLine [(81230, 4)] = none ∧ store.order? 1 = none ∧
    store.tooLarge (total ([(81230, 4)].map Prod.snd)) = false ∧ store.orders.length < 64 ∧ store.lineCount + 1 ≤ 256 ∧
    ({ store with lanes := [some ⟨8, .bound 5⟩, none, none, none, none, none, none, none],
                  orders := store.orders ++ [⟨1, 0, .waiting, none, none, [store.newLine (81230, 4)]⟩],
                  submission := [1] } : State).nextBinding = none ∧
    ({ store with orders := store.orders ++ [⟨1, 0, .waiting, none, none, [store.newLine (81230, 4)]⟩],
                  submission := [1] } : State).nextBinding ≠ none := ⟨store_lineFree, by decide +kernel⟩

theorem witness_lane_binding : store.laneFor 4 = some 1 ∧ store.laneFor 5 = none ∧ store.nextBinding = none ∧
    (withOrder (fun o => { o with state := .waiting, lane := none }) .free).nextBinding =
      some ({ order5 with state := .waiting, lane := none }, 1) ∧
    store.order? order5.tag = some order5 ∧ 1 < store.lanes.length ∧ store.lanes.getD 1 none = some ⟨4, .free⟩ := by
  decide +kernel

/-- Order 5 asks for a number of tyres, two of them picked, with the given picks held and as many counted open on its line. -/
def lineAsks (requested openPicks : Nat) (short : Bool) (picks : List Pick) : State :=
  { store with picks := picks, orders := [{ order5 with lines := [⟨0, requested, 2, 1, openPicks, short⟩] }] }

/-- Order 6, admitted after order 5 and short of an article, stands before it in the pool. -/
def twoAsk : State :=
  { lineAsks 6 0 false [] with
    orders := ⟨6, 0, .active, none, some 1, [⟨1, 4, 0, 0, 0, true⟩, ⟨0, 4, 0, 0, 0, false⟩]⟩ :: (lineAsks 6 0 false []).orders }

theorem witness_lines_are_allocated :
    (lineAsks 3 1 false [pick0]).line? 5 0 = some ⟨0, 3, 2, 1, 1, false⟩ ∧ (lineAsks 3 1 false [pick0]).openQuantity 5 0 = 1 ∧
    (lineAsks 6 4 false []).line? 5 0 = some ⟨0, 6, 2, 1, 4, false⟩ ∧ (lineAsks 6 4 true []).line? 5 0 = some ⟨0, 6, 2, 1, 4, true⟩ ∧
    (lineAsks 6 0 false []).openQuantity 5 0 = 0 ∧
    256 ≤ (lineAsks 6 0 false (List.replicate 256 { pick0 with order := 9 })).picks.length ∧
    (lineAsks 6 0 false (List.replicate 256 { pick0 with order := 9 })).openQuantity 5 0 = 0 ∧
    (lineAsks 6 1 false [pick0]).choosePick 5 0 ⟨0, 6, 2, 1, 1, false⟩ = none ∧ (lineAsks 6 1 false [pick0]).openQuantity 5 0 = 1 := by
  decide +kernel

theorem witness_a_pick_is_chosen_and_created :
    (lineAsks 6 0 false []).line? 5 0 = some ⟨0, 6, 2, 1, 0, false⟩ ∧ (lineAsks 6 0 false []).picks.length < 256 ∧
    ((lineAsks 6 0 false []).choosePick 5 0 ⟨0, 6, 2, 1, 0, false⟩).map (fun c => (c.addr, c.quantity, c.batch)) =
      some (⟨0, 0, 0⟩, 2, 1305) ∧
    (lineAsks 6 0 false []).slot? ⟨0, 0, 0⟩ = some ⟨.stocked, some ⟨0, 1305⟩, 3, 1, 0, none, none⟩ := by decide +kernel

theorem witness_two_lines_are_reached :
    (twoAsk.orders.map fun o => o.tag).Nodup ∧ twoAsk.reached ⟨[(6, 1), (5, 0)], [1], none⟩ = [(5, 0), (6, 0), (6, 1)] ∧
    (twoAsk.order? 5).map Order.admission = some (some 0) ∧ (twoAsk.order? 6).map Order.admission = some (some 1) := by
  decide +kernel

theorem test_allocation_takes_the_oldest_batch_and_reports_the_rest :
    ((State.allocateLine 5 0 lineFuel ((lineAsks 6 0 false []).onCarousel 0 fun c =>
      { c with slots := c.slots.set 14 ⟨.stocked, some ⟨0, 1204⟩, 1, 0, 0, none, none⟩ })).picks.map
        fun p => (p.number, p.addr, p.quantity)) = [(0, ⟨0, 7, 0⟩, 1), (1, ⟨0, 0, 0⟩, 2)] ∧
    (State.allocateLine 5 0 lineFuel (lineAsks 6 0 false [])).line.notices = [.lineShort 5 0 70412 6 2 2 2 .stock] := by
  decide +kernel

theorem witness_close_order :
    (withOrder (settledOrder 0) (.bound 5)).order? 5 = some (settledOrder 0 order5) ∧ (settledOrder 0 order5).pickedTotal = 0 ∧
    (withOrder (settledOrder 2) (.bound 5)).order? 5 = some (settledOrder 2 order5) ∧ (settledOrder 2 order5).pickedTotal ≠ 0 ∧
    (∀ l ∈ (settledOrder 2 order5).lines, l.delivered = l.picked) ∧ (settledOrder 2 order5).state = .active ∧
    store.order? 5 = some order5 ∧ order5.pickedTotal ≠ 0 ∧ (∃ l ∈ order5.lines, l.delivered ≠ l.picked) ∧
    store.mode ≠ .config := by decide +kernel

theorem witness_cancel_ship_and_clear :
    (withOrder (fun o => { o with state := .waiting, lane := none }) .free).order? 5 =
      some { order5 with state := .waiting, lane := none } ∧
    store.order? 5 = some order5 ∧ order5.state = .active ∧
    (withOrder (fun o => { o with state := .assembled }) (.bound 5)).order? 5 = some { order5 with state := .assembled } ∧
    (withOrder (fun o => { o with state := .assembled }) (.bound 5)).submission = [] ∧
    (∀ p ∈ (withOrder (fun o => { o with state := .assembled }) (.bound 5)).picks, p.order ≠ 5) ∧
    (∀ p ∈ (withOrder (fun o => { o with state := .waiting, lane := none }) .free).picks, p.order ≠ 5) ∧
    order5.lane = some 0 ∧ (withOrder (fun o => { o with state := .assembled }) (.bound 5)).lanes.getD 0 none =
      some ⟨8, .bound 5⟩ ∧
    (withOrder (fun o => { settledOrder 2 o with state := .cancelled }) (.draining 5)).lanes.getD 0 none =
      some ⟨8, .draining 5⟩ ∧ ({ settledOrder 2 order5 with state := .cancelled } : Order).onTheWay = 0 := by decide +kernel

theorem witness_cancel_with_and_without_tyres_on_the_way : order5.onTheWay ≠ 0 ∧ (settledOrder 2 order5).onTheWay = 0 ∧
    (settledOrder 2 order5).state = .active := by decide

theorem test_submit_order_binds_the_smallest_lane :
    ((after (.submitOrder 1 6 63 [(70412, 1)]) store).order? 6).map (fun o => (o.state, o.lane)) = some (.active, some 1) ∧
    (after (.submitOrder 1 6 63 [(70412, 1)]) store).picks.length = 2 := by decide +kernel

theorem test_submit_order_names_the_unknown_line :
    replyOf (after (.submitOrder 1 6 63 [(70412, 1), (1, 1)]) store) = some (.notFound, .badLine 1) := by decide +kernel

theorem test_close_order_keeps_what_is_on_the_way :
    replyOf (after (.closeOrder 1 5) store) = some (.ok, .orderEnded .active 1) ∧ (after (.closeOrder 1 5) store).picks = [] := by
  decide +kernel

theorem test_cancel_order_drains_the_lane :
    (after (.cancelOrder 1 5) store).lanes.getD 0 none = some ⟨8, .draining 5⟩ := by decide +kernel

/-- Order 6 waits for a lane of four places or more while order 5, ASSEMBLED, holds one of eight. -/
def oneWaits : State :=
  { withOrder (fun o => { o with state := .assembled }) (.bound 5) with
    orders := [{ settledOrder 3 order5 with state := .assembled },
               ⟨6, 63, .waiting, none, none, [{ store.newLine (70412, 5) with short := false }]⟩], submission := [6] }

theorem test_a_freed_lane_goes_to_the_order_that_waits :
    (after (.ship 1 5) oneWaits).lanes.getD 0 none = some ⟨8, .bound 6⟩ ∧
    ((after (.ship 1 5) oneWaits).order? 6).map (fun o => (o.state, o.lane)) = some (.active, some 0) := by decide +kernel

theorem test_ship_frees_order_and_lane :
    replyOf (after (.ship 1 5) (withOrder (fun o => { o with state := .assembled }) (.bound 5))) = some (.ok, .shipped 5 (some 0)) ∧
    (after (.ship 1 5) (withOrder (fun o => { o with state := .assembled }) (.bound 5))).lanes.getD 0 none = some ⟨8, .free⟩ := by
  decide +kernel

theorem test_lane_cleared_frees_the_order :
    (after (.laneCleared 1 0) (withOrder (fun o => { settledOrder 2 o with state := .cancelled }) (.draining 5))).orders = [] := by
  decide +kernel

theorem test_get_order_reports_the_line :
    (replyOf (after (.getOrder 1 5) store)).map Prod.fst = some .ok := by decide +kernel

/-! ### Witnesses: dispatch and motion -/

theorem witness_plans_of_the_smallest_and_the_greatest_carousel :
    (0 < 8 ∧ 8 % 2 = 0 ∧ 7 < 8) ∧ (0 < 48 ∧ 48 % 2 = 0 ∧ 47 < 48) ∧ (planFor 8 0 3 0 0).direction = .forward ∧
    (planFor 8 0 4 0 0).direction = .forward ∧ (planFor 8 0 5 0 0).direction = .reverse := by decide +kernel

theorem witness_a_next_target : store.carousel? 0 = some carousel0 ∧
    store.nextTarget 0 = some (0, 2, ⟨0, 0, .forward, 0⟩) := by decide +kernel

/-- The store with a fifth carousel, which no number of the part names. -/
def fifthCarousel : State := { store with carousels := store.carousels ++ [some carousel0] }

theorem witness_two_windows_and_none : store.plan 0 2 = some ⟨0, 2, .forward, 2⟩ ∧ (store.window 1).assigned = some (0, 4) ∧
    (∀ w, w < 8 → ({ store with windows := [] } : State).carouselOf w ≠ some 0) ∧
    storeEmpty.nextTarget 0 = none ∧ (busyWindow store).standsInUse 0 0 = true := by decide +kernel

theorem witness_the_class_of_a_carrier : store.carousel? 0 = some carousel0 ∧ store.settingsInRange ∧ store.recordsFit ∧
    (∀ p ∈ store.picks, (store.order? p.order).isSome = true) ∧ store.carrierClass 0 0 = some 2 ∧ store.carrierClass 0 1 = none :=
  ⟨rfl, witness_settings_units_and_pools.1, witness_the_records_fit.1, by decide +kernel⟩

theorem witness_reports_that_are_ignored :
    (∀ st ∈ [CarouselState.moving, .suspended], ((inMove st none none).carousel? 0).map Carousel.state = some st) ∧
    carousel0.geometry.n ≤ 8 ∧ fifthCarousel.carousel? 4 = some carousel0 ∧ (4 : Nat) ≤ 4 ∧
    store.carouselOf 2 ≠ some 0 ∧ State.reset.locked 0 = false ∧ store.carousel? 1 = none := by decide +kernel

theorem witness_recover : (inMove .fault none none).lineFree ∧ (inMove .fault none none).mode ≠ .config ∧
    (((inMove .fault none none).carousel? 0).map fun c => (c.state, c.query)) = some (.fault, none) ∧
    (inMove .fault none none).locked 0 = true := ⟨store_lineFree, by decide +kernel⟩

/-- The store with a command outstanding on the link of station `st`. -/
def asking (st : Nat) (c : Command) (sends : Nat) (s : State) : State :=
  s.onLink st fun l => { l with outstanding := some ⟨c, 7, sends, 20#32⟩ }

theorem witness_position_reply : ∀ st ∈ [CarouselState.offline, .fault],
    (asking 0 (.position true) 1 (inMove st none none)).answers 0 7 = some (.position true) ∧
    ((asking 0 (.position true) 1 (inMove st none none)).carousel? 0).map Carousel.state = some st ∧
    7 < carousel0.geometry.n := by decide +kernel

/-- Carousel 0 OFFLINE at position 0, known or not, with a resume state. -/
def offline (known : Bool) (resume : Resume) (s : State) : State :=
  s.onCarousel 0 fun c => { c with state := .offline, known := known, resume := some resume }

/-- Carousel 0 after the answer that it stands at position 4, its presentations cancelled and its next target acted on. -/
def elsewhere (s : State) : State :=
  match s.carousel? 0 with
  | some c =>
    let ws := (s.windowsOf 0).filter fun w => (s.window w).presentation.isSome
    let told := ((ws.foldl (fun s w => s.cancelPresentation w) s).setCarousel 0
      { c with p := 4, known := true, query := none, resume := none }).notify
        (.positionChanged 0 c.p 4 ws.length (total (ws.map fun w => (s.window w).pickEntries)))
    (told.onCarousel 0 fun d => { d with state := .idle }).recompute 0
  | none => s

theorem witness_position_answers :
    ((offline false .idle store).carousel? 0).map (fun c => (c.state, c.known)) = some (.offline, false) ∧
    ((offline true .held store).carousel? 0).map (fun c => (c.state, c.known, c.p, c.resume)) =
      some (.offline, true, 0, some .held) ∧
    ({ offline true .held store with mode := .hold } : State).mode = .hold ∧ (offline true .held store).mode ≠ .hold ∧
    used (busyWindow (offline true .held store)) 0 ∧ ¬used (offline true .held store) 0 ∧
    ((elsewhere (offline true .idle (auditing []))).carousel? 0).map Carousel.state = some .idle ∧
    ((elsewhere (offline true .idle (auditing [2]))).carousel? 0).map Carousel.state = some .moving ∧
    carousel0.state ≠ .offline ∧ carousel0.state ≠ .fault := by decide +kernel

theorem witness_stops_and_tests_with_windows_in_use :
    (∀ st ∈ [CarouselState.stopping, .presenting], ¬used (inMove st none none) 0 ∧ used (busyWindow (inMove st none none)) 0) ∧
    (inMove .stopping none none).mode ≠ .hold ∧
    ({ inMove .moving none none with links := List.replicate 5 (Link.afterReset true) } : State).locked 0 = false := by
  decide +kernel

theorem witness_reports_of_the_bay_module :
    (∀ st ∈ [CarouselState.moving, .suspended, .stopping, .idle, .presenting, .held, .offline, .fault],
      ((inMove st none none).carousel? 0).map Carousel.state = some st ∧ (inMove st none none).locked 0 = true) ∧
    0 < 4 ∧ 7 < carousel0.geometry.n ∧ ({ inMove .stopping none none with mode := .hold } : State).mode = .hold ∧
    State.reset.locked 0 = false ∧ store.carouselOf 0 = some 0 ∧ store.carouselOf 1 = some 0 := by decide +kernel

theorem witness_motion_timers :
    ((inMove .moving (some 9#32) none).carousel? 0).bind (fun c => c.move.bind MoveRecord.deadline) = some 9#32 ∧
    ((inMove .stopping (some 9#32) none).carousel? 0).bind (fun c => c.move.bind MoveRecord.deadline) = some 9#32 ∧
    ((inMove .suspended none (some 9#32)).carousel? 0).bind Carousel.restart = some 9#32 ∧
    ((inMove .suspended none (some 9#32)).plan 0 3).map Plan.steps = some 1 ∧
    (((inMove .suspended none (some 9#32)).onCarousel 0 fun c => { c with p := 3 }).plan 0 3).map Plan.steps = some 0 := by
  decide +kernel

theorem test_move_done_parks_and_presents :
    ((after (.moveDone 0 3) (inMove .moving none none)).window 0).presentation = some ⟨3, [[.put 7 2], []]⟩ ∧
    ((after (.moveDone 0 3) (inMove .moving none none)).carousel? 0).map (fun c => (c.state, c.p)) = some (.presenting, 3) := by
  decide +kernel

theorem test_move_fail_reports_the_fault :
    ((after (.moveFail 0 .drive 2) (inMove .moving none none)).line.sending).map SentFrame.content =
      some (.notice (.moveFault 0 .drive 2 (some 3) (some 3))) := by decide +kernel

theorem test_stopped_in_hold_mode_is_held :
    ((after (.stopped 0 2) { inMove .stopping none none with mode := .hold }).carousel? 0).map Carousel.state = some .held := by
  decide +kernel

theorem test_guard_open_suspends : ((after (.guard 0 0 .opened 2) (inMove .moving none none)).carousel? 0).map (fun c => (c.state, c.p)) =
    some (.suspended, 2) := by decide +kernel

theorem test_guard_closed_starts_the_restart_delay :
    ((after (.guard 0 0 .closed 2) (inMove .suspended none none)).carousel? 0).bind Carousel.restart = some 1000#32 := by
  decide +kernel

theorem test_timers_of_a_move :
    ((after (.moveDeadlineExpiry 0) (inMove .moving (some 9#32) none)).carousel? 0).map Carousel.state = some .fault ∧
    ((after (.stopDeadlineExpiry 0) (inMove .stopping (some 9#32) none)).carousel? 0).map Carousel.state = some .fault ∧
    ((after (.restartDelayExpiry 0) (inMove .suspended none (some 9#32))).link 0).outstanding.map Outstanding.command =
      some (.move 7 .reverse .normal) := by decide +kernel

theorem test_position_reply_after_start_is_idle_and_acts :
    ((after (.positionReply 0 7 4 [(0, .closed)]) (asking 0 (.position true) 1
      (withCarousel fun c => { c with state := .offline, known := false, query := some .start }))).carousel? 0).map
        (fun c => (c.p, c.known, c.query)) = some (4, true, none) := by decide +kernel

theorem test_recover_asks_for_the_position :
    ((after (.recover 1 0) (inMove .fault none none)).link 0).outstanding.map Outstanding.command = some (.position true) := by
  decide +kernel

theorem test_get_carousel_reports : (replyOf (after (.getCarousel 1 0) store)).map Prod.fst = some .ok := by decide +kernel

/-! ### Witnesses: presentations and measurements -/

/-- Window 0 presents carrier 0 with empty queues, its carousel PRESENTING and carrier 0 in the audit list. -/
def emptied (s : State) : State :=
  (s.onCarousel 0 fun c => { c with state := .presenting, auditList := [0] }).onWindow 0 fun v =>
    { v with presentation := some ⟨0, [[], []]⟩ }

theorem witness_entries_in_order : store.pick? 0 = some pick0 ∧
    ({ store with picks := [pick0, { pick0 with number := 1, seq := 1 }] } : State).pick? 1 =
      some { pick0 with number := 1, seq := 1 } ∧
    store.entryBefore (.put 7 2) (.pick 0 1) = true ∧ store.entryBefore (.pick 0 1) (.put 7 2) = false := by decide +kernel

theorem witness_presentations_open :
    store.carousel? 0 = some carousel0 ∧ 0 < store.windows.length ∧ 7 < store.windows.length ∧
    store.fillQueue 0 0 0 = [.pick 0 1] ∧ (∀ i, i < carousel0.geometry.s → store.fillQueue 0 5 i = []) ∧
    (presenting.window 0).presentation ≠ none ∧ ((busyWindow store).window 0).measurement ≠ none ∧
    storeEmpty.carrierClass 0 ((storeEmpty.loopPosition 0 + carousel0.p) % carousel0.geometry.n) = none ∧
    (store.window 0).presentation = none ∧ (store.window 0).measurement = none ∧
    store.carrierClass 0 ((store.loopPosition 0 + carousel0.p) % carousel0.geometry.n) ≠ none := by decide +kernel

theorem witness_presentations_end :
    (∀ q ∈ [[], []], q = ([] : List Entry)) ∧ (∃ q ∈ [[Entry.pick 0 1], []], q ≠ []) ∧
    ((emptied (auditing [])).window 0).presentation = some ⟨0, [[], []]⟩ ∧ (emptied (auditing [])).carouselOf 0 = some 0 ∧
    (presenting.window 0).presentation = some ⟨0, [[.pick 0 1], []]⟩ ∧ presenting.carouselOf 0 = some 0 ∧
    ((emptied (auditing [])).carousel? 0).map (fun c => (c.state, c.auditList)) = some (.presenting, [0]) ∧
    (emptied (auditing [])).auditTest 0 0 = true ∧ (emptied store).auditTest 0 0 = false ∧
    ((inMove .offline none none).carousel? 0).map Carousel.state = some .offline ∧
    0 < carousel0.geometry.n ∧ carousel0.slots.length = carousel0.geometry.n * carousel0.geometry.s := by decide +kernel

theorem witness_entries_join_and_leave :
    presenting.presentingWindow 0 0 = some 0 ∧ (presenting.window 0).presentation = some ⟨0, [[.pick 0 1], []]⟩ ∧
    store.presentingWindow 0 0 = none ∧ (store.window 0).presentation = none := by decide +kernel

theorem witness_measurements :
    (busyWindow store).carousel? 0 = some carousel0 ∧ 0 < carousel0.geometry.s ∧ carousel0.geometry.s ≤ 2 ∧
    (store.slot? ⟨0, 1, 0⟩).map Slot.state = some .withdrawn ∧ (store.slot? ⟨0, 7, 1⟩).map Slot.state = some .free ∧
    carousel0.state = .idle ∧ store.carrierClass 0 0 ≠ none ∧ store.carrierClass 0 5 = none ∧
    ((busyWindow store).window 0).measurement = some ⟨.measure, 0, 0, .channel, 0, 0, 0, 0⟩ ∧
    (busyWindow store).slot? ⟨0, 0, 0⟩ = some ⟨.stocked, some ⟨0, 1305⟩, 3, 1, 0, none, none⟩ ∧
    (store.window 0).measurement = none ∧
    ((counting (.gate 100#32) .tare 1 0).window 0).measurement = some ⟨.tare, 0, 1, .gate 100#32, 0, 0, 0, 0⟩ := by decide +kernel

theorem test_an_emptied_presentation_is_measured_and_the_carrier_leaves_the_list :
    (((emptied (auditing [])).testEnd 0).window 0).measurement.map (fun m => (m.purpose, m.carrier, m.position)) =
      some (.measure, 0, 0) ∧
    (((emptied (auditing [])).testEnd 0).carousel? 0).map (fun c => (c.state, c.auditList)) = some (.presenting, []) := by
  decide +kernel

theorem test_an_entry_joins_behind_the_head :
    (((presenting.joinEntry ⟨0, 0, 0⟩ (.put 7 2)).window 0).presentation.map fun p => p.queue 0) =
      some [.pick 0 1, .put 7 2] := by decide +kernel

theorem test_a_cancelled_presentation_returns_its_picks :
    (presenting.cancelPresentation 0).picks.map Pick.presented = [false] ∧
    ((presenting.cancelPresentation 0).window 0).displays = blankDisplays := by decide +kernel

theorem test_a_lost_link_interrupts_the_count :
    ((State.interrupt 0 0 (busyWindow store)).window 0).measurement = none ∧
    ((State.interrupt 0 0 (busyWindow store)).carousel? 0).map Carousel.auditList = some [0] := by decide +kernel

/-! ### Witnesses: windows and panels -/

theorem witness_set_window : storeConfig.lineFree ∧ storeConfig.mode = .config ∧
    (∀ k ∈ [0, 1, 3], ((storeConfig.windowsOf k).filter fun v => decide (v ≠ 1)).length < 2) ∧
    ((storeConfig.windowsOf 1).filter fun v => decide (v ≠ 7)).length < 2 ∧
    (storeConfig.window 1).rank = some 1 ∧ (storeConfig.window 7).rank = none ∧
    (store.window 0).assigned = some (0, 0) ∧ (store.window 7).assigned = none ∧
    ((storeConfig.onWindow 7 fun v => { v with assigned := some (3, 47), rank := some 7 }).window 7).assigned = some (3, 47) ∧
    (storeConfig.onWindow 7 fun v => { v with assigned := some (3, 47), rank := some 7 }).carousel? 3 = none :=
  ⟨store_lineFree, rfl, by decide +kernel⟩

/-- Window 0 with the CONFIRM key of group 0 seen down once. -/
def keyDown : State := presenting.onWindow 0 fun v => { v with keys := v.keys.set 0 ⟨.up, .downOnce⟩ }

theorem witness_keys_and_displays : (keyDown.window 0).assigned.isSome = true ∧
    (keyDown.window 0).keys[0]? = some ⟨.up, .downOnce⟩ ∧ 0 < keyDown.positionsAt 0 ∧
    (presenting.window 0).displays[0]? = some ⟨.pick, 1, some 0, false⟩ ∧
    (presenting.window 0).displays[5]? = some Display.blank := by decide +kernel

theorem witness_display_records_and_headers : store.pick? 0 = some pick0 ∧ store.order? pick0.order = some order5 ∧
    (store.window 7).assigned = none ∧ (store.window 1).assigned = some (0, 4) ∧ (1 : Nat) < 8 := by decide +kernel

/-- Window 0 presents carrier 3 with the target of task 7. -/
def presentingPut : State :=
  (withCarousel fun c => { c with state := .presenting, p := 3 }).onWindow 0 fun v =>
    { v with presentation := some ⟨3, [[.put 7 2], []]⟩,
             displays := blankDisplays.set 0 { mode := .put, quantity := 2, lane := none, blink := false } }

theorem witness_confirm_of_a_put : presentingPut.carouselOf 0 = some 0 ∧
    (presentingPut.window 0).presentation = some ⟨3, [[.put 7 2], []]⟩ ∧
    (⟨3, [[.put 7 2], []]⟩ : Presentation).queue 0 = .put 7 2 :: [] ∧
    (presentingPut.window 0).displays.getD 0 Display.blank = ⟨.put, 2, none, false⟩ ∧
    presentingPut.task? 7 = some task7 ∧
    task7.targets.find? (fun y => decide (y.outcome = .opened) && y.addr == ⟨0, 3, 0⟩) = some ⟨⟨0, 3, 0⟩, 2, .opened⟩ ∧
    (({ presentingPut with tasks := [] } : State).task? 7).isNone = true := by decide +kernel

/-- The pick at window 0 with `q` left on the display and `n` tyres in the outfeed queue. -/
def pickAt (q n : Nat) : State :=
  presenting.onWindow 0 fun v => { v with displays := v.displays.set 0 ⟨.pick, q, some 0, false⟩,
                                          outfeed := List.replicate n ⟨5, 0, 0⟩ }

theorem witness_confirm_of_a_pick : presenting.carouselOf 0 = some 0 ∧
    (⟨0, [[.pick 0 1], []]⟩ : Presentation).queue 0 = .pick 0 1 :: [] ∧
    (∀ q ∈ [0, 1], ((pickAt q 7).window 0).displays.getD 0 Display.blank = ⟨.pick, q, some 0, false⟩) ∧
    (pickAt 1 7).pick? 0 = some { pick0 with presented := true } ∧ 1 ≤ ((pickAt 1 7).window 0).freePlaces ∧
    0 ≤ ((pickAt 0 8).window 0).freePlaces ∧ 0 < pick0.quantity ∧ ((pickAt 1 8).window 0).freePlaces < 1 := by decide +kernel

/-- The same with the slot's record as given. -/
def pickFrom (x : Slot) : State := (pickAt 0 0).onCarousel 0 fun c => { c with slots := c.slots.set 0 x }

theorem witness_short_picks :
    (pickFrom ⟨.stocked, some ⟨0, 1305⟩, 0, 0, 0, none, none⟩).slot? ⟨0, 0, 0⟩ =
      some ⟨.stocked, some ⟨0, 1305⟩, 0, 0, 0, none, none⟩ ∧
    (pickFrom ⟨.stocked, some ⟨0, 1305⟩, 3, 1, 0, none, none⟩).slot? ⟨0, 0, 0⟩ =
      some ⟨.stocked, some ⟨0, 1305⟩, 3, 1, 0, none, none⟩ ∧ (0 : Nat) ≤ ((pickAt 0 0).window 0).freePlaces ∧
    (pickFrom Slot.freeSlot).pick? 0 = some { pick0 with presented := true } ∧ min 0 pick0.quantity < pick0.quantity := by
  decide +kernel

theorem test_a_key_held_for_two_samplings_is_a_press :
    ((after (.keySampling 0 [(false, true)]) keyDown).window 0).presses = [.confirm 0] := by decide +kernel

theorem test_a_window_without_carousel_lights_its_header_alone :
    ((after (.keySampling 7 [(true, true)]) (storeConfig.onWindow 7 fun v => { v with assigned := some (3, 47) })).window 7).shown =
      some { groups := [], header := Header.blank } := by decide +kernel

theorem test_two_keys_of_a_group_at_once_are_no_press :
    ((after (.keySampling 0 [(true, true)]) (presenting.onWindow 0 fun v =>
      { v with keys := v.keys.set 0 ⟨.downOnce, .downOnce⟩ })).window 0).presses = [] := by decide +kernel

theorem test_minus_lowers_and_stays_at_zero :
    ((after (.minus 0 0) presenting).window 0).displays[0]?.map Display.quantity = some 0 ∧
    ((after (.minus 0 0) (pickAt 0 0)).window 0).displays[0]?.map Display.quantity = some 0 := by decide +kernel

theorem test_confirm_of_a_put_stocks_the_slot_and_frees_the_task :
    (after (.confirm 0 0) presentingPut).slot? ⟨0, 3, 0⟩ = some ⟨.stocked, some ⟨0, 1305⟩, 2, 0, 0, none, none⟩ ∧
    (after (.confirm 0 0) presentingPut).tasks = [] := by decide +kernel

theorem test_confirm_of_a_pick_moves_the_tyre_to_the_outfeed :
    (after (.confirm 0 0) (pickAt 1 7)).slot? ⟨0, 0, 0⟩ = some ⟨.stocked, some ⟨0, 1305⟩, 2, 0, 0, none, none⟩ ∧
    ((after (.confirm 0 0) (pickAt 1 7)).window 0).outfeed.length = 8 := by decide +kernel

theorem test_short_pick_puts_the_slot_in_quarantine :
    ((after (.confirm 0 0) (pickAt 0 0)).slot? ⟨0, 0, 0⟩).map (fun x => (x.state, x.reason, x.onHand)) =
      some (.quarantine, some .shortPick, 3) := by decide +kernel

theorem test_short_pick_joins_the_audit_list_with_its_notice :
    ((State.shortPick 0 { pick0 with presented := true } 0 (pickAt 0 0)).carousel? 0).map Carousel.auditList = some [0] ∧
    (after (.confirm 0 0) (pickAt 0 0)).line.sending.map SentFrame.content =
      some (.notice (.shortPick ⟨0, ⟨0, 0, 0⟩, 5, 0, 70412, 1, 0, .quarantine, 3, 0, 0⟩)) := by
  decide +kernel

theorem test_confirm_without_places_waits :
    ((after (.confirm 0 0) (pickAt 1 8)).window 0).displays[0]?.map Display.mode = some .wait := by decide +kernel

theorem test_set_window_to_none :
    replyOf (after (.setWindow 1 0 none 0) storeConfig) = some (.ok, .window 0 none) ∧
    (replyOf (after (.getWindow 1 0) presenting)).map Prod.fst = some .ok := by decide +kernel

/-! ### Witnesses: consolidation -/

theorem witness_grants : store.grantWindow = some 0 ∧ (store.window 0).outfeed = ⟨5, 0, 0⟩ :: [] ∧
    store.merge.state = .running ∧ store.merge.transfer = none ∧ store.locked 4 = true ∧
    (transferring 1).merge.transfer ≠ none ∧ State.reset.locked 4 = false ∧ State.reset.grantWindow = none ∧
    (store.windows[1]?.bind Window.rank) = some 1 := by decide +kernel

theorem witness_ranks_are_distinct (u v a : Nat) (h : u ≠ v) (hu : (store.windows[u]?.bind Window.rank) = some a) :
    (store.windows[v]?.bind Window.rank) ≠ some a := by
  have at_most : ∀ w x, (store.windows[w]?.bind Window.rank) = some x → w = x ∧ x < 2 := by
    intro w x hx
    match w, hx with
    | 0, hx => cases hx; decide
    | 1, hx => cases hx; decide
    | 2, hx => nomatch hx
    | 3, hx => nomatch hx
    | 4, hx => nomatch hx
    | 5, hx => nomatch hx
    | 6, hx => nomatch hx
    | 7, hx => nomatch hx
    | _ + 8, hx => nomatch hx
  intro hv
  exact h ((at_most u a hu).1.trans (at_most v a hv).1.symm)

theorem witness_deliveries : store.order? (⟨5, 0, 0⟩ : Item).order = some order5 ∧
    order5.lines[0]? = some ⟨0, 3, 2, 1, 1, false⟩ := by decide +kernel

theorem witness_deliveries_that_end_an_order :
    (withOrder (settledOrder 2) (.bound 5)).order? 5 = some (settledOrder 2 order5) ∧ (settledOrder 2 order5).state = .active ∧
    (∀ l ∈ ((settledOrder 2 order5).onLine 0 fun l => { l with delivered := l.delivered + 1 }).lines,
      l.delivered = l.requested) ∧
    (withOrder (fun o => { o with state := .cancelled }) (.draining 5)).order? 5 = some { order5 with state := .cancelled } ∧
    total ((({ order5 with state := .cancelled } : Order).onLine 0 fun l => { l with delivered := l.delivered + 1 }).lines.map
      fun l => l.picked - l.delivered) = 0 ∧ ¬(∀ l ∈ order5.lines, l.delivered + 1 = l.requested) := by decide +kernel

theorem witness_transfers : (transferring 1).locked 4 = true ∧ (transferring 1).merge.transfer = some transfer0 ∧
    transfer0.deadline = some 8000#32 ∧ (transferring 1).merge.state = .running ∧
    (∀ n ∈ [1, 2], ((transferring n).merge.transfer.map Transfer.attempt) = some n ∧ n < 3) ∧
    ((transferring 3).merge.transfer.map Transfer.attempt) = some 3 := by decide +kernel

/-- The store with its merge stopped. -/
def stopped (t : Option Transfer) : State := { store with merge := ⟨.stopped .jammed, 255, t⟩ }

theorem witness_merge_resume : (stopped none).lineFree ∧ (stopped none).mode ≠ .config ∧ (stopped none).merge.state ≠ .running ∧
    (stopped none).locked 4 = true ∧ (stopped none).merge.transfer = none ∧
    (stopped (some transfer0)).merge.transfer = some transfer0 := ⟨store_lineFree, by decide +kernel⟩

theorem witness_transfers_of_a_stopped_merge_and_other_reports :
    (stopped (some transfer0)).locked 4 = true ∧ (stopped (some transfer0)).merge.state ≠ .running ∧
    transfer0.number = 9 ∧ transfer0.number ≠ 8 ∧ (0 : Nat) ≠ 4 ∧ State.reset.locked 4 = false ∧
    store.merge.transfer = none := by decide +kernel

theorem test_a_confirm_that_waits_for_places_returns_when_the_item_leaves :
    (((after (.arrived 4 9) { pickAt 1 8 with
        merge := { store.merge with transfer := some transfer0 },
        windows := (pickAt 1 8).windows.set 0 { (pickAt 1 8).window 0 with
          displays := blankDisplays.set 0 ⟨.wait, 1, some 0, false⟩ } }).window 0).displays[0]?.map Display.mode) = some .pick := by
  decide +kernel

theorem test_arrived_completes_the_transfer :
    (after (.arrived 4 9) (transferring 1)).merge.transfer = none ∧
    ((after (.arrived 4 9) (transferring 1)).order? 5).map Order.deliveredTotal = some 2 ∧
    (after (.arrived 4 9) (transferring 1)).windows.map Window.rank =
      [some 0, some 1, none, none, none, none, none, none] := by decide +kernel

theorem test_jammed_stops_the_merge : (after (.jammed 4 9) (transferring 1)).merge.state = .stopped .jammed := by decide +kernel

theorem test_the_third_deadline_stops_the_merge :
    (after .transferDeadlineExpiry (transferring 3)).merge.state = .stopped .timeout ∧
    ((after .transferDeadlineExpiry (transferring 2)).merge.transfer.map Transfer.attempt) = some 3 := by decide +kernel

theorem test_merge_resume_takes_the_next_number :
    replyOf (after (.mergeResume 1) (stopped (some transfer0))) = some (.ok, .mergeResumed (some 255)) ∧
    (after (.mergeResume 1) (stopped (some transfer0))).merge.nextNumber = 0 ∧
    (replyOf (after (.getMerge 1) store)).map Prod.fst = some .ok := by decide +kernel

/-! ### Witnesses: audit -/

theorem witness_audit : store.lineFree ∧ store.mode ≠ .config ∧ store.carousel? 0 = some carousel0 ∧ 0 ≤ 7 ∧
    7 < carousel0.geometry.n ∧ ((inMove .moving none none).carousel? 0).map Carousel.state = some .moving :=
  ⟨store_lineFree, by decide +kernel⟩

theorem witness_tare : store.lineFree ∧ store.shaped ∧ store.mode ≠ .config ∧ (store.window 0).assigned = some (0, 0) ∧
    store.carousel? 0 = some carousel0 ∧ 1 < carousel0.geometry.s ∧ carousel0.state = .idle ∧
    store.slot? ⟨0, (0 + carousel0.p) % carousel0.geometry.n, 1⟩ = some Slot.freeSlot ∧
    (store.window 0).presentation = none ∧ (store.window 0).measurement = none :=
  ⟨store_lineFree, store_shaped, by decide +kernel⟩

theorem witness_counters_and_gates :
    ((counting (.gate 100#32) .tare 1 65535).window 0).counterOpen = true ∧ (store.window 0).counterOpen = false ∧
    ((counting (.settle 200#32) .measure 0 0).window 0).measurement = some ⟨.measure, 0, 0, .settle 200#32, 0, 0, 0, 0⟩ ∧
    (counting (.gate 100#32) .tare 1 65535).carouselOf 0 = some 0 ∧
    ((counting (.gate 100#32) .tare 1 65535).window 0).measurement = some ⟨.tare, 0, 1, .gate 100#32, 0, 0, 0, 0⟩ ∧
    ((counting (.gate 100#32) .tare 1 65535).window 0).calibrations[1]? = some ⟨0, 41⟩ := by decide +kernel

theorem witness_counts_and_loads : (65535 : Nat) ≤ 65535 ∧ (4100 : Nat) ≠ 65535 ∧ (4100 : Nat) ≤ 4100 ∧ (4100 : Nat) < 4101 ∧
    (40 : Nat) ≤ 40 ∧ (9999 : Nat) ≤ 9999 := by decide

/-- Window 0 at the gate of slot 0.0.0 with its record as given, at a count. -/
def gateOn (x : Slot) (count : Nat) : State :=
  { counting (.gate 100#32) .measure 0 count with
    carousels := [some { carousel0 with state := .presenting, slots := carousel0.slots.set 0 x }, none, none, none],
    discrepancies := [⟨⟨0, 0, 0⟩, .mismatch, 1, some 0, 90⟩] }

theorem witness_the_gate_judges :
    (∀ x ∈ [carousel0.slots.getD 0 Slot.freeSlot, ⟨.quarantine, some ⟨0, 1305⟩, 3, 0, 0, some 90, some .mismatch⟩, Slot.freeSlot],
      (gateOn x 7343).slot? ⟨0, 0, 0⟩ = some x ∧ (gateOn x 7343).carouselOf 0 = some 0 ∧
      ((gateOn x 7343).window 0).measurement = some ⟨.measure, 0, 0, .gate 100#32, 0, 0, 0, 0⟩) ∧
    judge 3 7343 (measuredLoad 7343 ⟨0, 41⟩) (some (estimateOf (measuredLoad 7343 ⟨0, 41⟩) 98)) = .matching ∧
    (judge 0 65535 (measuredLoad 65535 ⟨0, 41⟩) none).reason = some .overrange ∧
    (Slot.freeSlot.state = .free → Slot.freeSlot.onHand = 0) := by decide +kernel

theorem witness_the_gate_finds_a_reason :
    (∀ x ∈ [(⟨.stocked, some ⟨0, 1305⟩, 3, 1, 0, none, none⟩ : Slot), ⟨.quarantine, some ⟨0, 1305⟩, 3, 0, 0, some 90, some .mismatch⟩],
      (gateOn x 100).slot? ⟨0, 0, 0⟩ = some x) ∧
    (judge 3 100 (measuredLoad 100 ⟨0, 41⟩) (some (estimateOf (measuredLoad 100 ⟨0, 41⟩) 98))).reason = some .mismatch ∧
    ((gateOn Slot.freeSlot 100).discrepancies.any fun d => d.addr == ⟨0, 0, 0⟩) = true ∧
    (({ gateOn Slot.freeSlot 100 with discrepancies := List.replicate 32 ⟨⟨0, 1, 0⟩, .mismatch, 1, none, 90⟩ } : State).discrepancies.any
      fun d => d.addr == ⟨0, 0, 0⟩) = false := by decide +kernel

theorem test_audit_lists_the_carriers :
    replyOf (after (.audit 1 0 6 7) (inMove .moving none none)) = some (.ok, .listed 2 2) := by decide +kernel

theorem test_audit_counts_the_standing_carrier_first :
    ((after (.audit 1 0 0 2) (auditing [])).window 0).measurement.map (fun m => (m.carrier, m.phase)) = some (0, .channel) ∧
    ((after (.audit 1 0 0 2) (auditing [])).carousel? 0).map Carousel.state = some .presenting ∧
    replyOf (after (.audit 1 0 0 2) (auditing [])) = some (.ok, .listed 3 2) := by decide +kernel

theorem test_tare_opens_and_stores :
    replyOf (after (.tare 1 0 1) store) = some (.accepted, .none) ∧
    ((after (.gateExpiry 0) (counting (.gate 100#32) .tare 1 4100)).window 0).calibrations[1]? = some ⟨4100, 41⟩ := by
  decide +kernel

theorem test_sensor_cycles_saturate :
    ((after (.sensorCycle 0) (counting (.gate 100#32) .tare 1 65535)).window 0).counter = 65535 ∧
    ((after (.sensorCycle 0) (counting (.gate 100#32) .tare 1 65534)).window 0).counter = 65535 ∧
    ((after (.settleExpiry 0) (counting (.settle 200#32) .measure 0 5)).window 0).counter = 0 := by decide +kernel

theorem test_the_gate_finds_a_mismatch :
    ((after (.gateExpiry 0) (gateOn ⟨.stocked, some ⟨0, 1305⟩, 3, 0, 0, none, none⟩ 100)).slot? ⟨0, 0, 0⟩).map
        (fun x => (x.state, x.reason, x.measured, x.onHand)) = some (.quarantine, some .mismatch, some 4, 3) ∧
    (after (.gateExpiry 0) (gateOn ⟨.stocked, some ⟨0, 1305⟩, 3, 0, 0, none, none⟩ 100)).discrepancies =
      [⟨⟨0, 0, 0⟩, .mismatch, 3, some 0, 4⟩] := by decide +kernel

theorem test_the_gate_releases_a_matching_slot :
    ((after (.gateExpiry 0) (gateOn ⟨.quarantine, some ⟨0, 1305⟩, 3, 0, 0, some 90, some .mismatch⟩ 7343)).slot? ⟨0, 0, 0⟩).map
        Slot.state = some .stocked ∧
    (after (.gateExpiry 0) (gateOn ⟨.quarantine, some ⟨0, 1305⟩, 3, 0, 0, some 90, some .mismatch⟩ 7343)).discrepancies = [] := by
  decide +kernel

theorem test_audit_reports :
    (replyOf (after (.getAudit 1 7) store)).map Prod.fst = some .ok ∧
    replyOf (after (.getDiscrepancies 1) store) = some (.ok, .discrepancies [⟨⟨0, 2, 0⟩, .mismatch, 1, some 0, 90⟩] 1 false) ∧
    replyOf (after (.getCal 1 8) store) = some (.badField, .none) := by decide +kernel

/-! ### Witnesses: bay links -/

/-- The bridge in mode DEFERRED. -/
def deferred (ticket : Nat) : State :=
  { store with settings := { store.settings with bridgeMode := .deferred }, nextTicket := ticket }

theorem witness_station_access : store.lineFree ∧ (4 : Nat) ≤ 4 ∧ (255 : Nat) ≤ 255 ∧ (65535 : Nat) ≤ 65535 ∧
    store.locked 4 = true ∧ (store.link 4).access = none ∧ store.settings.bridgeMode = .held ∧
    (deferred 255).settings.bridgeMode = .deferred := ⟨store_lineFree, by decide +kernel⟩

/-- An access in flight on link 4, asked for by a request in progress. -/
def accessing (ticket : Option Nat) : State :=
  (asking 4 (.access 1 .read 0) 1 { store with line := { store.line with progress := some ⟨0x50, 1, some (.access 4)⟩ } }).onLink 4
    fun l => { l with access := some ⟨1, .read, 0, ticket⟩ }

theorem witness_access_reply : ∀ t ∈ [none, some 255],
    (accessing t).answers 4 7 = some (.access 1 .read 0) ∧ ((accessing t).link 4).access = some ⟨1, .read, 0, t⟩ ∧
    4 < (accessing t).links.length ∧ (accessing t).line.progress = some ⟨0x50, 1, some (.access 4)⟩ := by decide +kernel

/-- A test record as LINK_TEST_START leaves it, running or not. -/
def testRecord (dir : TestDir) (latch : Latch) (running : Bool) : TestRecord :=
  { TestRecord.atStart dir latch with starting := !running, running := running, wordExpiry := if running then some 100#32 else none }

/-- Link 0 TESTING with a command outstanding, while a request waits for it. -/
def testing (r : TestRecord) (c : Command) (e : Exchange) : State :=
  (asking 0 c 1 { store with line := { store.line with progress := some ⟨0x51, 1, some e⟩ } }).onLink 0 fun l =>
    { l with state := .testing, test := some r }

theorem witness_link_tests : store.lineFree ∧ store.locked 0 = true ∧ store.testWouldDisturb 0 = false ∧
    (∀ q ∈ [(TestDir.inbound, Latch.live), (.inbound, .latched), (.outbound, .latched)],
      ¬(q.1 = TestDir.outbound ∧ q.2 = Latch.live)) ∧
    ({ store with links := store.links.set 0 { lockedLink with state := .testing } } : State).lineFree ∧
    (({ store with links := store.links.set 0 { lockedLink with state := .testing } } : State).link 0).state = .testing :=
  ⟨store_lineFree, rfl, by decide +kernel, by decide, store_lineFree, rfl⟩

theorem witness_link_tests_of_idle_and_offline_carousels :
    (4 : Nat) = 4 ∧ store.locked 4 = true ∧ store.testWouldDisturb 4 = false ∧ store.carousel? 1 = none ∧
    store.locked 1 = true ∧ store.testWouldDisturb 1 = false ∧ (store.carousel? 0).map Carousel.state = some .idle ∧
    ((offline true .idle store).carousel? 0).map Carousel.state = some .offline ∧
    (offline true .idle store).testWouldDisturb 0 = false ∧ (offline true .idle store).locked 0 = true := by decide +kernel

theorem witness_presence_and_lock : (State.reset.link 0).state = .down ∧
    (∀ st ∈ [LinkState.down, .training, .locked, .testing],
      ((store.onLink 4 fun l => { l with state := st }).link 4).state = st) ∧
    4 < (store.onLink 4 fun l => { l with settle := some 100#32 }).links.length ∧
    ((store.onLink 4 fun l => { l with settle := some 100#32 }).link 4).settle = some 100#32 := by decide +kernel

theorem witness_a_block_is_told_of_its_link :
    ((offline true .idle store).carousel? 0).map (fun c => (c.state, c.query)) = some (.offline, none) ∧
    (offline true .idle store).mode ≠ .config ∧ (offline true .idle store).locked 0 = true ∧
    carousel0.state ≠ .offline ∧ transfer0.linkLost = false ∧
    ({ store with merge := { store.merge with transfer := some { transfer0 with linkLost := true } } } : State).merge.transfer =
      some { transfer0 with linkLost := true } ∧
    (transferring 1).merge.state = .running ∧ store.merge.transfer = none ∧ (stopped (some transfer0)).merge.state ≠ .running ∧
    (∀ st ∈ [CarouselState.moving, .suspended, .stopping, .idle, .presenting, .held, .offline, .fault],
      ((inMove st none none).carousel? 0).map Carousel.state = some st) := by decide +kernel

theorem witness_tests_unanswered :
    (∀ d ∈ [TestDir.inbound, .outbound], ((asking 0 (.testStart d) 3 store).link 0).outstanding = some ⟨.testStart d, 7, 3, 20#32⟩) ∧
    ((asking 0 .testStop 3 store).link 0).outstanding = some ⟨.testStop, 7, 3, 20#32⟩ ∧ 0 < store.links.length := by decide +kernel

theorem witness_reply_timers : (∀ c ∈ [Command.move 3 .forward .normal, .halt, .divert 9 0 0], ∀ n ∈ [1, 2, 3],
      ((asking 4 c n store).link 4).outstanding = some ⟨c, 7, n, 20#32⟩ ∧ 4 < (asking 4 c n store).links.length ∧
      (∀ d ∈ [TestDir.inbound, .outbound], c ≠ .testStart d) ∧ c ≠ .testStop) ∧ (8 : Nat) ≠ 7 := by decide +kernel

theorem witness_station_answers :
    (asking 0 (.channel 0 0) 1 (counting .channel .measure 0 0)).answers 0 7 = some (.channel 0 0) ∧
    ((asking 0 (.channel 0 0) 1 (counting .channel .measure 0 0)).window 0).measurement =
      some ⟨.measure, 0, 0, .channel, 0, 0, 0, 0⟩ ∧
    (∀ d ∈ [TestDir.inbound, .outbound],
      (testing (testRecord d .latched false) (.testStart d) (.testStart 0)).answers 0 7 = some (.testStart d) ∧
      ((testing (testRecord d .latched false) (.testStart d) (.testStart 0)).link 0).test = some (testRecord d .latched false) ∧
      (testing (testRecord d .latched true) .testStop (.testStop 0)).answers 0 7 = some .testStop ∧
      ((testing (testRecord d .latched true) .testStop (.testStop 0)).link 0).test = some (testRecord d .latched true) ∧
      (testRecord d .latched true).dir = d ∧ (testRecord d .latched true).running = true) ∧
    (testing (testRecord .outbound .latched true) .testStop (.testStop 0)).line.progress = some ⟨0x51, 1, some (.testStop 0)⟩ ∧
    (testing (testRecord .outbound .latched true) .testStop (.testStop 0)).line.sending = none ∧
    store.line.progress = none ∧ (testRecord .inbound .live true).wordExpiry = some 100#32 := by decide +kernel

theorem test_a_deferred_access_has_a_ticket :
    replyOf (after (.stationAccess 1 4 255 (some .write) 65535) (deferred 255)) = some (.accepted, .ticket 255) ∧
    (after (.stationAccess 1 4 255 (some .write) 65535) (deferred 255)).nextTicket = 1 := by decide +kernel

theorem test_a_held_access_is_answered_by_the_station :
    replyOf (after (.accessReply 4 7 (some 42)) (accessing none)) = some (.ok, .access 4 1 .read (.done 42)) := by decide +kernel

theorem test_link_test_start_and_stop_wait_for_the_station :
    (after (.linkTestStart 1 0 (some .outbound) (some .latched)) store).line.progress = some ⟨0x51, 1, some (.testStart 0)⟩ ∧
    replyOf (after (.ack 0 7) (testing (testRecord .inbound .latched false) (.testStart .inbound) (.testStart 0))) =
      some (.ok, .none) ∧
    (after (.linkTestStop 1 0) { store with links := store.links.set 0 { lockedLink with state := .testing } }).line.progress =
      some ⟨0x52, 1, some (.testStop 0)⟩ := by decide +kernel

theorem test_the_answer_to_test_stop_ends_the_test :
    ((after (.testStopReply 0 7 (some (.fail, 3))) (testing (testRecord .outbound .latched true) .testStop (.testStop 0))).link 0).state =
      .training ∧
    replyOf (after (.testStopReply 0 7 (some (.fail, 3))) (testing (testRecord .outbound .latched true) .testStop (.testStop 0))) =
      some (.ok, .linkTest (some ⟨0, .outbound, .latched, .fail, some 3⟩)) := by decide +kernel

theorem test_presence_and_lock :
    ((after (.presenceActive 0) State.reset).link 0).state = .training ∧
    ((after (.lock 0) (after (.presenceActive 0) State.reset)).link 0).state = .locked ∧
    ((after (.presenceInactive 0) store).carousel? 0).map (fun c => (c.state, c.resume)) = some (.offline, some .idle) := by
  decide +kernel

theorem test_the_settle_sends_the_first_command :
    ((after (.linkSettleExpiry 4) (store.onLink 4 fun l => { l with settle := some 100#32, queue := [.halt] })).link 4).outstanding =
      some ⟨.halt, 0, 1, 120#32⟩ := by decide +kernel

theorem test_the_third_send_unanswered_takes_the_link_from_locked :
    ((after (.replyTimerExpiry 4) (asking 4 .halt 3 store)).link 4).state = .training ∧
    ((after (.replyTimerExpiry 4) (asking 4 .halt 2 store)).link 4).outstanding = some ⟨.halt, 7, 3, 40#32⟩ := by decide +kernel

theorem test_a_missing_test_word_is_an_error :
    ((after (.testWordTimeout 0) (testing (testRecord .inbound .latched true) .halt (.access 0))).link 0).test.map
      (fun t => (t.errors, t.result, t.wordExpiry)) = some (1, .fail, some 200#32) := by decide +kernel

theorem test_the_awaited_test_word_is_no_error :
    (testRecord .inbound .latched true).receive 0#32 (Config.testWord 0) =
      { testRecord .inbound .latched true with wordIndex := 1 } := by
  simp [TestRecord.receive, testRecord, TestRecord.atStart, ms, Config.testInterval]

theorem test_get_link_reports : (replyOf (after (.getLink 1 4) store)).map Prod.fst = some .ok := by decide +kernel

theorem test_a_table_word_spells_no_command : decodeTableWord 32 1 = none ∧
    (State.reset.withFetchWord 32 1).pending = [] := ⟨rfl, rfl⟩

theorem test_one_ms_passes_on_an_empty_queue : (match step State.reset with
    | .next t => t.now
    | _ => 0#32) = 1#32 := by decide +kernel

end Sys2Proof.Tests
end

