-- ==== Sys2Proof/Proofs/ArticleRequests.lean ====
section
/-! PROOFS. DELETE_ARTICLE, GET_ARTICLE and GET_SLOT (R5, R6, R22): what the owner of each request answers, case by case, and the
statements about them. A request on a free line is its owner's answer (`request_lineFree`), so each clause of a statement is one
case of the owner. -/

namespace Sys2Proof.Machine

/-! ### Taking a request does not touch the tables -/

@[simp] theorem State.take_articleOf (s : State) (kind tag code : Nat) :
    (s.take kind tag).articleOf code = s.articleOf code := rfl

@[simp] theorem State.take_inUse (s : State) (kind tag place : Nat) : (s.take kind tag).inUse place = s.inUse place := rfl

@[simp] theorem State.take_slot? (s : State) (kind tag : Nat) (a : SlotAddr) : (s.take kind tag).slot? a = s.slot? a := rfl

@[simp] theorem State.take_slotReport (s : State) (kind tag : Nat) (a : SlotAddr) (x : Slot) :
    (s.take kind tag).slotReport a x = s.slotReport a x := rfl

/-- A refusal of a request just taken is a plain answer without fields (R187). -/
@[simp] theorem refuse_take_outcome (s : State) (kind tag : Nat) (r : Result) :
    ((s.take kind tag).refuse r).outcome = s.answered kind tag r .none := rfl

/-- A reply of a request just taken that writes no record is a plain answer (R187). -/
@[simp] theorem reply_take_outcome (s : State) (kind tag : Nat) (r : Result) (b : ReplyBody) :
    (Answer.reply (s.take kind tag) r b).outcome = s.answered kind tag r b := rfl

/-! ### The removal of an article record -/

/-- The part without the record at a place of the article table (R5). -/
def State.removeArticle (place : Nat) (s : State) : State :=
  { s with articles := s.articles.filter fun q => decide (q.1 ≠ place) }

theorem mem_removeArticle (s : State) (place : Nat) (q : Nat × Article) :
    q ∈ (s.removeArticle place).articles ↔ q ∈ s.articles ∧ q.1 ≠ place := by
  simp [State.removeArticle]

/-- The place of a removed record is free. -/
theorem removeArticle_articleAt (s : State) (place : Nat) : (s.removeArticle place).articleAt place = none := by
  have absent : ∀ q ∈ (s.removeArticle place).articles, ¬(q.1 == place) = true := fun q hq => by
    simpa using ((mem_removeArticle s place q).mp hq).2
  rw [State.articleAt, List.find?_eq_none.mpr absent, Option.map_none]

/-- The host line and the article table are apart: a removal answered is the answer on the part with the record removed. -/
theorem reply_removeArticle_outcome (s : State) (kind tag place : Nat) (r : Result) (b : ReplyBody) :
    (Answer.reply ((s.take kind tag).removeArticle place) r b).outcome = (s.removeArticle place).answered kind tag r b := rfl

/-! ### What the owners answer -/

/-- A code of 0 (R5, check 1). -/
theorem deleteArticle_zero (s : State) : deleteArticle 0 s = s.refuse .badField := if_pos rfl

/-- A code that the table does not hold (R5, check 2). -/
theorem deleteArticle_notHeld {s : State} {code : Nat} (hc : code ≠ 0) (ha : s.articleOf code = none) :
    deleteArticle code s = s.refuse .notFound := by
  simp [deleteArticle, hc, ha]

/-- An article in use (R5, check 3). -/
theorem deleteArticle_inUse {s : State} {code place : Nat} {a : Article} (hc : code ≠ 0)
    (ha : s.articleOf code = some (place, a)) (hu : s.inUse place = true) : deleteArticle code s = s.refuse .inUse := by
  simp [deleteArticle, hc, ha, hu]

/-- An article that is not in use is removed (R5). -/
theorem deleteArticle_notInUse {s : State} {code place : Nat} {a : Article} (hc : code ≠ 0)
    (ha : s.articleOf code = some (place, a)) (hu : s.inUse place = false) :
    deleteArticle code s = .reply (s.removeArticle place) .ok .none := by
  simp [deleteArticle, State.removeArticle, hc, ha, hu]

/-- A code of 0 (R6). -/
theorem getArticle_zero (s : State) : getArticle 0 s = s.refuse .badField := if_pos rfl

/-- A code that the table does not hold (R6). -/
theorem getArticle_notHeld {s : State} {code : Nat} (hc : code ≠ 0) (ha : s.articleOf code = none) :
    getArticle code s = s.refuse .notFound := by
  simp [getArticle, hc, ha]

/-- A held code: the record and its in-use indication (R6). -/
theorem getArticle_held {s : State} {code place : Nat} {a : Article} (hc : code ≠ 0)
    (ha : s.articleOf code = some (place, a)) :
    getArticle code s = .reply s .ok (.articleUse a (s.inUse place)) := by
  simp [getArticle, hc, ha]

/-- An address outside the configured geometry (R22). -/
theorem getSlot_absent {s : State} {a : SlotAddr} (hx : s.slot? a = none) : getSlot a s = s.refuse .badField := by
  simp [getSlot, hx]

/-- A slot of the directory (R22). -/
theorem getSlot_present {s : State} {a : SlotAddr} {x : Slot} (hx : s.slot? a = some x) :
    getSlot a s = .reply s .ok (.slot (s.slotReport a x)) := by
  simp [getSlot, hx]

/-- The base limit of a slot is the smaller of the two stack limits, the position's and the article's (R10). -/
theorem heldLimit_held {s : State} (a : SlotAddr) {x : Slot} {h : Holding} {art : Article} (hx : x.held = some h)
    (ha : s.articleAt h.place = some art) :
    s.heldLimit a x = min ((s.geometryOf a).stackLimit a.slot) art.stackLimit := by
  simp [State.heldLimit, State.baseLimit, hx, ha]

/-! ### The requests on a free line -/

theorem exec_deleteArticle_lineFree {s : State} (h : s.lineFree) {tag : Nat} (ht : tag ≠ 0) (code : Nat) :
    exec (.deleteArticle tag code) s = .next (deleteArticle code (s.take 0x11 tag)).outcome :=
  congrArg _ (request_lineFree h ht _ _)

theorem exec_getArticle_lineFree {s : State} (h : s.lineFree) {tag : Nat} (ht : tag ≠ 0) (code : Nat) :
    exec (.getArticle tag code) s = .next (getArticle code (s.take 0x12 tag)).outcome :=
  congrArg _ (request_lineFree h ht _ _)

theorem exec_getSlot_lineFree {s : State} (h : s.lineFree) {tag : Nat} (ht : tag ≠ 0) (a : SlotAddr) :
    exec (.getSlot tag a) s = .next (getSlot a (s.take 0x23 tag)).outcome :=
  congrArg _ (request_lineFree h ht _ _)

/-- GET_ARTICLE reports the record and whether it is in use (R6). -/
theorem exec_getArticle_reports {s : State} (h : s.lineFree) {tag : Nat} (ht : tag ≠ 0) {code place : Nat} {a : Article}
    (hc : code ≠ 0) (ha : s.articleOf code = some (place, a)) :
    exec (.getArticle tag code) s = .next (s.answered 0x12 tag .ok (.articleUse a (s.inUse place))) := by
  rw [exec_getArticle_lineFree h ht, getArticle_held hc (by simpa using ha), reply_take_outcome, State.take_inUse]

/-- GET_SLOT reports the slot record and its limits (R22). -/
theorem exec_getSlot_reports {s : State} (h : s.lineFree) {tag : Nat} (ht : tag ≠ 0) {a : SlotAddr} {x : Slot}
    (hx : s.slot? a = some x) :
    exec (.getSlot tag a) s = .next (s.answered 0x23 tag .ok (.slot (s.slotReport a x))) := by
  rw [exec_getSlot_lineFree h ht, getSlot_present (by simpa using hx), reply_take_outcome, State.take_slotReport]

/-! ### The statements -/

/-- Settles O17: one case of the owner for each clause, and the table after a removal. -/
theorem deleteArticleRemovesTheRecord : Obligations.DeleteArticleRemovesTheRecord := by
  intro s tag code h ht
  rw [exec_deleteArticle_lineFree h ht]
  refine ⟨?zero, ?notHeld, ?inUse, ?removed⟩
  case zero =>
    rintro rfl
    rw [deleteArticle_zero, refuse_take_outcome]
  case notHeld =>
    intro hc _ ha
    rw [deleteArticle_notHeld hc (by simpa using ha), refuse_take_outcome]
  case inUse =>
    intro place a hc ha hu
    rw [deleteArticle_inUse hc (by simpa using ha) (by simpa using hu), refuse_take_outcome]
  case removed =>
    intro place a hc ha hu
    rw [deleteArticle_notInUse hc (by simpa using ha) (by simpa using hu), reply_removeArticle_outcome]
    exact ⟨(s.removeArticle place).articles, rfl, mem_removeArticle s place, removeArticle_articleAt s place⟩

/-- Settles O18: one case of the owners for each clause; the report written out is `State.slotReport`. -/
theorem getArticleAndGetSlotReportTheRecords : Obligations.GetArticleAndGetSlotReportTheRecords := by
  constructor
  · intro s tag code h ht
    refine ⟨?zero, ?notHeld, fun _ _ hc ha => exec_getArticle_reports h ht hc ha⟩
    case zero =>
      rintro rfl
      rw [exec_getArticle_lineFree h ht, getArticle_zero, refuse_take_outcome]
    case notHeld =>
      intro hc _ ha
      rw [exec_getArticle_lineFree h ht, getArticle_notHeld hc (by simpa using ha), refuse_take_outcome]
  · intro s tag a h ht
    refine ⟨?absent, fun _ hx => exec_getSlot_reports h ht hx, fun _ _ _ _ hx ha => heldLimit_held a hx ha⟩
    case absent =>
      intro hx
      rw [exec_getSlot_lineFree h ht, getSlot_absent (by simpa using hx), refuse_take_outcome]

end Sys2Proof.Machine
end

section
/-! PROOFS. The shape of a step: a command is RESET, bytes on the line, the end of a frame sent, a request handed to its owning
rule, or one event of a block; so what every step keeps is what the owning rules, the events and the host line keep. -/

namespace Sys2Proof.Machine

/-! ### The events of the blocks -/

/-- What a command that is neither a reset, nor the host line's, nor a request makes of the part: the event, and its close. -/
def State.event (s : State) : Instr → State
  | .presenceActive st => if st < 5 then (s.presenceActive st).close else s
  | .presenceInactive st => if st < 5 then (s.presenceInactive st).close else s
  | .lock st => if st < 5 then (s.lockReport st).close else s
  | .linkSettleExpiry st => s.linkSettled st
  | .replyTimerExpiry st => (s.replyExpiry st).close
  | .ack st n => (s.acked st n).close
  | .positionReply st n p gs => (s.positionReply st n p gs).close
  | .accessReply st n v => (s.accessReply st n v).close
  | .testStopReply st n v => (s.testStopReply st n v).close
  | .testWord st word => s.onTest st (TestRecord.receive s.now word)
  | .testWordTimeout st => s.testSilence st
  | .moveDone st p => (s.moveDone st p).close
  | .moveFail st r p => (s.moveFail st r p).close
  | .stopped st p => (s.stopped st p).close
  | .guard st w g p => (s.guardReport st w g p).close
  | .moveDeadlineExpiry k => (s.moveDeadline k).close
  | .restartDelayExpiry k => (s.restartDelay k).close
  | .stopDeadlineExpiry k => (s.stopDeadline k).close
  | .minus w i => s.onWindow w fun v => { v.usePress (.minus i) with displays := modifyAt Display.lower i v.displays }
  | .confirm w i => ((s.onWindow w (Window.usePress (.confirm i))).confirmAt w i).close
  | .arrived st t => (s.arrived st t).close
  | .jammed st t => (s.jammed st t).close
  | .transferDeadlineExpiry => s.transferExpiry.close
  | .sensorCycle w =>
    if (s.window w).counterOpen then s.onWindow w fun v => { v with counter := countUp counterLast v.counter } else s
  | .settleExpiry w => s.settleExpiry w
  | .gateExpiry w => (s.gateExpiry w).close
  | .keySampling w down =>
    if (s.window w).assigned.isSome then s.onWindow w (Window.scan (s.positionsAt w) down) else s
  | _ => s

/-- FRAME_GAP_TIMEOUT drops the frame begun (R185). -/
def State.gapTimeout (s : State) : State :=
  match s.line.receiver with
  | .inFrame _ last =>
    let s1 := s.reachTime (last + ms (Config.byteGap + 1))
    { s1 with line := { s1.line with receiver := .hunting } }
  | .hunting => s

/-- TRANSMIT_DONE ends the frame being sent, and that of a RESTART reply resets the part (R188, R196). -/
def State.transmitDone (s : State) : State :=
  match s.line.sending with
  | some f => if f.resets then s.restartReset else s.sent f
  | none => s

/-- What a command makes of the part. -/
def State.after (i : Instr) (s : State) : State :=
  match i with
  | .reset straps => s.performReset straps
  | .frameArrival bytes => bytes.foldl State.receive s
  | .frameGapTimeout => s.gapTimeout
  | .transmitDone => s.transmitDone
  | i =>
    match i.request? with
    | some (kind, tag) => s.request kind tag i (ownerOf i)
    | none => s.event i

/-- Every command answers a next state, the one `State.after` gives. -/
theorem exec_eq_after (i : Instr) (s : State) : exec i s = .next (s.after i) := by
  cases i
  case frameGapTimeout =>
    show execFrameGapTimeout s = .next s.gapTimeout
    cases h : s.line.receiver <;> simp [execFrameGapTimeout, State.gapTimeout, h]
  case transmitDone =>
    show execTransmitDone s = .next s.transmitDone
    cases h : s.line.sending <;> simp [execTransmitDone, State.transmitDone, h]
  all_goals rfl

/-- A request of the host line is handed to its owning rule (R186, R187). -/
theorem after_request {i : Instr} {kind tag : Nat} (h : i.request? = some (kind, tag)) (s : State) :
    s.after i = s.request kind tag i (ownerOf i) := by
  cases i <;> cases h <;> rfl

theorem exec_request {i : Instr} {kind tag : Nat} (h : i.request? = some (kind, tag)) (s : State) :
    exec i s = .next (s.request kind tag i (ownerOf i)) := by
  rw [exec_eq_after, after_request h]

/-- A request with a tag other than 0 on a free line is its owner's answer. -/
theorem exec_lineFree {i : Instr} {kind tag : Nat} (h : i.request? = some (kind, tag)) {s : State} (hf : s.lineFree)
    (ht : tag ≠ 0) : exec i s = .next (ownerOf i (s.take kind tag)).outcome := by
  rw [exec_request h, request_lineFree hf ht]

/-! ### What the host line keeps -/

/-- A property that the operations of the host line keep, the owning rules and resets aside. -/
structure LineOps (P : State → Prop) : Prop where
  take : ∀ {s : State} (kind tag : Nat), P s → P (s.take kind tag)
  arrive : ∀ {s : State} (f : Frame), P s → P (s.arrive f)
  formReply : ∀ {s : State} (r : Result) (b : ReplyBody), P s → P (s.formReply r b)
  awaitExchange : ∀ {s : State} (e : Exchange), P s → P (s.awaitExchange e)
  transmit : ∀ {s : State}, P s → P s.transmit
  receiver : ∀ {s : State} (r : Receiver), P s → P { s with line := { s.line with receiver := r } }
  replySent : ∀ {s : State}, P s → P { s with line := { s.line with sending := none, progress := none } }
  noticeSent : ∀ {s : State}, P s → P { s with line := { s.line with sending := none } }

namespace LineOps

variable {P : State → Prop}

theorem handle (h : LineOps P) {owner : State → Answer} (ho : ∀ s, P s → P (owner s).state) {s : State} (kind tag : Nat)
    (hs : P s) : P (s.handle kind tag owner) := by
  have taken : P (s.take kind tag) := h.take _ _ hs
  have answered := ho _ taken
  unfold State.handle
  split
  · exact h.formReply _ _ taken
  · cases hq : owner (s.take kind tag) <;> rw [hq] at answered
    · exact h.formReply _ _ answered
    · exact h.awaitExchange _ answered

theorem request (h : LineOps P) {owner : State → Answer} (ho : ∀ s, P s → P (owner s).state) {s : State} (kind tag : Nat)
    (i : Instr) (hs : P s) : P (s.request kind tag i owner) := by
  unfold State.request
  split
  · exact h.transmit (h.handle ho _ _ hs)
  · exact h.transmit (h.arrive _ hs)

theorem serve (h : LineOps P) (ho : OwnersKeep P) {s : State} (hs : P s) : P s.serve := by
  unfold State.serve
  split
  · exact h.transmit (h.handle (ho _) _ _ hs)
  · exact hs

theorem receive (h : LineOps P) (ho : OwnersKeep P) {s : State} (b : Byte) (hs : P s) : P (s.receive b) := by
  unfold State.receive
  dsimp only
  split
  · exact h.serve ho (h.arrive _ (h.receiver _ hs))
  · exact h.receiver _ hs

theorem sent (h : LineOps P) (ho : OwnersKeep P) {s : State} (f : SentFrame) (hs : P s) : P (s.sent f) := by
  unfold State.sent
  split
  · exact h.transmit (h.serve ho (h.replySent hs))
  · exact h.transmit (h.noticeSent hs)

end LineOps

/-- A property that a change of the host line keeps, no longer a receive buffer arising, is kept by its operations. -/
theorem LineKeeps.lineOps {P : State → Prop} (h : LineKeeps P) (arrive : ∀ {s : State} (f : Frame), P s → P (s.arrive f)) :
    LineOps P where
  take := fun _ _ hs => h _ _ (by simp) hs
  arrive := arrive
  formReply := fun r b hs => formReply_keeps h r b hs
  awaitExchange := fun _ hs => h _ _ (le_refl _) hs
  transmit := fun hs => transmit_keeps h hs
  receiver := fun _ hs => h _ _ (le_refl _) hs
  replySent := fun hs => h _ _ (le_refl _) hs
  noticeSent := fun hs => h _ _ (le_refl _) hs

/-! ### What every command and every step keeps -/

/-- What the host line, the owning rules, the events, the passing of time and resets keep is kept by every command. -/
theorem after_keeps {P : State → Prop} (hl : LineOps P) (ho : OwnersKeep P) (event : ∀ {s : State} (i : Instr), P s → P (s.event i))
    (time : ∀ {s : State} (now : Time), P s → P (s.atTime now))
    (reset : ∀ {s : State} (straps : BitVec 2), P s → P (s.performReset straps))
    (draw : ∀ {s : State}, P s → P { s with draws := s.draws + 1 }) (i : Instr) {s : State} (hs : P s) : P (s.after i) := by
  unfold State.after
  split
  · exact reset _ hs
  · next bytes =>
    induction bytes generalizing s with
    | nil => exact hs
    | cons b bs ih => exact ih (hl.receive ho b hs)
  · unfold State.gapTimeout State.reachTime
    split
    · split
      · exact hl.receiver _ hs
      · exact hl.receiver _ (time _ hs)
    · exact hs
  · unfold State.transmitDone
    split
    · split
      · exact reset _ (draw hs)
      · exact hl.sent ho _ hs
    · exact hs
  · split
    · exact hl.request (ho _) _ _ _ hs
    · exact event _ hs

/-- What every command keeps, and the passing of time and the taking of a command from the queue, every step keeps. -/
theorem step_keeps {P : State → Prop} (after : ∀ {s : State} (i : Instr), P s → P (s.after i))
    (time : ∀ {s : State} (now : Time), P s → P (s.atTime now))
    (commands : ∀ {s : State} (q : List Instr), P s → P { s with pending := q }) {s t : State} (hs : P s)
    (h : step s = .next t) : P t := by
  unfold step at h
  split at h
  · cases h
    exact time _ hs
  · rw [exec_eq_after] at h
    cases h
    exact after _ (commands _ hs)

end Sys2Proof.Machine
end

section
/-! PROOFS. What an event or an operation of the blocks leaves of the part, said once for all invariants. `Works`: no command
waits longer, no setting, mode, article, window assignment or rank changes, no frame is taken, and the notice queue keeps to its
places. `Quiet`: the records of orders, tasks, picks, slots and discrepancies and the outfeed queues stay as well. -/

namespace Sys2Proof.Machine

/-! ### The two relations -/

/-- The frames that wait and the request in progress, but for the exchange that its reply waits for (R186). -/
def State.waits (s : State) : List Frame × Option (Nat × Nat) :=
  (s.line.buffer, s.line.progress.map fun p => (p.kind, p.tag))

/-- Assignments and ranks of the windows (R108, R135). -/
def State.posts (s : State) : List (Option (Nat × Nat) × Option Nat) := s.windows.map fun v => (v.assigned, v.rank)

/-- What a carousel keeps of its slots: geometry, slot records, balance figures. -/
def Carousel.books (c : Carousel) : Geometry × List Slot × Figures := (c.geometry, c.slots, c.figures)

/-- The slot records of the part with their geometries and figures. -/
def State.books (s : State) : List (Option (Geometry × List Slot × Figures)) := s.carousels.map fun c => c.map Carousel.books

/-- The outfeed queues. -/
def State.outfeeds (s : State) : List (List Item) := s.windows.map fun v => v.outfeed

/-- `t` comes of `s` by work of the blocks. -/
structure Works (s t : State) : Prop where
  outer : t.outer = s.outer
  mode : t.mode = s.mode
  waits : t.waits = s.waits
  posts : t.posts = s.posts
  notices : s.noticesFit → t.noticesFit

/-- `t` comes of `s` by work of the blocks that leaves the records of stock and work as they were. -/
structure Quiet (s t : State) : Prop extends Works s t where
  orders : t.orders = s.orders
  tasks : t.tasks = s.tasks
  picks : t.picks.map Pick.lasting = s.picks.map Pick.lasting
  books : t.books = s.books
  outfeeds : t.outfeeds = s.outfeeds
  discrepancies : t.discrepancies = s.discrepancies

theorem Works.refl {s : State} : Works s s := ⟨rfl, rfl, rfl, rfl, id⟩

theorem Works.trans {s t u : State} (h : Works s t) (g : Works t u) : Works s u :=
  ⟨g.outer.trans h.outer, g.mode.trans h.mode, g.waits.trans h.waits, g.posts.trans h.posts, fun hn => g.notices (h.notices hn)⟩

theorem Quiet.refl {s : State} : Quiet s s :=
  ⟨Works.refl, rfl, rfl, rfl, rfl, rfl, rfl⟩

theorem Quiet.trans {s t u : State} (h : Quiet s t) (g : Quiet t u) : Quiet s u :=
  ⟨h.toWorks.trans g.toWorks, g.orders.trans h.orders, g.tasks.trans h.tasks, g.picks.trans h.picks, g.books.trans h.books,
    g.outfeeds.trans h.outfeeds, g.discrepancies.trans h.discrepancies⟩

theorem Quiet.ite {c : Prop} [Decidable c] {s t u : State} (ht : Quiet s t) (hu : Quiet s u) : Quiet s (if c then t else u) := by
  split
  · exact ht
  · exact hu

theorem quiet_foldl {α : Type} (f : State → α → State) (h : ∀ s a, Quiet s (f s a)) (xs : List α) (s : State) :
    Quiet s (xs.foldl f s) := by
  induction xs generalizing s with
  | nil => exact Quiet.refl
  | cons x xs ih => exact (h s x).trans (ih _)

/-! ### From the views -/

/-- What lane binding and put-away leave of the part holds what `Works` says of it. -/
theorem works_of_counted {s t : State} (h : t.counted = s.counted) (hn : s.noticesFit → t.noticesFit) : Works s t := by
  have hw : t.windows.map Window.lasting = s.windows.map Window.lasting := congrArg State.windows h
  have hl : ({ t.line with notices := [] } : HostLine) = { s.line with notices := [] } := congrArg State.line h
  have hb : t.line.buffer = s.line.buffer := (congrArg HostLine.buffer hl :)
  have hp : t.line.progress = s.line.progress := (congrArg HostLine.progress hl :)
  have hm : t.mode = s.mode := (congrArg State.mode h :)
  refine ⟨outer_of_counted h, hm, ?_, ?_, hn⟩
  · rw [State.waits, State.waits, hb, hp]
  · have e := congrArg (List.map fun v : Window => (v.assigned, v.rank)) hw
    simpa [State.posts, List.map_map, Function.comp_def, Window.lasting] using e

/-- A reaction is quiet. -/
theorem quiet_of_lasting {s t : State} (h : t.lasting = s.lasting) (hn : s.noticesFit → t.noticesFit) : Quiet s t := by
  have hw : t.windows.map Window.lasting = s.windows.map Window.lasting := congrArg State.windows h
  have hc : (t.carousels.map fun c => c.map Carousel.lasting) = s.carousels.map fun c => c.map Carousel.lasting :=
    congrArg State.carousels h
  have ho : t.orders = s.orders := (congrArg State.orders h :)
  have ht : t.tasks = s.tasks := (congrArg State.tasks h :)
  have hp : t.picks.map Pick.lasting = s.picks.map Pick.lasting := congrArg State.picks h
  have hd : t.discrepancies = s.discrepancies := (congrArg State.discrepancies h :)
  refine ⟨works_of_counted (counted_of_lasting h) hn, ho, ht, hp, ?_, ?_, hd⟩
  · have e := congrArg (List.map (Option.map Carousel.books)) hc
    simpa [State.books, List.map_map, Function.comp_def, Carousel.lasting, show Carousel.books = fun c => (c.geometry, c.slots, c.figures) from rfl] using e
  · have e := congrArg (List.map fun v : Window => v.outfeed) hw
    simpa [State.outfeeds, List.map_map, Function.comp_def, Window.lasting] using e

/-! ### Updates -/

theorem quiet_onWindow (s : State) (w : Nat) (f : Window → Window)
    (h : ∀ v, (f v).assigned = v.assigned ∧ (f v).rank = v.rank ∧ (f v).outfeed = v.outfeed := by exact fun _ => ⟨rfl, rfl, rfl⟩) :
    Quiet s (s.onWindow w f) where
  outer := outer_onWindow ..
  mode := rfl
  waits := rfl
  posts := map_set_getD_same _ f s.windows w _ fun v => by rw [(h v).1, (h v).2.1]
  notices := id
  orders := rfl
  tasks := rfl
  picks := rfl
  books := rfl
  outfeeds := map_set_getD_same _ f s.windows w _ fun v => (h v).2.2
  discrepancies := rfl

theorem quiet_onLink (s : State) (st : Nat) (f : Link → Link) : Quiet s (s.onLink st f) :=
  ⟨⟨outer_onLink .., rfl, rfl, rfl, id⟩, rfl, rfl, rfl, rfl, rfl, rfl⟩

theorem quiet_setCarousel {s : State} {k : Nat} {c d : Carousel} (h : s.carousel? k = some c) (hd : d.books = c.books) :
    Quiet s (s.setCarousel k d) where
  outer := outer_setCarousel ..
  mode := rfl
  waits := rfl
  posts := rfl
  notices := id
  orders := rfl
  tasks := rfl
  picks := rfl
  books := map_set_same _ (carousel?_eq h) (congrArg some hd)
  outfeeds := rfl
  discrepancies := rfl

theorem quiet_onCarousel (s : State) (k : Nat) (f : Carousel → Carousel) (h : ∀ c, (f c).books = c.books := by exact fun _ => rfl) :
    Quiet s (s.onCarousel k f) := by
  unfold State.onCarousel
  split
  · next c hc => exact quiet_setCarousel hc (h c)
  · exact Quiet.refl

theorem quiet_atTime (s : State) (now : Time) : Quiet s (s.atTime now) :=
  ⟨⟨outer_atTime .., rfl, rfl, rfl, id⟩, rfl, rfl, rfl, rfl, rfl, rfl⟩

theorem quiet_reachTime (s : State) (e : Time) : Quiet s (s.reachTime e) := by
  unfold State.reachTime
  exact Quiet.refl.ite (quiet_atTime s e)

theorem quiet_merge (s : State) (m : Merge) : Quiet s { s with merge := m } :=
  ⟨⟨rfl, rfl, rfl, rfl, id⟩, rfl, rfl, rfl, rfl, rfl, rfl⟩

theorem quiet_flags (s : State) (f : Flags) : Quiet s { s with flags := f } :=
  ⟨⟨rfl, rfl, rfl, rfl, id⟩, rfl, rfl, rfl, rfl, rfl, rfl⟩

theorem quiet_submission (s : State) (q : List Nat) (n : Nat) : Quiet s { s with submission := q, admissions := n } :=
  ⟨⟨rfl, rfl, rfl, rfl, id⟩, rfl, rfl, rfl, rfl, rfl, rfl⟩

theorem quiet_setLaneState (s : State) (n : Nat) (st : LaneState) : Quiet s (s.setLaneState n st) :=
  ⟨⟨outer_setLaneState .., rfl, rfl, rfl, id⟩, rfl, rfl, rfl, rfl, rfl, rfl⟩

theorem quiet_setLane (s : State) (n : Nat) (l : Option Lane) : Quiet s { s with lanes := s.lanes.set n l } :=
  ⟨⟨by simp [State.outer], rfl, rfl, rfl, id⟩, rfl, rfl, rfl, rfl, rfl, rfl⟩

theorem quiet_notify (s : State) (n : Notice) : Quiet s (s.notify n) := quiet_of_lasting (lasting_notify ..) (noticesFit_notify n)

theorem quiet_notifyOrder (s : State) (tag : Nat) (o : Occasion) : Quiet s (s.notifyOrder tag o) :=
  quiet_of_lasting (lasting_notifyOrder ..) (noticesFit_notifyOrder tag o)

/-! ### The host line -/

theorem quiet_transmit (s : State) : Quiet s s.transmit := by
  have h : s.line.choose.buffer = s.line.buffer ∧ s.line.choose.progress = s.line.progress := by
    unfold HostLine.choose
    (repeat' split) <;> exact ⟨rfl, rfl⟩
  refine ⟨⟨outer_transmit s, rfl, ?_, rfl, noticesFit_transmit⟩, rfl, rfl, rfl, rfl, rfl, rfl⟩
  simp [State.waits, State.transmit, h]

theorem quiet_formReply (s : State) (r : Result) (b : ReplyBody) : Quiet s (s.formReply r b) := by
  unfold State.formReply
  split
  · next p hp => exact ⟨⟨rfl, rfl, by simp [State.waits, hp], rfl, id⟩, rfl, rfl, rfl, rfl, rfl, rfl⟩
  · exact Quiet.refl

theorem quiet_awaitExchange (s : State) (e : Exchange) : Quiet s (s.awaitExchange e) :=
  ⟨⟨rfl, rfl, by simp [State.waits, State.awaitExchange, Function.comp_def], rfl, id⟩, rfl, rfl, rfl, rfl, rfl, rfl⟩

theorem quiet_endExchange (s : State) (e : Exchange) (r : Result) (b : ReplyBody) : Quiet s (s.endExchange e r b) := by
  unfold State.endExchange
  split
  · exact (quiet_formReply ..).ite Quiet.refl
  · exact Quiet.refl

theorem quiet_refresh (s : State) : Quiet s s.refresh :=
  quiet_of_lasting (lasting_refresh s) (noticesFit_of_line (refresh_line s))

theorem quiet_close (s : State) : Quiet s s.close := (quiet_refresh s).trans (quiet_transmit _)

/-! ### Reactions -/

theorem quiet_handOver (s : State) (st : Nat) (c : Command) : Quiet s (s.handOver st c) := quiet_onLink ..

theorem quiet_takeReply (s : State) (st : Nat) : Quiet s (s.takeReply st) := quiet_onLink ..

theorem quiet_cancelPresentation (s : State) (w : Nat) : Quiet s (s.cancelPresentation w) :=
  quiet_of_lasting (lasting_cancelPresentation s w) (noticesFit_of_line (cancelPresentation_line s w))

theorem quiet_joinEntry (s : State) (a : SlotAddr) (e : Entry) : Quiet s (s.joinEntry a e) :=
  quiet_of_lasting (lasting_joinEntry s a e) (noticesFit_of_line (State.joinEntry_line ..))

theorem quiet_removeEntry (s : State) (a : SlotAddr) (e : Entry) : Quiet s (s.removeEntry a e) :=
  quiet_of_lasting (lasting_removeEntry s a e) (noticesFit_of_line (State.removeEntry_line ..))

theorem quiet_onMeasurement (s : State) (w : Nat) (f : Measurement → Measurement) : Quiet s (s.onMeasurement w f) :=
  quiet_onWindow ..

theorem quiet_beginCount (s : State) (k w i q : Nat) : Quiet s (s.beginCount k w i q) :=
  (quiet_onWindow ..).trans (quiet_handOver ..)

theorem quiet_seekFrom (s : State) (k w c i : Nat) : Quiet s (s.seekFrom k w c i).1 :=
  quiet_of_lasting (lasting_seekFrom s k w c i) (noticesFit_seekFrom k w c i)

theorem quiet_openStanding (s : State) (k : Nat) : Quiet s (s.openStanding k) :=
  quiet_of_lasting (lasting_openStanding s k) (noticesFit_openStanding k)

theorem quiet_become (s : State) (k : Nat) (st : CarouselState) : Quiet s (s.become k st) := quiet_onCarousel ..

theorem quiet_idleAndAct (s : State) (k : Nat) : Quiet s (s.idleAndAct k) :=
  quiet_of_lasting (lasting_idleAndAct s k) (noticesFit_idleAndAct k)

theorem quiet_testWindows (s : State) (k : Nat) : Quiet s (s.testWindows k) :=
  quiet_of_lasting (lasting_testWindows s k) (noticesFit_testWindows k)

theorem quiet_recompute (s : State) (k : Nat) : Quiet s (s.recompute k) :=
  quiet_of_lasting (lasting_recompute s k) (noticesFit_recompute k)

theorem quiet_gainWork (s : State) (k : Nat) (cs : List Nat) : Quiet s (s.gainWork k cs) :=
  quiet_of_lasting (lasting_gainWork s k cs) (noticesFit_gainWork k cs)

theorem quiet_testEnds (s : State) : Quiet s s.testEnds := quiet_of_lasting (lasting_testEnds s) noticesFit_testEnds

theorem quiet_enterHeld (s : State) (k : Nat) : Quiet s (s.enterHeld k) :=
  quiet_of_lasting (lasting_enterHeld s k) (noticesFit_enterHeld k)

theorem quiet_resumeHeld (s : State) (k : Nat) : Quiet s (s.resumeHeld k) :=
  quiet_of_lasting (lasting_resumeHeld s k) (noticesFit_resumeHeld k)

theorem quiet_enterFault (s : State) (k : Nat) (r : MoveFaultReason) : Quiet s (s.enterFault k r) :=
  quiet_of_lasting (lasting_enterFault s k r) (noticesFit_enterFault k r)

theorem quiet_beginStop (s : State) (k : Nat) : Quiet s (s.beginStop k) :=
  (quiet_onCarousel ..).trans (quiet_handOver ..)

theorem quiet_sendPosition (s : State) (k : Nat) (p : Purpose) : Quiet s (s.sendPosition k p) :=
  (quiet_onCarousel ..).trans (quiet_handOver ..)

theorem quiet_abandonQuery (s : State) (k : Nat) : Quiet s (s.abandonQuery k) :=
  (quiet_onCarousel ..).trans (quiet_onLink ..)

theorem quiet_learnPosition (s : State) (k : Nat) : Quiet s (s.learnPosition k) :=
  quiet_of_lasting (lasting_learnPosition s k) (noticesFit_of_line (learnPosition_line s k))

theorem quiet_joinAudit (s : State) (k c : Nat) : Quiet s (s.joinAudit k c) :=
  quiet_of_lasting (lasting_joinAudit s k c) (noticesFit_of_line (joinAudit_line s k c))

theorem quiet_carouselLinkLost (s : State) (k : Nat) : Quiet s (s.carouselLinkLost k) :=
  quiet_of_lasting (lasting_carouselLinkLost s k) (noticesFit_carouselLinkLost k)

theorem quiet_finishCount (s : State) (k w c : Nat) : Quiet s (s.finishCount k w c) :=
  quiet_of_lasting ((lasting_testWindows ..).trans (lasting_endMeasurement_openAt ..)) fun h =>
    noticesFit_testWindows k (noticesFit_endMeasurement k w c _ (fun _ hs => noticesFit_openAt k w c openFuel hs) h)

theorem quiet_onPick (s : State) (n : Nat) (b : Bool) : Quiet s (s.onPick n fun p => { p with presented := b }) := by
  refine quiet_of_lasting (lasting_mapPicks s _ fun p => ?_) id
  split <;> rfl

/-! ### Motion -/

theorem quiet_standAt (s : State) (k p : Nat) : Quiet s (s.standAt k p) := quiet_onCarousel ..

theorem quiet_park (s : State) (k p : Nat) : Quiet s (s.park k p) :=
  (((quiet_standAt ..).trans (quiet_become ..)).trans (quiet_openStanding ..)).trans (quiet_testWindows ..)

theorem quiet_endStop (s : State) (k p : Nat) : Quiet s (s.endStop k p) := by
  unfold State.endStop
  exact ((quiet_standAt ..).trans (quiet_enterHeld ..)).ite ((quiet_standAt ..).trans (quiet_resumeHeld ..))

theorem quiet_sendMove (s : State) (k c : Nat) (plan : Plan) : Quiet s (s.sendMove k c plan) :=
  quiet_of_lasting (lasting_sendMove s k c plan) (noticesFit_of_line (sendMove_line s k c plan))

theorem quiet_writeGuards (s : State) (k : Nat) (gs : List (Nat × Guard)) : Quiet s (s.writeGuards k gs) :=
  quiet_foldl _ (fun _ _ => (quiet_onWindow ..).ite Quiet.refl) _ _

theorem quiet_learned (s : State) (k p : Nat) : Quiet s (s.learned k p) := quiet_onCarousel ..

theorem quiet_changePosition (s : State) (k p : Nat) (c : Carousel) : Quiet s (s.changePosition k p c) := by
  have told := ((quiet_foldl (fun s w => s.cancelPresentation w) quiet_cancelPresentation (s.presentingWindows k) s).trans
    (quiet_learned _ k p)).trans (quiet_notify _ (.positionChanged k c.p p (s.presentingWindows k).length
      (total ((s.presentingWindows k).map fun w => (s.window w).pickEntries))))
  unfold State.changePosition
  dsimp only
  split
  · exact told.trans (quiet_enterHeld ..)
  · split
    · exact ((told.trans (quiet_idleAndAct ..)).trans (quiet_openStanding ..)).trans (quiet_testWindows ..)
    · exact told.trans (quiet_idleAndAct ..)

theorem quiet_positionAnswer (s : State) (k p : Nat) (c : Carousel) : Quiet s (s.positionAnswer k p c) := by
  have act := (quiet_learned s k p).trans (quiet_idleAndAct _ k)
  unfold State.positionAnswer
  refine act.ite (Quiet.ite (quiet_onCarousel ..) (act.ite (Quiet.ite ?_ (quiet_changePosition ..))))
  exact ((quiet_learned ..).trans (quiet_enterHeld ..)).ite ((quiet_learned ..).trans (quiet_resumeHeld ..))

theorem quiet_positionReply (s : State) (st n p : Nat) (gs : List (Nat × Guard)) : Quiet s (s.positionReply st n p gs) := by
  unfold State.positionReply
  split
  · exact Quiet.refl.ite (((((quiet_takeReply ..).trans (quiet_writeGuards ..)).trans (quiet_positionAnswer ..))).ite
      (quiet_takeReply ..))
  · exact Quiet.refl

theorem quiet_moveDone (s : State) (st p : Nat) : Quiet s (s.moveDone st p) := by
  unfold State.moveDone
  split
  · exact quiet_park ..
  · exact quiet_park ..
  · exact quiet_endStop ..
  · exact Quiet.refl

theorem quiet_moveFail (s : State) (st : Nat) (r : FailReason) (p : Nat) : Quiet s (s.moveFail st r p) := by
  unfold State.moveFail
  split
  · exact ((quiet_onCarousel ..).trans (quiet_enterFault ..)).ite Quiet.refl
  · exact Quiet.refl

theorem quiet_stopped (s : State) (st p : Nat) : Quiet s (s.stopped st p) := by
  unfold State.stopped
  exact (quiet_endStop ..).ite Quiet.refl

theorem quiet_guardReport (s : State) (st w : Nat) (g : Guard) (p : Nat) : Quiet s (s.guardReport st w g p) := by
  have acts : ∀ t : State, Quiet t (t.guardActs st g p) := fun t => by
    unfold State.guardActs
    split
    · exact quiet_onCarousel ..
    · exact quiet_onCarousel ..
    · exact quiet_onCarousel ..
    · exact Quiet.refl
  unfold State.guardReport
  split
  · exact ((quiet_onWindow ..).trans (acts _)).ite Quiet.refl
  · exact Quiet.refl

theorem quiet_moveDeadline (s : State) (k : Nat) : Quiet s (s.moveDeadline k) := by
  unfold State.moveDeadline
  (repeat' split) <;> first
    | exact Quiet.refl
    | exact ((quiet_reachTime ..).trans (quiet_handOver ..)).trans (quiet_enterFault ..)

theorem quiet_resumeMove (s : State) (k : Nat) : Quiet s (s.resumeMove k) := by
  unfold State.resumeMove
  (repeat' split) <;> first
    | exact Quiet.refl
    | exact quiet_park ..
    | exact quiet_sendMove ..

theorem quiet_restartDelay (s : State) (k : Nat) : Quiet s (s.restartDelay k) := by
  unfold State.restartDelay
  (repeat' split) <;> first
    | exact Quiet.refl
    | exact (quiet_reachTime ..).trans (quiet_resumeMove ..)

theorem quiet_stopDeadline (s : State) (k : Nat) : Quiet s (s.stopDeadline k) := by
  unfold State.stopDeadline
  (repeat' split) <;> first
    | exact Quiet.refl
    | exact (quiet_reachTime ..).trans (quiet_enterFault ..)

theorem quiet_holdCarousel (s : State) (k : Nat) : Quiet s (s.holdCarousel k) := by
  unfold State.holdCarousel
  split
  · exact quiet_beginStop ..
  · exact quiet_beginStop ..
  · exact Quiet.refl

theorem quiet_resumeCarousel (s : State) (k : Nat) : Quiet s (s.resumeCarousel k) := by
  unfold State.resumeCarousel
  split
  · exact quiet_resumeHeld ..
  · exact quiet_recompute ..
  · exact Quiet.refl

/-! ### Consolidation -/

theorem quiet_startTransfer (s : State) (w : Nat) (i : Item) : Quiet s (s.startTransfer w i) :=
  (quiet_merge ..).trans (quiet_handOver ..)

theorem quiet_testGrant (s : State) : Quiet s s.testGrant := by
  unfold State.testGrant
  (repeat' split) <;> first
    | exact Quiet.refl
    | exact quiet_startTransfer ..

theorem quiet_stopMerge (s : State) (c : StopCause) (t : Transfer) : Quiet s (s.stopMerge c t) :=
  (quiet_merge ..).trans (quiet_notify ..)

theorem quiet_expireAttempt (s : State) (c : StopCause) (t : Transfer) : Quiet s (s.expireAttempt c t) := by
  unfold State.expireAttempt
  exact ((quiet_merge ..).trans (quiet_handOver ..)).ite (quiet_stopMerge ..)

theorem quiet_mergeLinkLost (s : State) : Quiet s s.mergeLinkLost := by
  unfold State.mergeLinkLost
  split
  · exact (quiet_merge ..).ite Quiet.refl
  · exact Quiet.refl

theorem quiet_mergeLinkRegained (s : State) : Quiet s s.mergeLinkRegained := by
  unfold State.mergeLinkRegained
  split
  · exact (quiet_expireAttempt ..).ite (quiet_testGrant ..)
  · exact quiet_testGrant ..

theorem quiet_resumeMerge (s : State) : Quiet s s.resumeMerge.1 := by
  unfold State.resumeMerge
  dsimp only
  split
  · exact (quiet_merge ..).trans (quiet_startTransfer ..)
  · exact (quiet_merge ..).trans (quiet_testGrant ..)

theorem quiet_jammed (s : State) (st n : Nat) : Quiet s (s.jammed st n) := by
  unfold State.jammed
  split
  · exact (quiet_stopMerge ..).ite Quiet.refl
  · exact Quiet.refl

theorem quiet_transferExpiry (s : State) : Quiet s s.transferExpiry := by
  unfold State.transferExpiry
  (repeat' split) <;> first
    | exact Quiet.refl
    | exact (quiet_reachTime ..).trans (quiet_expireAttempt ..)

/-! ### Audit -/

theorem quiet_joinCarriers (s : State) (k : Nat) (cs js : List Nat) : Quiet s (s.joinCarriers k cs js) :=
  (quiet_foldl _ (fun _ _ => quiet_joinAudit ..) _ _).trans (quiet_gainWork ..)

theorem quiet_openTare (s : State) (k w c i : Nat) : Quiet s (s.openTare k w c i) :=
  ((quiet_onWindow ..).trans (quiet_beginCount ..)).trans (quiet_become ..)

theorem quiet_settleExpiry (s : State) (w : Nat) : Quiet s (s.settleExpiry w) := by
  unfold State.settleExpiry
  (repeat' split) <;> first
    | exact Quiet.refl
    | exact (quiet_reachTime ..).trans (quiet_onWindow ..)

theorem quiet_gateTare (s : State) (k w : Nat) (m : Measurement) : Quiet s (s.gateTare k w m) :=
  ((quiet_onWindow ..).trans (quiet_notify ..)).trans (quiet_finishCount ..)

/-! ### Links -/

theorem quiet_onTest (s : State) (st : Nat) (f : TestRecord → TestRecord) : Quiet s (s.onTest st f) := quiet_onLink ..

theorem quiet_endAccess (s : State) (st : Nat) (r : AccessResult) : Quiet s (s.endAccess st r) := by
  unfold State.endAccess
  dsimp only
  split
  · split
    · exact (quiet_onLink ..).trans (quiet_notify ..)
    · exact (quiet_onLink ..).trans (quiet_endExchange ..)
  · exact Quiet.refl

theorem quiet_changeLink (s : State) (st : Nat) (new : LinkState) (c : LinkCause) : Quiet s (s.changeLink st new c) :=
  (quiet_onLink ..).trans (quiet_notify ..)

theorem quiet_leaveLocked (s : State) (st : Nat) (new : LinkState) (c : LinkCause) (r : AccessResult) :
    Quiet s (s.leaveLocked st new c r) := by
  unfold State.leaveLocked State.tellLost
  exact (((quiet_changeLink ..).trans (quiet_onLink ..)).trans (quiet_endAccess ..)).trans
    ((quiet_mergeLinkLost _).ite (quiet_carouselLinkLost ..))

theorem quiet_tellLocked (s : State) (st : Nat) : Quiet s (s.tellLocked st) := by
  unfold State.tellLocked
  exact (quiet_mergeLinkRegained s).ite (quiet_learnPosition ..)

theorem quiet_endTest (s : State) (st : Nat) (f : TestRecord → TestRecord) : Quiet s (s.endTest st f) :=
  ((quiet_onTest ..).trans (quiet_onLink ..)).trans (quiet_changeLink ..)

theorem quiet_replyTestStop (s : State) (st : Nat) : Quiet s (s.replyTestStop st) := quiet_endExchange ..

theorem quiet_presenceActive (s : State) (st : Nat) : Quiet s (s.presenceActive st) := by
  unfold State.presenceActive
  exact ((quiet_onLink ..).trans (quiet_changeLink ..)).ite (quiet_onLink ..)

theorem quiet_abortTest (s : State) (st : Nat) : Quiet s (s.abortTest st) :=
  ((((quiet_onTest ..).trans (quiet_onLink ..)).trans (quiet_changeLink ..)).trans (quiet_endExchange ..)).trans
    (quiet_replyTestStop ..)

theorem quiet_presenceInactive (s : State) (st : Nat) : Quiet s (s.presenceInactive st) := by
  unfold State.presenceInactive
  dsimp only
  split
  · exact quiet_onLink ..
  · exact (quiet_onLink ..).trans (quiet_changeLink ..)
  · exact (quiet_onLink ..).trans (quiet_leaveLocked ..)
  · exact (quiet_onLink ..).trans (quiet_abortTest ..)

theorem quiet_lockReport (s : State) (st : Nat) : Quiet s (s.lockReport st) := by
  unfold State.lockReport
  exact (((quiet_changeLink ..).trans (quiet_onLink ..)).trans (quiet_tellLocked ..)).ite Quiet.refl

theorem quiet_linkSettled (s : State) (st : Nat) : Quiet s (s.linkSettled st) := by
  unfold State.linkSettled
  split
  · exact (quiet_reachTime ..).trans (quiet_onLink ..)
  · exact Quiet.refl

theorem quiet_thirdUnanswered (s : State) (st : Nat) (o : Outstanding) : Quiet s (s.thirdUnanswered st o) := by
  unfold State.thirdUnanswered
  split
  · exact (quiet_endTest ..).trans (quiet_endExchange ..)
  · exact (quiet_endTest ..).trans (quiet_replyTestStop ..)
  · exact quiet_leaveLocked ..
  · exact quiet_leaveLocked ..

theorem quiet_replyExpiry (s : State) (st : Nat) : Quiet s (s.replyExpiry st) := by
  unfold State.replyExpiry
  split
  · exact ((quiet_reachTime ..).trans (quiet_onLink ..)).ite ((quiet_reachTime ..).trans (quiet_thirdUnanswered ..))
  · exact Quiet.refl

theorem quiet_acked (s : State) (st n : Nat) : Quiet s (s.acked st n) := by
  unfold State.acked
  split
  · exact quiet_takeReply ..
  · exact quiet_takeReply ..
  · exact quiet_takeReply ..
  · exact (quiet_takeReply ..).trans (quiet_onMeasurement ..)
  · exact ((quiet_takeReply ..).trans (quiet_onTest ..)).trans (quiet_endExchange ..)
  · exact ((quiet_endTest ..).trans (quiet_replyTestStop ..)).ite Quiet.refl
  · exact Quiet.refl

theorem quiet_accessReply (s : State) (st n : Nat) (v : Option Nat) : Quiet s (s.accessReply st n v) := by
  unfold State.accessReply
  split
  · exact (quiet_takeReply ..).trans (quiet_endAccess ..)
  · exact Quiet.refl

theorem quiet_testStopReply (s : State) (st n : Nat) (v : Option (TestVerdict × Nat)) : Quiet s (s.testStopReply st n v) := by
  unfold State.testStopReply
  split
  · exact (quiet_endTest ..).trans (quiet_replyTestStop ..)
  · exact (quiet_endTest ..).trans (quiet_replyTestStop ..)
  · exact Quiet.refl

theorem quiet_testSilence (s : State) (st : Nat) : Quiet s (s.testSilence st) := by
  unfold State.testSilence
  split
  · exact (quiet_reachTime ..).trans (quiet_onTest ..)
  · exact Quiet.refl

theorem quiet_openAccess (s : State) (st : Nat) (a : Access) : Quiet s (s.openAccess st a) :=
  (quiet_onLink ..).trans (quiet_handOver ..)

theorem quiet_startTest (s : State) (st : Nat) (d : TestDir) (l : Latch) : Quiet s (s.startTest st d l) :=
  ((quiet_onLink ..).trans (quiet_leaveLocked ..)).trans (quiet_onLink ..)

end Sys2Proof.Machine
end

section
/-! PROOFS. What keeps an invariant: `Blocks` and `Keeps` list the changes of the records of stock, work and setup that the part
makes, each with what is known where it is made. A property that they and all quiet work keep is kept by every owning rule and
every event. -/

namespace Sys2Proof.Machine

/-! ### The changes of the pick pool and the tasks, apart from the reactions to them -/

/-- The pick that a line's chosen candidate gives, with its reservation (R65). -/
def State.newPick (tag i : Nat) (c : PickCandidate) (s : State) : State :=
  let pick : Pick := { number := lowestFree (s.picks.map (·.number)) Config.pickPool 0, order := tag, line := i, addr := c.addr,
                       quantity := c.quantity, presented := false, seq := s.creations }
  State.updateSlot c.addr (fun slot => { slot with reserved := slot.reserved + c.quantity })
    { s with picks := insertBy (fun x y => decide (x.number < y.number)) pick s.picks,
             creations := countUp Config.lastCount s.creations }

/-- A pick leaves the pool, and its reservation is given back (R71). -/
def State.dropPick (p : Pick) (s : State) : State :=
  let s1 := s.updateSlot p.addr fun slot => { slot with reserved := slot.reserved - p.quantity }
  { s1 with picks := s1.picks.filter fun x => decide (x.number ≠ p.number) }

/-- The slot write and the outcome of a target that ends (R50, R53). -/
def State.settleTarget (tag : Nat) (a : SlotAddr) (q quantity : Nat) (o : TargetOutcome) (s : State) : State :=
  (s.updateSlot a fun slot => slot.placed q quantity).closeTarget tag a o

/-- The slot write and the order table's side of a pick confirm (R70, R125). -/
def State.takePick (p : Pick) (q : Nat) (s : State) : State :=
  (s.updateSlot p.addr fun slot => slot.taken q p.quantity).pickTaken p q

/-- The changes of the records of stock and work. -/
structure Blocks (P : State → Prop) : Prop where
  quiet : ∀ {s t : State}, Quiet s t → P s → P t
  order : ∀ {s : State} (tag : Nat) (f : Order → Order),
    (∀ o, (f o).tag = o.tag ∧ (f o).priority = o.priority ∧ (f o).lines.length = o.lines.length) → P s → P (s.onOrder tag f)
  newPick : ∀ {s : State} {tag i : Nat} {l : Line} {c : PickCandidate}, s.picks.length < Config.pickPool →
    s.line? tag i = some l → s.unallocated tag i l ≠ 0 → s.choosePick tag i l = some c → P s → P (s.newPick tag i c)
  cancelOrderPicks : ∀ {s : State} (tag : Nat), P s → P (s.cancelOrderPicks tag)
  freedOrder : ∀ {s : State} (tag : Nat) (q : List Nat), (∀ p ∈ s.picks, p.order ≠ tag) → P s →
    P { s with orders := s.orders.filter fun x => decide (x.tag ≠ tag), submission := q }
  newOrder : ∀ {s : State} (tag priority : Nat) (lines : List (Nat × Nat)) (q : List Nat), s.mode ≠ .config →
    s.orders.length < Config.orderPool → s.lineCount + lines.length ≤ Config.linePool → P s →
    P { s with orders := s.orders ++ [s.newOrder tag priority lines], submission := q }
  newTask : ∀ {s : State} {code place : Nat} {art : Article} (task batch quantity : Nat) (pref : Option Nat), s.mode ≠ .config →
    s.articleOf code = some (place, art) → s.task? task = none → s.tasks.length < Config.taskPool → P s →
    P (s.allocateTask task place art batch quantity pref)
  task : ∀ {s : State} (tag : Nat) (f : Task → Task), (∀ t, (f t).tag = t.tag ∧ (f t).targets = t.targets) → P s →
    P (s.onTask tag f)
  endedTask : ∀ {s : State} {tag : Nat} {t : Task}, s.task? tag = some t → t.targets.any Target.isOpen = false → P s →
    P { s with tasks := s.tasks.filter fun x => decide (x.tag ≠ tag) }
  cancelTargets : ∀ {s : State} {tag : Nat} {t : Task}, s.task? tag = some t → P s →
    P ((t.targets.filter Target.isOpen).foldl (fun s x => s.cancelTarget t.tag x .host) s)
  confirmTarget : ∀ {s : State} {tag q : Nat} {a : SlotAddr} {t : Task} {x : Target}, s.task? tag = some t →
    t.openTarget a = some x → q ≤ x.quantity → P s → P (s.settleTarget tag a q x.quantity (.confirmed q))
  quarantine : ∀ {s : State} (a : SlotAddr) (r : Reason) (load : Option Nat), P s → P (s.quarantine a r load)
  takePick : ∀ {s : State} {n q : Nat} {p : Pick}, s.pick? n = some p → q ≤ p.quantity → P s → P (s.takePick p q)
  items : ∀ {s : State} {w q : Nat} (p : Pick), q ≤ (s.window w).freePlaces → P s → P (s.addItems w p q)
  delivered : ∀ {s : State} (w : Nat), P s → P (s.onWindow w fun v => { v with outfeed := v.outfeed.tail })
  discrepancies : ∀ {s : State} (ds : List Discrepancy),
    ds.length ≤ s.discrepancies.length ∨ ds.length ≤ Config.discrepancyPlaces → P s → P { s with discrepancies := ds }
  relabel : ∀ {s : State} {a : SlotAddr} {x : Slot} (r : Reason) (load : Nat), s.slot? a = some x → x.state = .quarantine →
    P s → P (s.updateSlot a fun x => { x with reason := some r, measured := some load })
  restore : ∀ {s : State} {a : SlotAddr} {x : Slot}, s.slot? a = some x → x.state = .withdrawn ∨ x.state = .quarantine → P s →
    P (s.writeSlot a x.restored)
  load : ∀ {s : State} {a : SlotAddr} {x : Slot} {code batch n : Nat} {held : Option Holding}, s.mode = .config →
    s.slot? a = some x → s.contentChecks a code batch n = .ok held → n ≤ 8 → P s → P (s.writeSlot a (Slot.loaded held n))
  withdraw : ∀ {s : State} {a : SlotAddr} {x : Slot}, s.slot? a = some x → x.state.inService = true → x.reserved = 0 →
    x.pending = 0 → P s → P (s.writeSlot a { x with state := .withdrawn })
  edit : ∀ {s : State} {a : SlotAddr} {x : Slot} {code batch n : Nat} {held : Option Holding}, s.slot? a = some x →
    x.state = .withdrawn → s.contentChecks a code batch n = .ok held → n ≤ 8 → P s → P (s.writeSlot a (x.withContents held n))
  resolve : ∀ {s : State} {a : SlotAddr} {x : Slot} {code batch n : Nat} {held : Option Holding}, s.slot? a = some x →
    x.state = .quarantine → s.contentChecks a code batch n = .ok held → n ≤ 8 → P s →
    P (s.writeSlot a (x.withContents held n).restored)

/-- The changes of the records of stock, work and setup. -/
structure Keeps (P : State → Prop) : Prop extends Blocks P where
  settings : ∀ {s : State} (x : Settings) (n : Nat),
    (s.settingsInRange → ({ s with settings := x, nextTicket := n } : State).settingsInRange) → P s →
    P { s with settings := x, nextTicket := n }
  rewriteArticle : ∀ {s : State} {a old : Article} {place : Nat}, a.inRange = true → s.articleOf a.code = some (place, old) →
    (s.inUse place = true → a.unitWeight = old.unitWeight ∧ a.sizeClass = old.sizeClass) → P s → P (s.rewriteArticle place a)
  addArticle : ∀ {s : State} {a : Article}, a.inRange = true → s.articleOf a.code = none →
    s.articles.length < Config.articlePlaces → P s → P (s.addArticle a)
  removeArticle : ∀ {s : State} {code place : Nat} {a : Article}, s.articleOf code = some (place, a) → s.inUse place = false →
    P s → P (s.removeArticle place)
  geometry : ∀ {s : State} (k : Nat) (g : Geometry) (limit stepTime : Nat), s.mode = .config → P s →
    P (s.setCarousel k (Carousel.fresh g limit stepTime))
  limit : ∀ {s : State} (k limit stepTime : Nat), P s → P (s.writeLimit k limit stepTime)
  unassign : ∀ {s : State} {w : Nat}, w < 8 → P s → P (s.onWindow w fun v => v.setTo none none)
  assign : ∀ {s : State} {w : Nat} (a : Nat × Nat), w < 8 → P s → P (s.assignWindow w a)
  mode : ∀ {s : State} (m : Mode), (m = .config → s.orders = [] ∧ s.tasks = []) → P s → P { s with mode := m }
  atStart : ∀ {s : State}, P s → P { s with windows := s.windows.mapIdx Window.atStart }
  ranks : ∀ {s : State} (w : Nat), P s → P (s.changeRanks w)

/-! ### How the operations come of these changes and quiet work -/

/-- Of two parts that differ by quiet work, the changes by the same order update do. -/
theorem Quiet.onOrder {s t : State} (h : Quiet s t) (tag : Nat) (f : Order → Order) : Quiet (s.onOrder tag f) (t.onOrder tag f) where
  outer := h.outer
  mode := h.mode
  waits := h.waits
  posts := h.posts
  notices := h.notices
  orders := by simp [State.onOrder, h.orders]
  tasks := h.tasks
  picks := h.picks
  books := h.books
  outfeeds := h.outfeeds
  discrepancies := h.discrepancies

theorem Quiet.dropPicks {s t : State} (h : Quiet s t) (n : Nat) :
    Quiet { s with picks := s.picks.filter fun x => decide (x.number ≠ n) }
      { t with picks := t.picks.filter fun x => decide (x.number ≠ n) } where
  outer := h.outer
  mode := h.mode
  waits := h.waits
  posts := h.posts
  notices := h.notices
  orders := h.orders
  tasks := h.tasks
  picks := by
    have lasting : ∀ ps : List Pick, (ps.filter fun x => decide (x.number ≠ n)).map Pick.lasting =
        (ps.map Pick.lasting).filter fun x => decide (x.number ≠ n) := fun ps => by rw [List.filter_map]; rfl
    rw [lasting, lasting, h.picks]
  books := h.books
  outfeeds := h.outfeeds
  discrepancies := h.discrepancies

/-- A created pick is the new record, its line's count, and the reaction to the work gained (R65). -/
theorem quiet_createPick (s : State) (tag i : Nat) (c : PickCandidate) :
    Quiet ((s.newPick tag i c).onOrder tag fun o => o.onLine i fun l => { l with openPicks := l.openPicks + 1 })
      (s.createPick tag i c) := by
  generalize ht : (s.newPick tag i c).onOrder tag (fun o => o.onLine i fun l => { l with openPicks := l.openPicks + 1 }) = t
  have created : s.createPick tag i c =
      if (t.gainWork c.addr.carousel [c.addr.carrier]).isPresented c.addr then
        ((t.gainWork c.addr.carousel [c.addr.carrier]).onPick (lowestFree (s.picks.map (·.number)) Config.pickPool 0)
          fun p => { p with presented := true }).joinEntry c.addr
            (.pick (lowestFree (s.picks.map (·.number)) Config.pickPool 0) c.quantity)
      else t.gainWork c.addr.carousel [c.addr.carrier] := by
    rw [← ht]
    rfl
  rw [created]
  exact ((quiet_gainWork ..).trans ((quiet_onPick ..).trans (quiet_joinEntry ..))).ite (quiet_gainWork ..)

/-- A cancelled pick is the record dropped, its line's count, and the reaction to the ended work (R71). -/
theorem quiet_cancelPick (s : State) (p : Pick) :
    Quiet ((s.dropPick p).onOrder p.order fun o => o.onLine p.line fun l => { l with openPicks := l.openPicks - 1 })
      (s.cancelPick p) :=
  (((quiet_removeEntry ..).onOrder p.order fun o => o.onLine p.line fun l => { l with openPicks := l.openPicks - 1 }).dropPicks
    p.number).trans (quiet_recompute ..)

theorem quiet_cancelTarget_host (s : State) (tag : Nat) (x : Target) :
    Quiet (s.settleTarget tag x.addr 0 x.quantity (.cancelled .host)) (s.cancelTarget tag x .host) :=
  (quiet_removeEntry ..).trans (quiet_recompute ..)

theorem onLine_length (o : Order) (i : Nat) (f : Line → Line) : (o.onLine i f).lines.length = o.lines.length := by
  unfold Order.onLine modifyAt
  dsimp only
  split <;> simp

/-- The picks that are left when some are cancelled are those of other numbers. -/
theorem picks_cancelPick (s : State) (p : Pick) : (s.cancelPick p).picks.map Pick.lasting =
    (s.picks.map Pick.lasting).filter fun x => decide (x.number ≠ p.number) := by
  rw [(quiet_cancelPick s p).picks]
  show ((s.updateSlot _ _).picks.filter _).map Pick.lasting = _
  rw [(updateSlot_orders ..).2.1, List.filter_map]
  rfl

theorem picks_cancelPicks (ps : List Pick) (s : State) : (ps.foldl (fun s p => s.cancelPick p) s).picks.map Pick.lasting =
    (s.picks.map Pick.lasting).filter fun x => decide (x.number ∉ ps.map (·.number)) := by
  induction ps generalizing s with
  | nil => simp
  | cons p ps ih =>
    rw [List.foldl_cons, ih, picks_cancelPick, List.filter_filter]
    refine List.filter_congr fun x _ => ?_
    rw [← Bool.decide_and]
    simp only [List.map_cons, List.mem_cons, not_or, and_comm]

/-- No pick of an order is left when its picks have been cancelled (R74). -/
theorem cancelOrderPicks_order (s : State) (tag : Nat) : ∀ p ∈ (s.cancelOrderPicks tag).picks, p.order ≠ tag := by
  intro p hp ho
  have left : p.lasting ∈ (s.cancelOrderPicks tag).picks.map Pick.lasting := List.mem_map_of_mem hp
  rw [State.cancelOrderPicks, picks_cancelPicks, List.mem_filter] at left
  obtain ⟨was, gone⟩ := left
  obtain ⟨x, hx, e⟩ := List.mem_map.mp was
  have order : x.order = p.order := (congrArg Pick.order e :)
  have number : x.number = p.number := (congrArg Pick.number e :)
  have listed : x ∈ s.orderPicks tag := (sortBy_perm _ _).mem_iff.mpr (by simp [hx, order, ho])
  exact of_decide_eq_true gone (List.mem_map.mpr ⟨x, listed, number⟩)

/-! ### The operations of the blocks -/

namespace Blocks

variable {P : State → Prop}

theorem foldl {α : Type} (f : State → α → State) (hf : ∀ s a, P s → P (f s a)) (xs : List α) {s : State} (hs : P s) :
    P (xs.foldl f s) := by
  induction xs generalizing s with
  | nil => exact hs
  | cons x xs ih => exact ih (hf _ _ hs)

theorem onLine (h : Blocks P) {s : State} (tag i : Nat) (f : Line → Line) (hs : P s) :
    P (s.onOrder tag fun o => o.onLine i f) :=
  h.order tag _ (fun o => ⟨rfl, rfl, onLine_length o i f⟩) hs

theorem judgeShort (h : Blocks P) {s : State} (tag i : Nat) (c : ShortCause) (hs : P s) : P (s.judgeShort tag i c) := by
  unfold State.judgeShort
  dsimp only
  split
  · split
    · exact h.onLine tag i _ hs
    · split
      · exact hs
      · exact h.quiet (quiet_notify ..) (h.onLine tag i _ hs)
  · exact hs

theorem allocateLine (h : Blocks P) {s : State} (tag i fuel : Nat) (hs : P s) : P (s.allocateLine tag i fuel) := by
  induction fuel generalizing s with
  | zero => exact hs
  | succ fuel ih =>
    unfold State.allocateLine
    split
    · next l hl =>
      split
      · exact h.judgeShort _ _ _ hs
      · next hu =>
        split
        · exact h.judgeShort _ _ _ hs
        · split
          · exact h.judgeShort _ _ _ hs
          · next hp =>
            split
            · exact h.judgeShort _ _ _ hs
            · next c hc =>
              exact ih (h.quiet (quiet_createPick ..) (h.onLine tag i _ (h.newPick (not_le.mp hp) hl hu hc hs)))
    · exact hs

theorem allocateOrder (h : Blocks P) {s : State} (tag : Nat) (hs : P s) : P (s.allocateOrder tag) := by
  unfold State.allocateOrder
  split
  · exact foldl _ (fun _ i hs => h.allocateLine tag i lineFuel hs) _ hs
  · exact hs

theorem reallocate (h : Blocks P) {s : State} (r : Reach) (hs : P s) : P (s.reallocate r) :=
  foldl (fun s (q : Nat × Nat) => s.allocateLine q.1 q.2 lineFuel) (fun _ q hs => h.allocateLine q.1 q.2 lineFuel hs) _ hs

theorem reallocateFor (h : Blocks P) {s : State} (held : Option Holding) (n : Nat) (hs : P s) : P (s.reallocateFor held n) := by
  unfold State.reallocateFor
  split
  · split
    · exact h.reallocate _ hs
    · exact hs
  · exact hs

theorem bind (h : Blocks P) {s : State} (tag lane : Nat) (hs : P s) : P (s.bind tag lane) := by
  have bound := h.order tag (fun o => { o with state := .active, lane := some lane, admission := some (s.setLaneState lane
    (.bound tag)).admissions }) (fun _ => ⟨rfl, rfl, rfl⟩) (h.quiet (quiet_setLaneState s lane (.bound tag)) hs)
  exact h.allocateOrder tag (h.quiet ((quiet_submission ..).trans (quiet_notifyOrder ..)) bound)

theorem bindingRun (h : Blocks P) {s : State} (fuel : Nat) (hs : P s) : P (s.bindingRun fuel) := by
  induction fuel generalizing s with
  | zero => exact hs
  | succ fuel ih =>
    unfold State.bindingRun
    split
    · exact ih (h.bind _ _ hs)
    · exact hs

theorem freeOrder (h : Blocks P) {s : State} (tag : Nat) (hs : P s) : P (s.freeOrder tag) := by
  have freed := h.freedOrder tag ((s.cancelOrderPicks tag).submission.filter fun t => decide (t ≠ tag))
    (cancelOrderPicks_order s tag) (h.cancelOrderPicks tag hs)
  unfold State.freeOrder
  split
  · dsimp only
    split
    · exact h.bindingRun _ (h.quiet (quiet_setLaneState ..) freed)
    · exact freed
  · exact hs

theorem endTask (h : Blocks P) {s : State} (tag : Nat) (hs : P s) : P (s.endTask tag) := by
  unfold State.endTask
  split
  · next t ht =>
    split
    · exact hs
    · next ho => exact h.quiet (quiet_notify ..) (h.endedTask ht (by simpa using ho) hs)
  · exact hs

theorem cancelTask (h : Blocks P) {s : State} {tag : Nat} {t : Task} (ht : s.task? tag = some t) (hs : P s) :
    P (s.cancelTask t) :=
  h.quiet (quiet_testEnds _) (h.endTask _ (h.cancelTargets ht hs))

theorem giveUpRest (h : Blocks P) {s : State} (tag : Nat) (hs : P s) : P (s.giveUpRest tag) :=
  h.order tag _ (fun _ => ⟨rfl, rfl, List.length_map ..⟩) (h.cancelOrderPicks tag hs)

theorem confirmPut (h : Blocks P) {s : State} (a : SlotAddr) (task shown : Nat) (hs : P s) : P (s.confirmPut a task shown) := by
  unfold State.confirmPut
  split
  · next t ht =>
    split
    · next x hx =>
      exact h.quiet (quiet_testEnds _) (h.reallocate _ (h.endTask _ (h.quiet (quiet_removeEntry ..)
        (h.confirmTarget ht hx (min_le_right ..) hs))))
    · exact hs
  · exact hs

theorem shortPick (h : Blocks P) {s : State} (w : Nat) (p : Pick) (q : Nat) (hs : P s) : P (s.shortPick w p q) := by
  unfold State.shortPick
  dsimp only
  split
  · exact h.quiet ((quiet_joinAudit ..).trans (quiet_notify ..)) hs
  · exact h.quiet ((quiet_joinAudit ..).trans (quiet_notify ..)) (h.quarantine _ _ _ hs)

theorem confirmPick (h : Blocks P) {s : State} {n q : Nat} {p : Pick} (w : Nat) (hp : s.pick? n = some p) (hq : q ≤ p.quantity)
    (hw : q ≤ (s.window w).freePlaces) (hs : P s) : P (s.confirmPick w p q) := by
  have window : (s.takePick p q).window w = s.window w := by
    simp [State.takePick, State.pickTaken, State.window]
  have taken := h.quiet ((quiet_testGrant _).trans (quiet_removeEntry _ p.addr (.pick p.number p.quantity)))
    (h.items p (window ▸ hw) (h.takePick hp hq hs))
  unfold State.confirmPick
  dsimp only
  refine h.quiet (quiet_testEnds _) (h.reallocate _ ?_)
  split
  · exact h.shortPick w p q taken
  · exact taken

theorem confirmAt (h : Blocks P) {s : State} (w i : Nat) (hs : P s) : P (s.confirmAt w i) := by
  unfold State.confirmAt
  split
  · split
    · unfold State.confirmHead
      split
      · exact h.confirmPut _ _ _ hs
      · split
        · next p hp =>
          dsimp only
          split
          · exact h.quiet (quiet_onWindow ..) hs
          · next hw => exact h.confirmPick w hp (min_le_right ..) (not_lt.mp hw) hs
        · exact hs
      · exact hs
    · exact hs
  · exact hs

theorem deliver (h : Blocks P) {s : State} (i : Item) (hs : P s) : P (s.deliver i) := by
  have counted := h.onLine i.order i.line (fun l => { l with delivered := l.delivered + 1 }) hs
  unfold State.deliver
  dsimp only
  split
  · split
    · exact h.quiet (quiet_notifyOrder ..) (h.order i.order _ (fun _ => ⟨rfl, rfl, rfl⟩) counted)
    · split
      · exact h.quiet (quiet_notifyOrder ..) counted
      · exact counted
  · exact counted

theorem applyResult (h : Blocks P) {s : State} {a : SlotAddr} {x : Slot} (r : Option Reason) (load : Nat)
    (hx : s.slot? a = some x) (hs : P s) : P (s.applyResult a x r load) := by
  unfold State.applyResult
  split
  · split
    · next r hq => exact h.relabel _ _ hx hq hs
    · exact h.quarantine _ _ _ hs
  · split
    · next hq => exact h.restore hx (.inr hq) hs
    · exact hs

theorem applyDiscrepancy (h : Blocks P) {s : State} (a : SlotAddr) (x : Slot) (r : Option Reason) (e : Option Nat) (load : Nat)
    (hs : P s) : P (s.applyDiscrepancy a x r e load).1 := by
  unfold State.applyDiscrepancy
  dsimp only
  split
  · split
    · exact h.discrepancies _ (.inl (by simp)) hs
    · split
      · next hl => exact h.discrepancies _ (.inr (by simpa using hl)) hs
      · exact h.quiet (quiet_flags ..) hs
  · split
    · exact h.discrepancies _ (.inl (List.length_filter_le ..)) hs
    · exact hs

theorem judgeSlot (h : Blocks P) {s : State} (w : Nat) {a : SlotAddr} {x : Slot} (count : Nat) (cal : Calibration)
    (hx : s.slot? a = some x) (hs : P s) : P (s.judgeSlot w a x count cal) :=
  h.reallocate _ (h.quiet ((quiet_notify ..).trans (quiet_onMeasurement ..))
    (h.applyDiscrepancy _ _ _ _ _ (h.applyResult _ _ hx hs)))

theorem gateMeasure (h : Blocks P) {s : State} (k w : Nat) (m : Measurement) (hs : P s) : P (s.gateMeasure k w m) := by
  unfold State.gateMeasure
  dsimp only
  split
  · next x hx =>
    have sought : ∀ u : State × Bool, u = State.seekFrom k w m.carrier (m.position + 1) (s.judgeSlot w _ x (s.window w).counter
        ((s.window w).calibrations.getD m.position ⟨0, 41⟩)) → P u.1 := fun u e => by
      rw [e]
      exact h.quiet (quiet_seekFrom ..) (h.judgeSlot w _ _ hx hs)
    split
    · next e => exact h.quiet (quiet_finishCount ..) (sought _ e.symm)
    · next e => exact sought _ e.symm
  · exact h.quiet (quiet_finishCount ..) hs

theorem gateExpiry (h : Blocks P) {s : State} (w : Nat) (hs : P s) : P (s.gateExpiry w) := by
  unfold State.gateExpiry
  split
  · split
    · next e _ =>
      have closed := h.quiet ((quiet_reachTime s e).trans (quiet_onWindow _ w fun v => { v with counterOpen := false })) hs
      dsimp only
      split
      · exact h.gateMeasure _ _ _ closed
      · exact h.quiet (quiet_gateTare ..) closed
    · exact hs
  · exact hs

end Blocks

/-! ### The events -/

theorem Keeps.arrived {P : State → Prop} (h : Keeps P) {s : State} (st n : Nat) (hs : P s) : P (s.arrived st n) := by
  unfold State.arrived
  split
  · unfold State.completeTransfer
    exact h.quiet ((quiet_merge ..).trans (quiet_testGrant ..))
      (h.ranks _ (h.quiet (quiet_onWindow ..) (h.deliver _ (h.delivered _ hs))))
  · exact hs

/-- Every event of the blocks keeps the property. -/
theorem Keeps.event {P : State → Prop} (h : Keeps P) {s : State} (i : Instr) (hs : P s) : P (s.event i) := by
  have close : ∀ {t : State}, P t → P t.close := fun {t} ht => h.quiet (quiet_close t) ht
  have quiet : ∀ {t : State}, Quiet s t → P t := fun {t} ht => h.quiet ht hs
  unfold State.event
  split
  · exact quiet (Quiet.ite ((quiet_presenceActive ..).trans (quiet_close _)) Quiet.refl)
  · exact quiet (Quiet.ite ((quiet_presenceInactive ..).trans (quiet_close _)) Quiet.refl)
  · exact quiet (Quiet.ite ((quiet_lockReport ..).trans (quiet_close _)) Quiet.refl)
  · exact quiet (quiet_linkSettled ..)
  · exact close (quiet (quiet_replyExpiry ..))
  · exact close (quiet (quiet_acked ..))
  · exact close (quiet (quiet_positionReply ..))
  · exact close (quiet (quiet_accessReply ..))
  · exact close (quiet (quiet_testStopReply ..))
  · exact quiet (quiet_onTest ..)
  · exact quiet (quiet_testSilence ..)
  · exact close (quiet (quiet_moveDone ..))
  · exact close (quiet (quiet_moveFail ..))
  · exact close (quiet (quiet_stopped ..))
  · exact close (quiet (quiet_guardReport ..))
  · exact close (quiet (quiet_moveDeadline ..))
  · exact close (quiet (quiet_restartDelay ..))
  · exact close (quiet (quiet_stopDeadline ..))
  · exact quiet (quiet_onWindow ..)
  · exact close (h.confirmAt _ _ (quiet (quiet_onWindow ..)))
  · exact close (h.arrived _ _ hs)
  · exact close (quiet (quiet_jammed ..))
  · exact close (quiet (quiet_transferExpiry ..))
  · exact quiet (Quiet.ite (quiet_onWindow ..) Quiet.refl)
  · exact quiet (quiet_settleExpiry ..)
  · exact close (h.gateExpiry _ hs)
  · exact quiet (Quiet.ite (quiet_onWindow ..) Quiet.refl)
  · exact hs

end Sys2Proof.Machine
end

section
/-! PROOFS. Every owning rule keeps what `Keeps` asks for: a refusal changes nothing, and a granted request makes one of the listed
changes and quiet work. -/

namespace Sys2Proof.Machine

variable {P : State → Prop}

@[simp] theorem Answer.reply_state (s : State) (r : Result) (b : ReplyBody) : (Answer.reply s r b).state = s := rfl

@[simp] theorem Answer.wait_state (s : State) (e : Exchange) : (Answer.wait s e).state = s := rfl

/-- The contents that a request may give a slot are at most 8 tyres (R17, check 2). -/
theorem contentFields_onHand {s : State} {a : SlotAddr} {batch n : Nat} (h : (!s.contentFields a batch n) ≠ true) : n ≤ 8 := by
  simp [State.contentFields] at h
  exact h.2

/-! ### The host line and the modes -/

theorem Keeps.start (h : Keeps P) {s : State} (hs : P s) : P s.start := by
  have ranked := h.atStart (h.quiet (quiet_merge _ { s.merge with state := .running }) (h.mode .run (fun e => nomatch e) hs))
  exact Blocks.foldl _ (fun t k ht => h.quiet ((quiet_onCarousel ..).trans (quiet_learnPosition ..)) ht) _ ranked

theorem Keeps.stop (h : Keeps P) {s : State} (ho : s.orders = []) (ht : s.tasks = []) (hs : P s) : P s.stop := by
  refine Blocks.foldl _ (fun t k htk => ?_) _ (h.mode .config (fun _ => ⟨ho, ht⟩) hs)
  split
  · exact h.quiet ((quiet_abandonQuery ..).trans (quiet_onCarousel ..)) htk
  · exact htk

theorem Keeps.start_owner (h : Keeps P) {s : State} (hs : P s) : P (Machine.start s).state := by
  unfold Machine.start
  split
  · exact hs
  · split
    · exact hs
    · rw [Answer.reply_state]
      exact h.quiet (quiet_refresh _) (h.start hs)

theorem Keeps.stop_owner (h : Keeps P) {s : State} (hs : P s) : P (Machine.stop s).state := by
  unfold Machine.stop
  split
  · exact hs
  · split
    · exact hs
    · next hr =>
      unfold State.stopRefusal at hr
      split at hr
      · cases hr
      · next ho =>
        split at hr
        · cases hr
        · next ht =>
            rw [Answer.reply_state]
            exact h.quiet (quiet_refresh _) (h.stop (not_not.mp ho) (not_not.mp ht) hs)

theorem Keeps.hold_owner (h : Keeps P) {s : State} (hs : P s) : P (Machine.hold s).state := by
  unfold Machine.hold
  split
  · exact hs
  · rw [Answer.reply_state]
    exact h.quiet ((quiet_foldl State.holdCarousel quiet_holdCarousel _ _).trans (quiet_refresh _))
      (h.mode .hold (fun e => nomatch e) hs)

theorem Keeps.resume_owner (h : Keeps P) {s : State} (hs : P s) : P (Machine.resume s).state := by
  unfold Machine.resume
  split
  · exact hs
  · rw [Answer.reply_state]
    exact h.quiet ((quiet_foldl State.resumeCarousel quiet_resumeCarousel _ _).trans (quiet_refresh _))
      (h.mode .run (fun e => nomatch e) hs)

/-! ### Articles and setup -/

theorem Keeps.setArticle_owner (h : Keeps P) {s : State} (a : Article) (hs : P s) : P (Machine.setArticle a s).state := by
  unfold Machine.setArticle
  split
  · exact hs
  · next hr =>
    have fits : a.inRange = true := by simpa using hr
    split
    · next place old ho =>
      split
      · exact hs
      · next hu =>
        refine h.rewriteArticle fits ho (fun used => ?_) hs
        simpa [used] using hu
    · next ho =>
      split
      · exact hs
      · next hl => exact h.addArticle fits ho (not_le.mp hl) hs

theorem Keeps.deleteArticle_owner (h : Keeps P) {s : State} (code : Nat) (hs : P s) : P (Machine.deleteArticle code s).state := by
  unfold Machine.deleteArticle
  split
  · exact hs
  · split
    · exact hs
    · next ha =>
      split
      · exact hs
      · next hu => exact h.removeArticle ha (by simpa using hu) hs

theorem Keeps.writeGeometry (h : Keeps P) {s : State} (k : Nat) (g : Geometry) (limit stepTime : Nat) (hm : s.mode = .config)
    (hs : P s) : P (s.writeGeometry k g limit stepTime) := by
  have written := h.geometry k g limit stepTime hm hs
  have guards : Quiet (s.setCarousel k (Carousel.fresh g limit stepTime))
      ((s.setCarousel k (Carousel.fresh g limit stepTime)).closeGuards k) :=
    quiet_foldl _ (fun _ _ => quiet_onWindow ..) _ _
  have fewer := h.discrepancies _ (.inl (List.length_filter_le (fun d => decide (d.addr.carousel ≠ k)) _))
    (h.quiet guards written)
  unfold State.writeGeometry
  dsimp only
  split <;> split
  · exact h.quiet (quiet_notify ..) fewer
  · exact fewer
  · exact h.quiet (quiet_notify ..) fewer
  · exact fewer

theorem Keeps.setCarousel_owner (h : Keeps P) {s : State} (k : Nat) (g : Geometry) (limit : Nat) (step : Option Nat)
    (hs : P s) : P (Machine.setCarousel k g limit step s).state := by
  unfold Machine.setCarousel
  split
  · exact hs
  · split
    · exact hs
    · next hm =>
      split
      · exact hs
      · rw [Answer.reply_state]
        refine h.quiet (quiet_refresh _) ?_
        split
        · exact h.limit _ _ _ hs
        · exact h.writeGeometry _ _ _ _ (not_not.mp hm) hs

theorem Keeps.setWindow_owner (h : Keeps P) {s : State} (w : Nat) (c : Option Nat) (pos : Nat) (hs : P s) :
    P (Machine.setWindow w c pos s).state := by
  unfold Machine.setWindow
  split
  · exact hs
  · split
    · exact hs
    · next hw =>
      have exists_ : w < 8 := by omega
      split
      · rw [Answer.reply_state]
        exact h.quiet (quiet_refresh _) (h.unassign exists_ hs)
      · split
        · exact hs
        · rw [Answer.reply_state]
          exact h.quiet (quiet_refresh _) (h.assign _ exists_ hs)

/-- A change of the settings that keeps them in range where they were. -/
theorem Keeps.setSettings (h : Keeps P) {s : State} (x : Settings)
    (hx : s.settingsInRange → ({ s with settings := x } : State).settingsInRange) (hs : P s) : P { s with settings := x } :=
  h.settings x s.nextTicket hx hs

theorem Keeps.setPutawayClass_owner (h : Keeps P) {s : State} (cls : Nat) (hs : P s) :
    P (Machine.setPutawayClass cls s).state := by
  unfold Machine.setPutawayClass
  split
  · exact hs
  · split
    · exact hs
    · next hc => exact h.setSettings _ (fun hr => ⟨by simpa using hc, hr.2⟩) hs

theorem Keeps.setBridgeMode_owner (h : Keeps P) {s : State} (m : Option BridgeMode) (hs : P s) :
    P (Machine.setBridgeMode m s).state := by
  unfold Machine.setBridgeMode
  split
  · exact hs
  · split
    · exact hs
    · split
      · exact hs
      · exact h.setSettings _ id hs

theorem clamp_inRange {lo hi : Nat} (h : lo ≤ hi) (x : Nat) : inRange lo hi (clamp lo hi x) = true := by
  unfold inRange clamp
  split_ifs <;> simp <;> omega

theorem Keeps.setMergeTimeout_owner (h : Keeps P) {s : State} (len : Nat) (hs : P s) :
    P (Machine.setMergeTimeout len s).state :=
  h.setSettings _ (fun ⟨hc, _, hr⟩ => ⟨hc, clamp_inRange (by omega) len, hr⟩) hs

theorem Keeps.setAuditTiming_owner (h : Keeps P) {s : State} (settle gate : Nat) (hs : P s) :
    P (Machine.setAuditTiming settle gate s).state :=
  h.setSettings _ (fun ⟨hc, ht, _, _, hn⟩ => ⟨hc, ht, clamp_inRange (by omega) settle, clamp_inRange (by omega) gate, hn⟩) hs

theorem nextTicketAfter_inRange {t : Nat} (h : inRange 1 255 t = true) : inRange 1 255 (nextTicketAfter t) = true := by
  simp only [inRange, Bool.and_eq_true, decide_eq_true_eq] at h ⊢
  unfold nextTicketAfter
  split <;> omega

theorem Keeps.stationAccess_owner (h : Keeps P) {s : State} (st item : Nat) (d : Option AccessDir) (v : Nat) (hs : P s) :
    P (Machine.stationAccess st item d v s).state := by
  unfold Machine.stationAccess
  split
  · exact hs
  · next d =>
    split
    · exact hs
    · split
      · exact hs
      · split
        · exact hs
        · unfold State.takeAccess
          split
          · exact h.quiet (quiet_openAccess ..) hs
          · have opened := h.quiet (quiet_openAccess s st { item := item, dir := d, value := v, ticket := some s.nextTicket }) hs
            exact h.settings s.settings (nextTicketAfter s.nextTicket)
              (fun ⟨hc, ht, hse, hg, hn⟩ => ⟨hc, ht, hse, hg, nextTicketAfter_inRange hn⟩) opened

/-! ### Slots -/

theorem Keeps.loadSlot_owner (h : Keeps P) {s : State} (a : SlotAddr) (code batch n : Nat) (hs : P s) :
    P (Machine.loadSlot a code batch n s).state := by
  unfold Machine.loadSlot
  split
  · exact hs
  · next hm =>
    split
    · exact hs
    · next hf =>
      split
      · exact hs
      · next x hx =>
        split
        · exact hs
        · split
          · exact hs
          · next hc =>
            rw [Answer.reply_state]
            exact h.quiet (quiet_refresh _) (h.load (not_not.mp hm) hx hc (contentFields_onHand hf) hs)

theorem Keeps.withdraw_owner (h : Keeps P) {s : State} (a : SlotAddr) (hs : P s) : P (Machine.withdraw a s).state := by
  unfold Machine.withdraw
  split
  · exact hs
  · split
    · exact hs
    · next x hx =>
      split
      · exact hs
      · next hi =>
        split
        · exact hs
        · next hb => exact h.withdraw hx (by simpa using hi) (by omega) (by omega) hs

theorem Keeps.editSlot_owner (h : Keeps P) {s : State} (a : SlotAddr) (code batch n : Nat) (hs : P s) :
    P (Machine.editSlot a code batch n s).state := by
  unfold Machine.editSlot
  split
  · exact hs
  · split
    · exact hs
    · next hf =>
      split
      · exact hs
      · next x hx =>
        split
        · exact hs
        · next hw =>
          split
          · exact hs
          · split
            · exact hs
            · next hc => exact h.edit hx (not_not.mp hw) hc (contentFields_onHand hf) hs

theorem Keeps.restoreSlot_owner (h : Keeps P) {s : State} (a : SlotAddr) (hs : P s) : P (Machine.restoreSlot a s).state := by
  unfold Machine.restoreSlot
  split
  · exact hs
  · split
    · exact hs
    · next x hx =>
      split
      · exact hs
      · next hw =>
        rw [Answer.reply_state]
        exact h.quiet (quiet_refresh _) (h.reallocateFor _ _ (h.restore hx (.inl (not_not.mp hw)) hs))

theorem Keeps.resolveSlot_owner (h : Keeps P) {s : State} (a : SlotAddr) (code batch n : Nat) (hs : P s) :
    P (Machine.resolveSlot a code batch n s).state := by
  unfold Machine.resolveSlot
  split
  · exact hs
  · split
    · exact hs
    · next hf =>
      split
      · exact hs
      · next x hx =>
        split
        · exact hs
        · next hq =>
          split
          · exact hs
          · split
            · exact hs
            · next hc =>
              have resolved := h.resolve hx (not_not.mp hq) hc (contentFields_onHand hf) hs
              rw [Answer.reply_state]
              exact h.quiet (quiet_refresh _) (h.reallocateFor _ _ (h.discrepancies _ (.inl (List.length_filter_le ..)) resolved))

/-! ### Put-away and orders -/

theorem Keeps.putaway_owner (h : Keeps P) {s : State} (task code batch quantity : Nat) (pref : Option Nat) (hs : P s) :
    P (Machine.putaway task code batch quantity pref s).state := by
  unfold Machine.putaway
  split
  · exact hs
  · next hm =>
    split
    · exact hs
    · split
      · exact hs
      · next ha =>
        split
        · exact hs
        · next ht =>
          split
          · exact hs
          · next hl =>
            dsimp only
            split
            · split
              · exact hs
              · rw [Answer.reply_state]
                exact h.quiet (quiet_refresh _) (h.task _ _ (fun _ => ⟨rfl, rfl⟩)
                  (h.newTask task batch quantity pref hm ha (by simpa using ht) (not_le.mp hl) hs))
            · exact hs

theorem Keeps.cancelPutaway_owner (h : Keeps P) {s : State} (task : Nat) (hs : P s) :
    P (Machine.cancelPutaway task s).state := by
  unfold Machine.cancelPutaway
  split
  · exact hs
  · split
    · exact hs
    · split
      · exact hs
      · next ht =>
          rw [Answer.reply_state]
          exact h.quiet (quiet_refresh _) (h.cancelTask ht hs)

theorem Keeps.submitOrder_owner (h : Keeps P) {s : State} (tag priority : Nat) (lines : List (Nat × Nat)) (hs : P s) :
    P (Machine.submitOrder tag priority lines s).state := by
  unfold Machine.submitOrder
  split
  · exact hs
  · next hm =>
    split
    · exact hs
    · split
      · exact hs
      · split
        · exact hs
        · split
          · exact hs
          · split
            · exact hs
            · next hl =>
              rw [Answer.reply_state]
              exact h.quiet (quiet_refresh _)
                (h.bindingRun _ (h.newOrder tag priority lines _ hm (by omega) (by omega) hs))

/-- The requests that name a held order come to a refusal or to their act. -/
theorem onHeldOrder_keeps {s : State} {order : Nat} {act : Order → State → Answer} (hs : P s)
    (ha : ∀ o, P (act o s).state) : P (onHeldOrder order act s).state := by
  unfold onHeldOrder
  split
  · exact hs
  · split
    · exact hs
    · split
      · exact hs
      · exact ha _

theorem Keeps.closeOrder_owner (h : Keeps P) {s : State} (order : Nat) (hs : P s) : P (Machine.closeOrder order s).state := by
  refine onHeldOrder_keeps hs fun o => ?_
  split
  · exact hs
  · have rest := h.giveUpRest o.tag hs
    have finish : ∀ {t : State}, P t → P (t.reallocateReleased o.tag (s.orderPlaces o.tag)).testEnds.refresh := fun ht =>
      h.quiet ((quiet_testEnds _).trans (quiet_refresh _)) (h.reallocate _ ht)
    unfold Machine.closeActive
    dsimp only
    split
    · split
      · rw [Answer.reply_state]
        exact finish (h.freeOrder _ rest)
      · split
        · rw [Answer.reply_state]
          exact finish (h.quiet (quiet_notifyOrder ..) (h.order _ _ (fun _ => ⟨rfl, rfl, rfl⟩) rest))
        · rw [Answer.reply_state]
          exact finish rest
    · exact hs

theorem Keeps.cancelHeld_owner (h : Keeps P) {s : State} (o : Order) (hs : P s) : P (Machine.cancelHeld o s).state := by
  have cancelled := h.order o.tag (fun o => { o with state := .cancelled, lines := o.lines.map fun l => { l with short := false } })
    (fun _ => ⟨rfl, rfl, List.length_map ..⟩) (h.cancelOrderPicks o.tag hs)
  have drained : ∀ {t : State}, P t → P (t.drainLane o) := fun ht => by
    unfold State.drainLane
    split
    · exact h.quiet (quiet_setLaneState ..) ht
    · exact ht
  unfold Machine.cancelHeld
  dsimp only
  rw [Answer.reply_state]
  refine h.quiet ((quiet_testEnds _).trans (quiet_refresh _)) (h.reallocate _ ?_)
  split
  · exact h.quiet (quiet_notifyOrder ..) (drained cancelled)
  · exact drained cancelled

theorem Keeps.cancelOrder_owner (h : Keeps P) {s : State} (order : Nat) (hs : P s) : P (Machine.cancelOrder order s).state := by
  refine onHeldOrder_keeps hs fun o => ?_
  split
  · rw [Answer.reply_state]
    exact h.quiet (quiet_refresh _) (h.freeOrder _ hs)
  · exact h.cancelHeld_owner o hs
  · exact h.cancelHeld_owner o hs
  · exact hs

theorem Keeps.ship_owner (h : Keeps P) {s : State} (order : Nat) (hs : P s) : P (Machine.ship order s).state := by
  refine onHeldOrder_keeps hs fun o => ?_
  split
  · exact hs
  · rw [Answer.reply_state]
    exact h.quiet (quiet_refresh _) (h.freeOrder _ hs)

theorem Keeps.laneCleared_owner (h : Keeps P) {s : State} (n : Nat) (hs : P s) : P (Machine.laneCleared n s).state := by
  unfold Machine.laneCleared
  split
  · exact hs
  · split
    · exact hs
    · split
      · split
        · exact hs
        · rw [Answer.reply_state]
          exact h.quiet (quiet_refresh _) (h.freeOrder _ hs)
      · exact hs

/-! ### Requests that do quiet work -/

theorem quiet_setLane_owner (s : State) (n : Nat) (c : Option Nat) : Quiet s (Machine.setLane n c s).state := by
  unfold Machine.setLane
  split
  · exact Quiet.refl
  · split
    · exact Quiet.refl
    · rw [Answer.reply_state]
      exact quiet_setLane ..

theorem quiet_recover_owner (s : State) (k : Nat) : Quiet s (Machine.recover k s).state := by
  unfold Machine.recover
  split
  · exact Quiet.refl
  · split
    · exact Quiet.refl
    · split
      · exact Quiet.refl
      · split
        · exact Quiet.refl
        · split
          · exact Quiet.refl
          · rw [Answer.reply_state]
            exact quiet_sendPosition ..

theorem quiet_mergeResume_owner (s : State) : Quiet s (Machine.mergeResume s).state := by
  unfold Machine.mergeResume
  split
  · exact Quiet.refl
  · split
    · exact Quiet.refl
    · split
      · exact Quiet.refl
      · rw [Answer.reply_state]
        exact quiet_resumeMerge ..

theorem quiet_audit_owner (s : State) (k first last : Nat) : Quiet s (Machine.audit k first last s).state := by
  unfold Machine.audit
  split
  · exact Quiet.refl
  · split
    · exact Quiet.refl
    · split
      · exact Quiet.refl
      · rw [Answer.reply_state]
        exact (quiet_joinCarriers ..).trans (quiet_refresh _)

theorem quiet_setCal_owner (s : State) (w i tare slope : Nat) : Quiet s (Machine.setCal w i tare slope s).state := by
  unfold Machine.setCal
  split
  · exact Quiet.refl
  · rw [Answer.reply_state]
    exact quiet_onWindow ..

theorem quiet_tare_owner (s : State) (w i : Nat) : Quiet s (Machine.tare w i s).state := by
  unfold Machine.tare
  split
  · exact Quiet.refl
  · split
    · exact Quiet.refl
    · split
      · exact Quiet.refl
      · split
        · exact Quiet.refl
        · split
          · exact Quiet.refl
          · split
            · exact Quiet.refl
            · split
              · exact Quiet.refl
              · rw [Answer.reply_state]
                exact (quiet_openTare ..).trans (quiet_refresh _)

theorem quiet_linkTestStart_owner (s : State) (st : Nat) (d : Option TestDir) (l : Option Latch) :
    Quiet s (Machine.linkTestStart st d l s).state := by
  unfold Machine.linkTestStart
  split
  · split
    · exact Quiet.refl
    · split
      · exact Quiet.refl
      · split
        · exact Quiet.refl
        · split
          · exact Quiet.refl
          · rw [Answer.wait_state]
            exact (quiet_startTest ..).trans (quiet_refresh _)
  · exact Quiet.refl

theorem quiet_linkTestStop_owner (s : State) (st : Nat) : Quiet s (Machine.linkTestStop st s).state := by
  unfold Machine.linkTestStop
  split
  · exact Quiet.refl
  · split
    · exact Quiet.refl
    · rw [Answer.wait_state]
      exact (quiet_onTest ..).trans (quiet_onLink ..)

/-- The requests that only report answer without a change (R6, R22, R39, R56, R80, R107, R128, R162, R166, R183). -/
theorem getters_state (s : State) :
    (∀ code, (Machine.getArticle code s).state = s) ∧ (∀ a, (Machine.getSlot a s).state = s) ∧
    (∀ k f, (Machine.getBalance k f s).state = s) ∧ (∀ t, (Machine.getPutaway t s).state = s) ∧
    (∀ o, (Machine.getOrder o s).state = s) ∧ (∀ k, (Machine.getCarousel k s).state = s) ∧
    (∀ w, (Machine.getWindow w s).state = s) ∧ (∀ w, (Machine.getCal w s).state = s) ∧
    (∀ w, (Machine.getAudit w s).state = s) ∧ ∀ st, (Machine.getLink st s).state = s := by
  refine ⟨fun code => ?_, fun a => ?_, fun k f => ?_, fun t => ?_, fun o => ?_, fun k => ?_, fun w => ?_, fun w => ?_,
    fun w => ?_, fun st => ?_⟩
  · unfold Machine.getArticle; (repeat' split) <;> rfl
  · unfold Machine.getSlot; split <;> rfl
  · unfold Machine.getBalance; split <;> rfl
  · unfold Machine.getPutaway; (repeat' split) <;> rfl
  · unfold Machine.getOrder; (repeat' split) <;> rfl
  · unfold Machine.getCarousel; split <;> rfl
  · unfold Machine.getWindow; (repeat' split) <;> rfl
  · unfold Machine.getCal; split <;> rfl
  · unfold Machine.getAudit; split <;> rfl
  · unfold Machine.getLink; split <;> rfl

/-- Every owning rule keeps the property. -/
theorem Keeps.owners (h : Keeps P) : OwnersKeep P := by
  intro i s hs
  obtain ⟨article, slot, balance, putaway, order, carousel, window, cal, audit, link⟩ := getters_state s
  cases i with
  | clearFlags tag n o d => exact h.quiet (quiet_flags ..) hs
  | start => exact h.start_owner hs
  | stop => exact h.stop_owner hs
  | hold => exact h.hold_owner hs
  | resume => exact h.resume_owner hs
  | setArticle => exact h.setArticle_owner _ hs
  | deleteArticle => exact h.deleteArticle_owner _ hs
  | getArticle tag code => exact (article code).symm ▸ hs
  | setCarousel => exact h.setCarousel_owner _ _ _ _ hs
  | setWindow => exact h.setWindow_owner _ _ _ hs
  | setLane => exact h.quiet (quiet_setLane_owner ..) hs
  | setPutawayClass => exact h.setPutawayClass_owner _ hs
  | setBridgeMode => exact h.setBridgeMode_owner _ hs
  | loadSlot => exact h.loadSlot_owner _ _ _ _ hs
  | withdraw => exact h.withdraw_owner _ hs
  | editSlot => exact h.editSlot_owner _ _ _ _ hs
  | restoreSlot => exact h.restoreSlot_owner _ hs
  | getSlot tag a => exact (slot a).symm ▸ hs
  | getBalance tag k f => exact (balance k f).symm ▸ hs
  | putaway => exact h.putaway_owner _ _ _ _ _ hs
  | cancelPutaway => exact h.cancelPutaway_owner _ hs
  | getPutaway tag t => exact (putaway t).symm ▸ hs
  | submitOrder => exact h.submitOrder_owner _ _ _ hs
  | closeOrder => exact h.closeOrder_owner _ hs
  | cancelOrder => exact h.cancelOrder_owner _ hs
  | ship => exact h.ship_owner _ hs
  | getOrder tag o => exact (order o).symm ▸ hs
  | recover => exact h.quiet (quiet_recover_owner ..) hs
  | getCarousel tag k => exact (carousel k).symm ▸ hs
  | getWindow tag w => exact (window w).symm ▸ hs
  | laneCleared => exact h.laneCleared_owner _ hs
  | mergeResume => exact h.quiet (quiet_mergeResume_owner s) hs
  | setMergeTimeout => exact h.setMergeTimeout_owner _ hs
  | audit => exact h.quiet (quiet_audit_owner ..) hs
  | resolveSlot => exact h.resolveSlot_owner _ _ _ _ hs
  | setAuditTiming => exact h.setAuditTiming_owner _ _ hs
  | setCal => exact h.quiet (quiet_setCal_owner ..) hs
  | getCal tag w => exact (cal w).symm ▸ hs
  | tare => exact h.quiet (quiet_tare_owner ..) hs
  | getAudit tag w => exact (audit w).symm ▸ hs
  | stationAccess => exact h.stationAccess_owner _ _ _ _ hs
  | linkTestStart => exact h.quiet (quiet_linkTestStart_owner ..) hs
  | linkTestStop => exact h.quiet (quiet_linkTestStop_owner ..) hs
  | getLink tag st => exact (link st).symm ▸ hs
  | _ => exact hs

end Sys2Proof.Machine
end

section
/-! PROOFS. The invariants that no work of the blocks touches, or that every write keeps: the queue of commands, the article table,
the settings, the numbers of units, the ranks, the waiting frames, the pools, the balance figures. -/

namespace Sys2Proof.Machine

/-! ### Work of the blocks -/

theorem Works.of_same {s t : State} (ho : t.outer = s.outer) (hm : t.mode = s.mode) (hw : t.waits = s.waits)
    (hv : t.windows = s.windows) (hn : s.noticesFit → t.noticesFit) : Works s t :=
  ⟨ho, hm, hw, by rw [State.posts, State.posts, hv], hn⟩

theorem works_foldl {α : Type} (f : State → α → State) (h : ∀ s a, Works s (f s a)) (xs : List α) (s : State) :
    Works s (xs.foldl f s) := by
  induction xs generalizing s with
  | nil => exact Works.refl
  | cons x xs ih => exact (h s x).trans (ih _)

theorem works_setCarousel (s : State) (k : Nat) (c : Carousel) : Works s (s.setCarousel k c) :=
  ⟨outer_setCarousel .., rfl, rfl, rfl, id⟩

theorem works_judgeOver (s : State) (k : Nat) : Works s (s.judgeOver k) := by
  unfold State.judgeOver
  split
  · dsimp only
    split
    · exact Works.refl
    · exact (works_setCarousel ..).trans (quiet_notify ..).toWorks
  · exact Works.refl

theorem works_writeSlot (s : State) (a : SlotAddr) (x : Slot) : Works s (s.writeSlot a x) := by
  unfold State.writeSlot
  split
  · dsimp only
    split
    · exact works_setCarousel ..
    · exact (works_setCarousel ..).trans (works_judgeOver ..)
  · exact Works.refl

theorem works_writeLimit (s : State) (k limit stepTime : Nat) : Works s (s.writeLimit k limit stepTime) := by
  have written : ∀ f : Carousel → Carousel, Works s (s.onCarousel k f) := fun f => by
    unfold State.onCarousel
    split
    · exact works_setCarousel ..
    · exact Works.refl
  exact (written _).trans (works_judgeOver ..)

theorem works_updateSlot (s : State) (a : SlotAddr) (f : Slot → Slot) : Works s (s.updateSlot a f) := by
  unfold State.updateSlot
  split
  · exact works_writeSlot ..
  · exact Works.refl

theorem works_onOrder (s : State) (tag : Nat) (f : Order → Order) : Works s (s.onOrder tag f) :=
  ⟨outer_onOrder .., rfl, rfl, rfl, id⟩

theorem works_onTask (s : State) (tag : Nat) (f : Task → Task) : Works s (s.onTask tag f) :=
  ⟨outer_onTask .., rfl, rfl, rfl, id⟩

theorem works_picks (s : State) (ps : List Pick) (n : Nat) : Works s { s with picks := ps, creations := n } :=
  ⟨rfl, rfl, rfl, rfl, id⟩

theorem works_orders (s : State) (os : List Order) (q : List Nat) : Works s { s with orders := os, submission := q } :=
  ⟨rfl, rfl, rfl, rfl, id⟩

theorem works_tasks (s : State) (ts : List Task) : Works s { s with tasks := ts } := ⟨rfl, rfl, rfl, rfl, id⟩

theorem works_discrepancies (s : State) (ds : List Discrepancy) : Works s { s with discrepancies := ds } :=
  ⟨rfl, rfl, rfl, rfl, id⟩

theorem works_outfeed (s : State) (w : Nat) (f : Window → List Item) :
    Works s (s.onWindow w fun v => { v with outfeed := f v }) :=
  ⟨outer_onWindow .., rfl, rfl,
    map_set_getD_same _ (fun v : Window => { v with outfeed := f v }) s.windows w _ fun _ => rfl, id⟩

theorem works_cancelPick (s : State) (p : Pick) : Works s (s.cancelPick p) :=
  works_of_counted (counted_of_stored (stored_cancelPick ..)) (noticesFit_cancelPick p)

theorem works_cancelTarget (s : State) (tag : Nat) (x : Target) (c : CancelCause) : Works s (s.cancelTarget tag x c) :=
  works_of_counted (counted_cancelTarget ..) (noticesFit_cancelTarget tag x c)

theorem works_quarantine (s : State) (a : SlotAddr) (r : Reason) (load : Option Nat) : Works s (s.quarantine a r load) :=
  (works_of_counted (counted_clearReservations ..) (noticesFit_clearReservations a)).trans (works_updateSlot ..)

/-- What all work of the blocks keeps, the changes of the records of stock and work keep. -/
theorem Blocks.of_works {P : State → Prop} (h : ∀ {s t : State}, Works s t → P s → P t) : Blocks P where
  quiet := fun hq => h hq.toWorks
  order := fun _ _ _ => h (works_onOrder ..)
  newPick := fun _ _ _ _ => h ((works_picks ..).trans (works_updateSlot ..))
  cancelOrderPicks := fun _ => h (works_foldl _ works_cancelPick _ _)
  freedOrder := fun _ _ _ => h (works_orders ..)
  newOrder := fun _ _ _ _ _ _ _ => h (works_orders ..)
  newTask := fun _ _ _ _ _ _ _ _ => h ((works_tasks ..).trans (works_of_counted (counted_allocatePut ..)
    (noticesFit_allocatePut _ _ _ _ _ _ _)))
  task := fun _ _ _ => h (works_onTask ..)
  endedTask := fun _ _ => h (works_tasks ..)
  cancelTargets := fun _ => h (works_foldl _ (fun _ _ => works_cancelTarget ..) _ _)
  confirmTarget := fun _ _ _ => h ((works_updateSlot ..).trans (works_onTask ..))
  quarantine := fun _ _ _ => h (works_quarantine ..)
  takePick := fun _ _ => h ((works_updateSlot ..).trans ((works_onOrder ..).trans (works_picks ..)))
  items := fun _ _ => h (works_outfeed ..)
  delivered := fun _ => h (works_outfeed ..)
  discrepancies := fun _ _ => h (works_discrepancies ..)
  relabel := fun _ _ _ _ => h (works_updateSlot ..)
  restore := fun _ _ => h (works_writeSlot ..)
  load := fun _ _ _ _ => h (works_writeSlot ..)
  withdraw := fun _ _ _ _ => h (works_writeSlot ..)
  edit := fun _ _ _ _ => h (works_writeSlot ..)
  resolve := fun _ _ _ _ => h (works_writeSlot ..)

/-! ### What the outer frame says -/

/-- A property of the outer frame is kept if the changes of the settings and of the article table keep it. -/
theorem Keeps.of_outer {P : State → Prop} (h : ∀ {s t : State}, t.outer = s.outer → P s → P t)
    (settings : ∀ {s : State} (x : Settings) (n : Nat),
      (s.settingsInRange → ({ s with settings := x, nextTicket := n } : State).settingsInRange) → P s →
      P { s with settings := x, nextTicket := n })
    (rewriteArticle : ∀ {s : State} {a old : Article} {place : Nat}, a.inRange = true →
      s.articleOf a.code = some (place, old) → P s → P (s.rewriteArticle place a))
    (addArticle : ∀ {s : State} {a : Article}, a.inRange = true → s.articleOf a.code = none →
      s.articles.length < Config.articlePlaces → P s → P (s.addArticle a))
    (removeArticle : ∀ {s : State} (place : Nat), P s → P (s.removeArticle place)) : Keeps P where
  toBlocks := Blocks.of_works fun hw => h hw.outer
  settings := settings
  rewriteArticle := fun hr ho _ => rewriteArticle hr ho
  addArticle := addArticle
  removeArticle := fun _ _ => removeArticle _
  geometry := fun _ _ _ _ _ => h (outer_setCarousel ..)
  limit := fun _ _ _ => h (outer_writeLimit ..)
  unassign := fun _ => h (outer_onWindow ..)
  assign := fun _ _ => h (outer_assignWindow ..)
  mode := fun _ _ => h rfl
  atStart := h (by simp [State.outer])
  ranks := fun _ => h (outer_changeRanks ..)

theorem lineOps_of_outer {P : State → Prop} (h : ∀ {s t : State}, t.outer = s.outer → P s → P t) : LineOps P :=
  LineKeeps.lineOps (fun _ _ _ => h rfl) fun f => h (outer_arrive _ f)

/-- A property of the outer frame that the changes of settings and articles and a reset keep is kept by every command. -/
theorem after_keeps_outer {P : State → Prop} (h : ∀ {s t : State}, t.outer = s.outer → P s → P t) (hk : Keeps P)
    (reset : ∀ {s : State} (straps : BitVec 2), P s → P (s.performReset straps)) (i : Instr) {s : State} (hs : P s) :
    P (s.after i) :=
  after_keeps (lineOps_of_outer h) hk.owners (fun i hs => hk.event i hs) (fun _ => h (outer_atTime ..)) reset (fun {s} hs => h (s := s) rfl hs) i hs

/-! ### The queue of commands (notes/assumptions/25) -/

theorem keeps_pending (q : List Instr) : Keeps fun s => s.pending = q :=
  Keeps.of_outer (fun h hs => (congrArg Prod.fst h :).trans hs) (fun _ _ _ => id) (fun _ _ => id) (fun _ _ _ => id) fun _ => id

/-- No command changes the queue of the commands that wait. -/
theorem after_pending (i : Instr) (s : State) : (s.after i).pending = s.pending :=
  after_keeps_outer (P := fun t => t.pending = s.pending) (fun h hs => (congrArg Prod.fst h :).trans hs) (keeps_pending _)
    (fun _ => id) i rfl

/-! ### The article table (R1, R3 to R5) -/

theorem articleOf_some {s : State} {code : Nat} {q : Nat × Article} (h : s.articleOf code = some q) :
    q ∈ s.articles ∧ q.2.code = code :=
  ⟨List.mem_of_find?_eq_some h, by simpa using List.find?_some h⟩

theorem articleOf_none {s : State} {code : Nat} (h : s.articleOf code = none) : ∀ q ∈ s.articles, q.2.code ≠ code := fun q hq => by
  simpa using List.find?_eq_none.mp h q hq

/-- A list of distinct numbers that holds every number below `r` has at least `r` elements. -/
theorem le_length_of_below {xs : List Nat} {r : Nat} (h : ∀ m, m < r → m ∈ xs) : r ≤ xs.length := by
  simpa using List.nodup_range.length_le_of_subset (l₁ := List.range r) fun m hm => h m (List.mem_range.mp hm)

/-- While a place is free, the lowest-numbered free place is one of the table's and is not taken (R3). -/
theorem freePlace_spec {s : State} (h : s.articles.length < Config.articlePlaces) :
    s.freePlace < Config.articlePlaces ∧ ∀ q ∈ s.articles, q.1 ≠ s.freePlace := by
  obtain ⟨free, -, below⟩ := lowestFree_spec (s.articles.map Prod.fst) Config.articlePlaces 0 (by simpa using h)
  have few := le_length_of_below fun m hm => below m (Nat.zero_le m) hm
  refine ⟨lt_of_le_of_lt few (by simpa using h), fun q hq e => free ?_⟩
  exact List.mem_map.mpr ⟨q, hq, e⟩

theorem articlesSound_add {s : State} {a : Article} (fits : a.inRange = true) (fresh : s.articleOf a.code = none)
    (room : s.articles.length < Config.articlePlaces) (hs : s.articlesSound) : (s.addArticle a).articlesSound := by
  obtain ⟨sorted, valid⟩ := hs
  obtain ⟨below, free⟩ := freePlace_spec room
  have perm : (s.addArticle a).articles.Perm ((s.freePlace, a) :: s.articles) := insertBy_perm ..
  have rising : (s.addArticle a).articles.Pairwise fun x y => x.1 < y.1 := by
    have h := insertBy_pairwise (fun (x y : Nat × Article) => decide (x.1 < y.1)) (fun a b c => by simpa using Nat.lt_trans)
      (s.freePlace, a) s.articles (fun y hy => by simpa using lt_or_gt_of_ne (free y hy).symm)
      (sorted.imp fun h => by simpa using h.1)
    exact h.imp fun h => by simpa using h
  have codes : (s.addArticle a).articles.Pairwise fun x y => x.2.code ≠ y.2.code := by
    refine (perm.pairwise_iff fun h => Ne.symm h).mpr (List.pairwise_cons.mpr ⟨fun y hy => ?_, sorted.imp fun h => h.2⟩)
    exact (articleOf_none fresh y hy).symm
  refine ⟨rising.and codes, fun q hq => ?_⟩
  rcases List.mem_cons.mp (perm.mem_iff.mp hq) with rfl | old
  · exact ⟨below, fits⟩
  · exact valid q old

/-- In a sound table a place holds one record. -/
theorem articlesSound_unique {s : State} (hs : s.articlesSound) {p q : Nat × Article} (hp : p ∈ s.articles) (hq : q ∈ s.articles)
    (e : p.1 = q.1) : p = q := by
  have rising : (s.articles.map Prod.fst).Nodup := List.pairwise_map.mpr (hs.1.imp fun h => ne_of_lt h.1)
  exact List.inj_on_of_nodup_map rising hp hq e

theorem articlesSound_rewrite {s : State} {a old : Article} {place : Nat} (fits : a.inRange = true)
    (held : s.articleOf a.code = some (place, old)) (hs : s.articlesSound) : (s.rewriteArticle place a).articlesSound := by
  obtain ⟨sorted, valid⟩ := hs
  obtain ⟨mem, code⟩ := articleOf_some held
  have same : ∀ q ∈ s.articles, (if q.1 = place then (place, a) else q).1 = q.1 ∧
      (if q.1 = place then (place, a) else q).2.code = q.2.code := fun q hq => by
    split
    · next e =>
      have : q = (place, old) := articlesSound_unique ⟨sorted, valid⟩ hq mem e
      exact ⟨e.symm, by rw [this]; exact code.symm⟩
    · exact ⟨rfl, rfl⟩
  refine ⟨List.pairwise_map.mpr (sorted.imp_of_mem fun hx hy h => ?_), fun q hq => ?_⟩
  · rw [(same _ hx).1, (same _ hy).1, (same _ hx).2, (same _ hy).2]
    exact h
  · obtain ⟨p, hp, rfl⟩ := List.mem_map.mp hq
    split
    · exact ⟨(valid _ mem).1, fits⟩
    · exact valid p hp

theorem articlesSound_of_outer {s t : State} (h : t.outer = s.outer) (hs : s.articlesSound) : t.articlesSound := by
  have articles : t.articles = s.articles := (congrArg (fun o => o.2.1) h :)
  rwa [State.articlesSound, articles]

theorem keeps_articlesSound : Keeps State.articlesSound :=
  Keeps.of_outer articlesSound_of_outer (fun _ _ _ => id) articlesSound_rewrite articlesSound_add
    fun _ hs => ⟨hs.1.filter _, fun q hq => hs.2 q (List.mem_of_mem_filter hq)⟩

theorem articlesSound_reset {s : State} (straps : BitVec 2) : (s.performReset straps).articlesSound :=
  ⟨List.Pairwise.nil, fun _ h => absurd h (List.not_mem_nil)⟩

/-! ### The settings and the numbers of units (R49, R136, R151, R177) -/

theorem settingsInRange_of_outer {s t : State} (h : t.outer = s.outer) (hs : s.settingsInRange) : t.settingsInRange := by
  have settings : t.settings = s.settings := (congrArg (fun o => o.2.2.1) h :)
  have ticket : t.nextTicket = s.nextTicket := (congrArg (fun o => o.2.2.2.1) h :)
  rwa [State.settingsInRange, settings, ticket]

theorem keeps_settingsInRange : Keeps State.settingsInRange :=
  Keeps.of_outer settingsInRange_of_outer (fun _ _ h => h) (fun _ _ => id) (fun _ _ _ => id) fun _ => id

theorem settingsInRange_reset {s : State} (straps : BitVec 2) : (s.performReset straps).settingsInRange :=
  ⟨rfl, rfl, rfl, rfl, rfl⟩

theorem shaped_of_outer {s t : State} (h : t.outer = s.outer) (hs : s.shaped) : t.shaped := by
  have numbers : (t.carousels.length, t.windows.length, t.lanes.length, t.links.length) =
      (s.carousels.length, s.windows.length, s.lanes.length, s.links.length) := (congrArg (fun o => o.2.2.2.2) h :)
  simp only [Prod.mk.injEq] at numbers
  obtain ⟨carousels, windows, lanes, links⟩ := numbers
  rwa [State.shaped, carousels, windows, lanes, links]

theorem keeps_shaped : Keeps State.shaped :=
  Keeps.of_outer shaped_of_outer (fun _ _ _ => id) (fun _ _ => id) (fun _ _ _ => id) fun _ => id

theorem shaped_reset {s : State} (straps : BitVec 2) (hs : s.shaped) : (s.performReset straps).shaped :=
  ⟨rfl, rfl, rfl, by simpa [State.performReset, State.afterReset] using hs.2.2.2⟩

/-! ### The ranks (R135, R137) -/

theorem window_post (s : State) (w : Nat) : ((s.window w).assigned, (s.window w).rank) = s.posts.getD w (none, none) := by
  unfold State.posts State.window
  simp only [List.getD_eq_getElem?_getD, List.getElem?_map]
  cases s.windows[w]? <;> rfl

theorem ranksSound_of_posts {s t : State} (h : t.posts = s.posts) (hs : s.ranksSound) : t.ranksSound := by
  have same : ∀ w, (t.window w).assigned = (s.window w).assigned ∧ (t.window w).rank = (s.window w).rank := fun w => by
    have e := (window_post t w).trans (h ▸ (window_post s w).symm)
    exact ⟨congrArg Prod.fst e, congrArg Prod.snd e⟩
  obtain ⟨ranked, below, distinct⟩ := hs
  refine ⟨fun w hw => ?_, fun w r hw hr => below w r hw ((same w).2 ▸ hr), fun w v r hw hv hne hr => ?_⟩
  · rw [(same w).1, (same w).2]
    exact ranked w hw
  · rw [(same v).2]
    exact distinct w v r hw hv hne ((same w).2 ▸ hr)

theorem window_onWindow {s : State} {w : Nat} (h : w < s.windows.length) (f : Window → Window) (v : Nat) :
    (s.onWindow w f).window v = if v = w then f (s.window w) else s.window v := by
  unfold State.onWindow State.window
  simp only [List.getD_eq_getElem?_getD, List.getElem?_set]
  by_cases e : w = v
  · subst e
    simp [h]
  · simp [e, Ne.symm e]

/-- A window set to an assignment with a rank, or to neither, keeps the ranks sound if no other window has that rank. -/
theorem ranksSound_onWindow {s : State} {w : Nat} (hl : w < s.windows.length) {f : Window → Window}
    (ranked : ((f (s.window w)).assigned.isSome = true ↔ (f (s.window w)).rank.isSome = true))
    (free : ∀ r, (f (s.window w)).rank = some r → r < 8 ∧ ∀ v, v < 8 → v ≠ w → (s.window v).rank ≠ some r) (hs : s.ranksSound) :
    (s.onWindow w f).ranksSound := by
  have read := window_onWindow hl f
  refine ⟨fun v hv => ?_, fun v r hv hr => ?_, fun u v r hu hv hne hr => ?_⟩
  · rw [read]
    split
    · exact ranked
    · exact hs.1 v hv
  · rw [read] at hr
    split at hr
    · exact (free r hr).1
    · exact hs.2.1 v r hv hr
  · rw [read] at hr ⊢
    split at hr <;> split
    · omega
    · next hv' => exact (free r hr).2 v hv hv'
    · next hu' _ => exact fun hf => (free r hf).2 u hu hu' hr
    · exact hs.2.2 u v r hu hv hne hr

/-- A sound window has a rank just when it is assigned, so the drawn rank is nobody's. -/
theorem ranksSound_assignWindow {s : State} {w : Nat} (hw : w < 8) (a : Nat × Nat) (hl : s.windows.length = 8)
    (hs : s.ranksSound) : (s.assignWindow w a).ranksSound := by
  unfold State.assignWindow
  split
  · next r hr =>
    refine ranksSound_onWindow (by omega) (by simp [Window.setTo]) (fun r' e => ?_) hs
    have same : r = r' := by simpa [Window.setTo] using e
    subst same
    exact ⟨hs.2.1 w r hw hr, fun v hv hne => hs.2.2 w v r hw hv hne.symm hr⟩
  · refine ranksSound_onWindow (s := { s with draws := s.draws + 1 }) (by show w < s.windows.length; omega) (by simp [Window.setTo])
      (fun r' e => ?_) hs
    have same : s.drawRank w = r' := by simpa [Window.setTo] using e
    subst same
    obtain ⟨below, free⟩ := drawRank_spec s hw
    refine ⟨below, fun v hv hne hr => ?_⟩
    exact free v hv hne ((hs.1 v hv).mpr (by rw [show (s.window v).rank = _ from hr]; rfl)) hr

theorem window_mapIdx (s : State) (f : Nat → Window → Window) (hf : ∀ w, f w Window.afterReset = Window.afterReset) (w : Nat) :
    ({ s with windows := s.windows.mapIdx f } : State).window w = f w (s.window w) := by
  unfold State.window
  simp only [List.getD_eq_getElem?_getD, List.getElem?_mapIdx]
  cases s.windows[w]? <;> simp [hf]

theorem ranksSound_atStart {s : State} (hs : s.ranksSound) :
    ({ s with windows := s.windows.mapIdx Window.atStart } : State).ranksSound := by
  have read := window_mapIdx s Window.atStart fun _ => rfl
  have rank : ∀ w, w < 8 → ∀ r, (Window.atStart w (s.window w)).rank = some r → r = w := fun w hw r hr => by
    unfold Window.atStart at hr
    split at hr
    · simpa using hr.symm
    · next ha => exact absurd ((hs.1 w hw).mpr (by rw [hr]; rfl)) ha
  refine ⟨fun w hw => ?_, fun w r hw hr => ?_, fun w v r hw hv hne hr hr' => ?_⟩
  · rw [read]
    unfold Window.atStart
    split
    · next ha => simp [ha]
    · exact hs.1 w hw
  · rw [read] at hr
    exact rank w hw r hr ▸ hw
  · rw [read] at hr hr'
    exact hne ((rank w hw r hr).symm.trans (rank v hv r hr'))

/-- A window's rank counts against another's only if it has one itself. -/
theorem rankOf_spec {s : State} (hl : s.windows.length = 8) (w : Nat) :
    s.rankOf w = 0 ∨ (w < 8 ∧ (s.window w).rank = some (s.rankOf w)) := by
  unfold State.rankOf
  cases hr : (s.window w).rank with
  | none => exact .inl rfl
  | some r =>
    refine .inr ⟨lt_of_not_ge fun hw => ?_, rfl⟩
    have none : (s.window w).rank = none := by
      simp [State.window, List.getD_eq_getElem?_getD, List.getElem?_eq_none (hl ▸ hw), Window.afterReset]
    rw [none] at hr
    cases hr

/-- The ranks turn at the completion of a transfer: the window's becomes 0, and those below it rise by one (R137). -/
theorem ranksSound_changeRanks {s : State} (w : Nat) (hl : s.windows.length = 8) (hs : s.ranksSound) :
    (s.changeRanks w).ranksSound := by
  have read := window_mapIdx s (fun v win => { win with rank := win.rank.map (rankAfter w (s.rankOf w) v) }) fun _ => rfl
  obtain ⟨ranked, below, distinct⟩ := hs
  have turned : ∀ v r, ((s.changeRanks w).window v).rank = some r →
      ∃ old, (s.window v).rank = some old ∧ rankAfter w (s.rankOf w) v old = r := fun v r h => by
    rw [State.changeRanks, read] at h
    exact Option.map_eq_some_iff.mp h
  have own : ∀ old, (s.window w).rank = some old → s.rankOf w = old := fun old h => by simp [State.rankOf, h]
  have small : s.rankOf w < 8 := by
    rcases rankOf_spec hl w with h | ⟨hw, h⟩
    · omega
    · exact below w _ hw h
  have others : ∀ v old, v < 8 → v ≠ w → (s.window v).rank = some old → old ≠ s.rankOf w ∨ s.rankOf w = 0 := fun v old hv hne h => by
    rcases rankOf_spec hl w with h0 | ⟨hw, hr⟩
    · exact .inr h0
    · exact .inl fun e => distinct w v _ hw hv hne.symm hr (e ▸ h)
  refine ⟨fun v hv => ?_, fun v r hv hr => ?_, fun u v r hu hv hne hr hr' => ?_⟩
  · rw [State.changeRanks, read, Option.isSome_map]
    exact ranked v hv
  · obtain ⟨old, ho, rfl⟩ := turned v r hr
    have := below v old hv ho
    unfold rankAfter
    (repeat' split) <;> omega
  · obtain ⟨old, ho, e⟩ := turned u r hr
    obtain ⟨old', ho', e'⟩ := turned v r hr'
    have apart : old ≠ old' := fun e => distinct u v old hu hv hne ho (e ▸ ho')
    have this := others u old hu
    have that := others v old' hv
    have mine : u = w → s.rankOf w = old := fun e => own old (e ▸ ho)
    have yours : v = w → s.rankOf w = old' := fun e => own old' (e ▸ ho')
    unfold rankAfter at e e'
    split at e <;> split at e'
    · omega
    · next hu' hv' =>
      have := that hv' ho'
      have := mine hu'
      split at e' <;> omega
    · next hu' hv' =>
      have := this hu' ho
      have := yours hv'
      split at e <;> omega
    · next hu' hv' =>
      have here := this hu' ho
      have := that hv' ho'
      split at e <;> split at e' <;> omega

theorem keeps_ranksSound : Keeps fun s => s.shaped ∧ s.ranksSound where
  toBlocks := Blocks.of_works fun hw hs => ⟨shaped_of_outer hw.outer hs.1, ranksSound_of_posts hw.posts hs.2⟩
  settings := fun _ _ _ hs => hs
  rewriteArticle := fun _ _ _ hs => hs
  addArticle := fun _ _ _ hs => hs
  removeArticle := fun _ _ hs => hs
  geometry := fun _ _ _ _ _ hs => ⟨shaped_of_outer (outer_setCarousel ..) hs.1, hs.2⟩
  limit := fun k limit stepTime hs =>
    ⟨shaped_of_outer (outer_writeLimit ..) hs.1, ranksSound_of_posts (works_writeLimit ..).posts hs.2⟩
  unassign := fun {s w} hw hs => by
    have shaped : (s.onWindow w fun v => v.setTo none none).shaped := shaped_of_outer (outer_onWindow ..) hs.1
    exact ⟨shaped, ranksSound_onWindow (hs.1.2.1 ▸ hw) (by simp [Window.setTo])
      (fun _ h => by simp [Window.setTo] at h) hs.2⟩
  assign := fun a hw hs => ⟨shaped_of_outer (outer_assignWindow ..) hs.1, ranksSound_assignWindow hw a hs.1.2.1 hs.2⟩
  mode := fun _ _ hs => hs
  atStart := fun hs => ⟨shaped_of_outer (by simp [State.outer]) hs.1, ranksSound_atStart hs.2⟩
  ranks := fun w hs => ⟨shaped_of_outer (outer_changeRanks ..) hs.1, ranksSound_changeRanks w hs.1.2.1 hs.2⟩

theorem ranksSound_reset {s : State} (straps : BitVec 2) : (s.performReset straps).ranksSound := by
  have blank : ∀ w, w < 8 → (s.performReset straps).window w = Window.afterReset := fun w hw => by
    exact List.getD_replicate _ hw
  refine ⟨fun w hw => ?_, fun w r hw hr => ?_, fun w v r hw _ _ hr => ?_⟩
  · rw [blank w hw]
    decide
  · rw [blank w hw] at hr
    cases hr
  · rw [blank w hw] at hr
    cases hr

/-! ### The frames that wait (R186) -/

theorem keeps_waits (v : List Frame × Option (Nat × Nat)) : Keeps fun s => s.waits = v where
  toBlocks := Blocks.of_works fun hw hs => hw.waits.trans hs
  settings := fun _ _ _ hs => hs
  rewriteArticle := fun _ _ _ hs => hs
  addArticle := fun _ _ _ hs => hs
  removeArticle := fun _ _ hs => hs
  geometry := fun _ _ _ _ _ hs => hs
  limit := fun _ _ _ hs => (works_writeLimit ..).waits.trans hs
  unassign := fun _ hs => hs
  assign := fun {s w} a _ hs => by
    unfold State.assignWindow
    split <;> exact hs
  mode := fun _ _ hs => hs
  atStart := fun hs => hs
  ranks := fun _ hs => hs

theorem progress_of_waits {s t : State} (h : t.waits = s.waits) : t.line.progress = none ↔ s.line.progress = none := by
  have e : t.line.progress.map (fun p => (p.kind, p.tag)) = s.line.progress.map fun p => (p.kind, p.tag) := (congrArg Prod.snd h :)
  rw [← Option.map_eq_none_iff (f := fun p : Progress => (p.kind, p.tag)), e, Option.map_eq_none_iff]

theorem noFrameIdles_of_waits {s t : State} (h : t.waits = s.waits) (hs : s.noFrameIdles) : t.noFrameIdles := fun hp =>
  (congrArg Prod.fst h :).trans (hs ((progress_of_waits h).mp hp))

theorem noFrameIdles_of_progress {s : State} (h : s.line.progress ≠ none) : s.noFrameIdles := fun hp => absurd hp h

/-- A taken request is in progress when it has been handled. -/
theorem handle_progress (s : State) (kind tag : Nat) (i : Instr) : (s.handle kind tag (ownerOf i)).line.progress ≠ none := by
  have taken : (s.take kind tag).line.progress ≠ none := by simp [State.take]
  have owned := (keeps_waits (s.take kind tag).waits).owners i (s.take kind tag) rfl
  have handled : ∀ t u : State, t.waits = (s.take kind tag).waits → Quiet t u → u.line.progress ≠ none := fun t u ht hu =>
    fun hp => taken ((progress_of_waits (hu.waits.trans ht)).mp hp)
  unfold State.handle
  split
  · exact handled _ _ rfl (quiet_formReply ..)
  · cases hq : ownerOf i (s.take kind tag) <;> rw [hq] at owned
    · exact handled _ _ owned (quiet_formReply ..)
    · exact handled _ _ owned (quiet_awaitExchange ..)

theorem noFrameIdles_handle (s : State) (kind tag : Nat) (i : Instr) : (s.handle kind tag (ownerOf i)).transmit.noFrameIdles :=
  noFrameIdles_of_waits (quiet_transmit _).waits (noFrameIdles_of_progress (handle_progress s kind tag i))

/-- A waiting frame is taken when no request is in progress. -/
theorem noFrameIdles_serve (s : State) : s.serve.noFrameIdles := by
  unfold State.serve
  split
  · exact noFrameIdles_handle s _ _ _
  · next other =>
    intro hp
    cases hb : s.line.buffer with
    | nil => rfl
    | cons f rest => exact absurd hb (other f rest hp)

theorem noFrameIdles_request {s : State} (kind tag : Nat) (i : Instr) (hs : s.noFrameIdles) :
    (s.request kind tag i (ownerOf i)).noFrameIdles := by
  unfold State.request
  split
  · exact noFrameIdles_handle s _ _ _
  · next busy =>
    have progress : s.line.progress ≠ none := fun hp => busy ⟨hp, hs hp⟩
    refine noFrameIdles_of_waits (quiet_transmit _).waits (noFrameIdles_of_progress ?_)
    unfold State.arrive
    split <;> exact progress

theorem noFrameIdles_receive {s : State} (b : Byte) (hs : s.noFrameIdles) : (s.receive b).noFrameIdles := by
  unfold State.receive
  dsimp only
  split
  · exact noFrameIdles_serve _
  · exact hs

theorem noFrameIdles_sent {s : State} (f : SentFrame) (hs : s.noFrameIdles) : (s.sent f).noFrameIdles := by
  unfold State.sent
  split
  · exact noFrameIdles_of_waits (quiet_transmit _).waits (noFrameIdles_serve _)
  · exact noFrameIdles_of_waits (quiet_transmit _).waits hs

theorem event_waits (i : Instr) (s : State) : (s.event i).waits = s.waits := (keeps_waits s.waits).event i rfl

theorem noFrameIdles_after (i : Instr) {s : State} (hs : s.noFrameIdles) : (s.after i).noFrameIdles := by
  unfold State.after
  split
  · exact fun _ => rfl
  · next bytes =>
    induction bytes generalizing s with
    | nil => exact hs
    | cons b bs ih => exact ih (noFrameIdles_receive b hs)
  · unfold State.gapTimeout
    split
    · exact noFrameIdles_of_waits (quiet_reachTime s _).waits hs
    · exact hs
  · unfold State.transmitDone
    split
    · split
      · exact fun _ => rfl
      · exact noFrameIdles_sent _ hs
    · exact hs
  · split
    · exact noFrameIdles_request _ _ _ hs
    · exact noFrameIdles_of_waits (event_waits ..) hs

/-! ### The statements -/

/-- A property of the outer frame that the changes of settings and articles and a reset keep, and that no waiting command
enters, is kept by every step. -/
theorem step_keeps_outer {P : State → Prop} (h : ∀ {s t : State}, t.outer = s.outer → P s → P t) (hk : Keeps P)
    (reset : ∀ {s : State} (straps : BitVec 2), P s → P (s.performReset straps))
    (commands : ∀ {s : State} (q : List Instr), P s → P { s with pending := q }) {s t : State} (hs : P s)
    (hst : step s = .next t) : P t :=
  step_keeps (fun i hs => after_keeps_outer h hk reset i hs) (fun _ => h (outer_atTime ..)) commands hs hst

/-- Settles O2: every command answers a next state, and the queue of commands is part of the outer frame. -/
theorem everyCommandAnswersNextAndKeepsTheQueue : Obligations.EveryCommandAnswersNextAndKeepsTheQueue := fun i s =>
  ⟨s.after i, exec_eq_after i s, after_pending i s⟩

/-- Settles O5: the three changes of the article table keep it sound, and no other work touches it. -/
theorem everyStepKeepsTheArticleTableSound : Obligations.EveryStepKeepsTheArticleTableSound := fun _ _ hs h =>
  step_keeps_outer articlesSound_of_outer keeps_articlesSound (fun straps _ => articlesSound_reset straps) (fun _ hs => hs) hs h

/-- Settles O6. -/
theorem everyStepKeepsTheSettingsAndTheUnits : Obligations.EveryStepKeepsTheSettingsAndTheUnits := by
  refine ⟨fun s t => ?settings, fun s t => ?units, fun s t shaped => ?ranks, fun s t => ?frames⟩
  case settings =>
    exact step_keeps_outer settingsInRange_of_outer keeps_settingsInRange (fun straps _ => settingsInRange_reset straps) fun _ hs => hs
  case units => exact step_keeps_outer shaped_of_outer keeps_shaped shaped_reset fun _ hs => hs
  case ranks =>
    intro ranked h
    have line : LineOps fun s : State => s.shaped ∧ s.ranksSound := LineKeeps.lineOps (fun _ _ _ hs => hs) fun {s} f hs => by
      unfold State.arrive
      split <;> exact hs
    have after : ∀ {s : State} (i : Instr), s.shaped ∧ s.ranksSound → (s.after i).shaped ∧ (s.after i).ranksSound := fun i hs =>
      after_keeps line keeps_ranksSound.owners (fun i hs => keeps_ranksSound.event i hs)
        (fun _ hs => ⟨shaped_of_outer (outer_atTime ..) hs.1, hs.2⟩) (fun straps hs => ⟨shaped_reset straps hs.1, ranksSound_reset straps⟩)
        (fun hs => hs) i hs
    exact (step_keeps (P := fun s => s.shaped ∧ s.ranksSound) after
      (fun _ hs => ⟨shaped_of_outer (outer_atTime ..) hs.1, hs.2⟩) (fun _ hs => hs) ⟨shaped, ranked⟩ h).2
  case frames => exact step_keeps (fun i hs => noFrameIdles_after i hs) (fun _ hs => hs) fun _ hs => hs

end Sys2Proof.Machine
end

section
/-! PROOFS. The pools and the records keep to their places, and the balance figures are exact. What `Kept` lists of the laws (a
property that the primitive updates of the state keep) serves the pools and the figures; the records' own sizes are settled by the
changes that `Blocks` lists. -/

namespace Sys2Proof.Machine

/-! ### Pools and figures -/

/-- A property that the primitive updates keep and that survives quiet work is kept by the changes of stock, work and setup. -/
theorem Kept.keeps {P : State → Prop} (h : Kept P) (quiet : ∀ {s t : State}, Quiet s t → P s → P t)
    (geometry : ∀ {s : State} (k : Nat) (g : Geometry) (limit stepTime : Nat), P s →
      P (s.setCarousel k (Carousel.fresh g limit stepTime)))
    (limit : ∀ {s : State} (k limit stepTime : Nat), P s → P (s.writeLimit k limit stepTime)) : Keeps P where
  quiet := quiet
  order := fun tag f _ => h.onOrder tag f
  newPick := fun room _ _ _ hs => h.updateSlot _ _ (h.onePick _ _ _ room hs)
  cancelOrderPicks := h.cancelOrderPicks
  freedOrder := fun _ q _ => h.fewerOrders _ q
  newOrder := fun _ _ _ q _ room _ => h.oneOrder _ q room
  newTask := fun _ _ _ _ _ _ _ room => h.allocateTask _ _ _ _ _ _ room
  task := fun tag f _ => h.onTask tag f
  endedTask := fun _ _ => h.fewerTasks _
  cancelTargets := fun _ => h.foldl _ (fun _ _ => h.cancelTarget _ _ _) _
  confirmTarget := fun _ _ _ hs => h.closeTarget _ _ _ (h.updateSlot _ _ hs)
  quarantine := h.quarantine
  takePick := fun _ _ hs => h.pickTaken _ _ (h.updateSlot _ _ hs)
  items := fun p _ => h.addItems _ p _
  delivered := fun w => h.window w _
  discrepancies := h.discrepancies
  relabel := fun _ _ _ _ => h.updateSlot _ _
  restore := fun _ _ => h.slot _ _
  load := fun _ _ _ _ => h.slot _ _
  withdraw := fun _ _ _ _ => h.slot _ _
  edit := fun _ _ _ _ => h.slot _ _
  resolve := fun _ _ _ _ => h.slot _ _
  settings := fun x n _ => h.settings x n
  rewriteArticle := fun _ _ _ => h.articles _
  addArticle := fun _ _ _ => h.articles _
  removeArticle := fun _ _ => h.articles _
  geometry := fun k g limit stepTime _ => geometry k g limit stepTime
  limit := limit
  unassign := fun _ => h.window _ _
  assign := fun a _ => h.assignWindow _ a
  mode := fun m _ => h.mode m
  atStart := h.windows _
  ranks := h.changeRanks

/-- Such a property is kept by every step, resets apart. -/
theorem Kept.step {P : State → Prop} (h : Kept P) (hk : Keeps P)
    (reset : ∀ {s : State} (straps : BitVec 2), P s → P (s.performReset straps)) {s t : State} (hs : P s)
    (hst : step s = .next t) : P t :=
  have after : ∀ {s : State} (i : Instr), P s → P (s.after i) := fun i hs =>
    after_keeps (h.lineKeeps.lineOps fun f => h.frame f) hk.owners (fun i hs => hk.event i hs) h.time reset (h.draws _) i hs
  step_keeps after h.time h.commands hs hst

theorem placesFit_of_quiet {s t : State} (h : Quiet s t) (hs : s.placesFit) : t.placesFit := by
  have buffer : t.line.buffer = s.line.buffer := (congrArg Prod.fst h.waits :)
  have picks : t.picks.length = s.picks.length := by simpa using congrArg List.length h.picks
  exact placesFit_of hs (h.tasks ▸ le_refl _) (h.orders ▸ le_refl _) picks.le (h.discrepancies ▸ le_refl _) (buffer ▸ le_refl _)

theorem placesFit_writeLimit {s : State} (k limit stepTime : Nat) (hs : s.placesFit) : (s.writeLimit k limit stepTime).placesFit := by
  have buffer : (s.writeLimit k limit stepTime).line.buffer = s.line.buffer :=
    (congrArg Prod.fst (works_writeLimit s k limit stepTime).waits :)
  exact placesFit_of hs (by simp [State.writeLimit]) (by simp [State.writeLimit]) (by simp [State.writeLimit])
    (by simp [State.writeLimit]) (le_of_eq (congrArg List.length buffer))

theorem keeps_placesFit : Keeps State.placesFit :=
  kept_placesFit.keeps placesFit_of_quiet (fun _ _ _ _ hs => hs) placesFit_writeLimit

theorem keeps_noticesFit : Keeps State.noticesFit where
  toBlocks := Blocks.of_works Works.notices
  settings := fun _ _ _ hs => hs
  rewriteArticle := fun _ _ _ hs => hs
  addArticle := fun _ _ _ hs => hs
  removeArticle := fun _ _ hs => hs
  geometry := fun _ _ _ _ _ hs => hs
  limit := fun _ _ _ hs => (works_writeLimit ..).notices hs
  unassign := fun _ hs => hs
  assign := fun {s w} a _ hs => by
    unfold State.assignWindow
    split <;> exact hs
  mode := fun _ _ hs => hs
  atStart := fun hs => hs
  ranks := fun _ hs => hs

/-- What quiet work leaves of a carousel. -/
theorem Quiet.carousel {s t : State} (h : Quiet s t) (k : Nat) : (t.carousel? k).map Carousel.books = (s.carousel? k).map Carousel.books := by
  have read : ∀ u : State, (u.carousel? k).map Carousel.books = u.books.getD k none := fun u => by
    simp only [State.carousel?, State.books, List.getD_eq_getElem?_getD, List.getElem?_map]
    cases u.carousels[k]? <;> rfl
  rw [read, read, h.books]

theorem figuresExact_of_quiet {s t : State} (h : Quiet s t) (hs : s.figuresExact) : t.figuresExact := by
  refine figuresExact_of hs fun k d hd => ?_
  have e := h.carousel k
  rw [hd, Option.map_some] at e
  obtain ⟨c, hc, same⟩ := Option.map_eq_some_iff.mp e.symm
  exact ⟨c, hc, (congrArg (fun b => b.2.2) same.symm :)⟩

theorem loadAt_zeros (n i : Nat) : loadAt (List.replicate n 0) i = 0 := by
  unfold loadAt
  rw [List.getD_eq_getElem?_getD, List.getElem?_replicate]
  split <;> rfl

/-- Empty carriers are balanced at every position (R27). -/
theorem imbalance_zeros (n p : Nat) : imbalance (List.replicate n 0) p = 0 := by
  simp only [imbalance, loadAt_zeros]
  rw [← List.sum_eq_foldl]
  simp

theorem profileFrom_zeros (n k p : Nat) : profileFrom (List.replicate n 0) k p 0 = List.replicate k 0 := by
  induction k generalizing p with
  | zero => rfl
  | succ k ih => simp only [profileFrom, stepProfile, loadAt_zeros, List.replicate_succ]; exact congrArg _ (ih _)

theorem worst_zeros (n : Nat) : worst (List.replicate n 0) = 0 := by
  have none : ∀ k, (List.replicate k (0 : Int)).foldl (fun w d => max w d.natAbs) 0 = 0 := fun k => by
    induction k with
    | zero => rfl
    | succ k ih => exact ih
  rw [worst, profile, imbalance_zeros, profileFrom_zeros, none]

/-- The figures of an empty carousel are zero (R8). -/
theorem figuresExact_fresh (g : Geometry) (limit stepTime : Nat) : (Carousel.fresh g limit stepTime).figures.exact :=
  ⟨(worst_zeros _).symm, (worst_zeros _).symm, by simp [Figures.isOver, Carousel.fresh]⟩

/-- A new limit B leaves both W, and BALANCE_OVER is judged by it (R36). -/
theorem figuresExact_writeLimit {s : State} (k limit stepTime : Nat) (hs : s.figuresExact) :
    (s.writeLimit k limit stepTime).figuresExact := by
  unfold State.writeLimit State.onCarousel
  split
  · next c hc =>
    refine figuresExact_judgeOver (fun j d hj hd => ?_) fun d hd => ?_
    · rw [carousel?_setCarousel, if_neg fun h => hj h.1.symm] at hd
      exact hs j d hd
    · rw [carousel?_set hc] at hd
      cases hd
      exact ⟨(hs k c hc).1, (hs k c hc).2.1⟩
  · next none => exact figuresExact_judgeOver (fun j d _ hd => hs j d hd) fun d hd => by simp [none] at hd

theorem keeps_figuresExact : Keeps State.figuresExact :=
  kept_figuresExact.keeps figuresExact_of_quiet (fun _ _ _ _ hs => figuresExact_setCarousel (figuresExact_fresh ..) hs)
    figuresExact_writeLimit

/-! ### Records (R41, R57, R58, R122) -/

theorem total_eq_sum (xs : List Nat) : total xs = xs.sum := List.sum_eq_foldl.symm

/-- The line records and the priorities of the orders. -/
def State.orderSizes (s : State) : List (Nat × Nat) := s.orders.map fun o => (o.lines.length, o.priority)

/-- The numbers of targets of the tasks. -/
def State.targetCounts (s : State) : List Nat := s.tasks.map fun t => t.targets.length

theorem recordsFit_iff (s : State) : s.recordsFit ↔ (s.orderSizes.map Prod.fst).sum ≤ Config.linePool ∧
    (∀ n ∈ s.targetCounts, n ≤ Config.targetsPerTask) ∧ (∀ q ∈ s.outfeeds, q.length ≤ Config.outfeedPlaces) ∧
    ∀ p ∈ s.orderSizes, p.2 ≤ 63 := by
  simp [State.recordsFit, State.orderSizes, State.targetCounts, State.outfeeds, total_eq_sum, Function.comp_def]

/-- Fewer orders and tasks than before, none of them larger, fit. -/
theorem recordsFit_of {s t : State} (orders : t.orderSizes.Sublist s.orderSizes) (tasks : t.targetCounts ⊆ s.targetCounts)
    (outfeeds : t.outfeeds = s.outfeeds) (hs : s.recordsFit) : t.recordsFit := by
  rw [recordsFit_iff] at hs ⊢
  obtain ⟨lines, targets, items, priorities⟩ := hs
  refine ⟨?_, fun n hn => targets n (tasks hn), outfeeds ▸ items, fun p hp => priorities p (orders.subset hp)⟩
  exact ((orders.map Prod.fst).sum_le_sum fun _ _ => Nat.zero_le _).trans lines

theorem orderSizes_onOrder (s : State) (tag : Nat) (f : Order → Order)
    (h : ∀ o, (f o).priority = o.priority ∧ (f o).lines.length = o.lines.length) : (s.onOrder tag f).orderSizes = s.orderSizes := by
  simp only [State.orderSizes, State.onOrder, List.map_map]
  refine List.map_congr_left fun o _ => ?_
  simp only [Function.comp_apply]
  split
  · rw [(h o).1, (h o).2]
  · rfl

theorem targetCounts_onTask (s : State) (tag : Nat) (f : Task → Task) (h : ∀ t, (f t).targets.length = t.targets.length) :
    (s.onTask tag f).targetCounts = s.targetCounts := by
  simp only [State.targetCounts, State.onTask, List.map_map]
  refine List.map_congr_left fun t _ => ?_
  simp only [Function.comp_apply]
  split
  · rw [h t]
  · rfl

theorem modifyAt_length {α : Type} (f : α → α) (i : Nat) (xs : List α) : (modifyAt f i xs).length = xs.length := by
  unfold modifyAt
  split <;> simp

theorem targetCounts_closeTarget (s : State) (tag : Nat) (a : SlotAddr) (o : TargetOutcome) :
    (s.closeTarget tag a o).targetCounts = s.targetCounts :=
  targetCounts_onTask _ _ _ fun _ => modifyAt_length ..

theorem tasks_of_lasting {s t : State} (h : s.lasting = t.lasting) : s.tasks = t.tasks := (congrArg State.tasks h :)

/-- A cancelled target is closed; the reactions leave the tasks as they are. -/
theorem cancelTarget_tasks (s : State) (tag : Nat) (x : Target) (c : CancelCause) :
    (s.cancelTarget tag x c).tasks = (s.closeTarget tag x.addr (.cancelled c)).tasks := by
  unfold State.cancelTarget
  dsimp only
  rw [tasks_of_lasting (lasting_recompute ..), tasks_of_lasting (lasting_removeEntry ..)]
  simp [State.closeTarget, State.onTask]

theorem targetCounts_cancelTarget (s : State) (tag : Nat) (x : Target) (c : CancelCause) :
    (s.cancelTarget tag x c).targetCounts = s.targetCounts := by
  rw [State.targetCounts, cancelTarget_tasks]
  exact targetCounts_closeTarget ..

/-- A created target is appended to those of its task; the reactions leave the tasks as they are. -/
theorem createTarget_tasks (s : State) (tag place batch : Nat) (c : Candidate) :
    (s.createTarget tag place batch c).tasks = (s.onTask tag fun t =>
      { t with targets := t.targets ++ [{ addr := c.addr, quantity := c.quantity, outcome := .opened }] }).tasks := by
  unfold State.createTarget
  dsimp only
  rw [tasks_of_lasting (lasting_joinEntry ..), tasks_of_lasting (lasting_gainWork ..)]
  simp

/-- The sizes of orders and the outfeed queues are left by put-away. -/
theorem orderSizes_of_counted {s t : State} (h : t.counted = s.counted) : t.orderSizes = s.orderSizes := by
  have orders : (t.orders.map Order.stored).map Order.unbound = (s.orders.map Order.stored).map Order.unbound :=
    (congrArg State.orders h :)
  have e := congrArg (List.map fun o : Order => (o.lines.length, o.priority)) orders
  simpa [State.orderSizes, Order.unbound, Order.stored, Function.comp_def] using e

theorem outfeeds_of_counted {s t : State} (h : t.counted = s.counted) : t.outfeeds = s.outfeeds := by
  have windows : t.windows.map Window.lasting = s.windows.map Window.lasting := (congrArg State.windows h :)
  have e := congrArg (List.map fun v : Window => v.outfeed) windows
  simpa [State.outfeeds, Window.lasting, Function.comp_def] using e

theorem recordsFit_cancelTarget {s : State} (tag : Nat) (x : Target) (c : CancelCause) (hs : s.recordsFit) :
    (s.cancelTarget tag x c).recordsFit := by
  refine recordsFit_of (by rw [orderSizes_of_counted (counted_cancelTarget ..)]) ?_ (outfeeds_of_counted (counted_cancelTarget ..)) hs
  rw [targetCounts_cancelTarget]
  exact List.Subset.refl _

theorem targetCounts_le {s : State} {bound : Nat} {more : Task → Nat} (h : ∀ t ∈ s.tasks, t.targets.length + more t ≤ bound) :
    ∀ n ∈ s.targetCounts, n ≤ bound := fun n hn => by
  obtain ⟨t, ht, rfl⟩ := List.mem_map.mp hn
  exact (Nat.le_add_right ..).trans (h t ht)

/-- Each of the choices of a PUTAWAY gives the task one target more. -/
theorem targetCounts_allocatePut {s : State} (tag place batch : Nat) (art : Article) (pref : Option Nat) (left rem bound : Nat)
    (h : ∀ t ∈ s.tasks, t.targets.length + (if t.tag = tag then left else 0) ≤ bound) :
    ∀ n ∈ (s.allocatePut tag place batch art pref left rem).targetCounts, n ≤ bound := by
  induction left generalizing s rem with
  | zero => exact targetCounts_le h
  | succ left ih =>
    unfold State.allocatePut
    split
    · exact targetCounts_le h
    · split
      · exact targetCounts_le h
      · next c _ =>
        have grown : ∀ t ∈ (s.createTarget tag place batch c).tasks, t.targets.length + (if t.tag = tag then left else 0) ≤ bound := by
          rw [createTarget_tasks]
          intro t ht
          obtain ⟨u, hu, rfl⟩ := List.mem_map.mp ht
          have := h u hu
          split
          · next e =>
            simp only [e, if_true, List.length_append, List.length_singleton] at this ⊢
            omega
          · next e =>
            simp only [e, if_false] at this ⊢
            exact this
        exact ih _ grown

theorem recordsFit_endTask {s : State} (tag : Nat) (hs : s.recordsFit) : (s.endTask tag).recordsFit := by
  refine recordsFit_of (by rw [orderSizes_of_counted (counted_endTask ..)]) ?_ (outfeeds_of_counted (counted_endTask ..)) hs
  unfold State.endTask
  split
  · split
    · exact List.Subset.refl _
    · intro n hn
      obtain ⟨t, ht, rfl⟩ := List.mem_map.mp hn
      rw [State.notify_tasks] at ht
      exact List.mem_map_of_mem (List.mem_filter.mp ht).1
  · exact List.Subset.refl _

/-- Cancelling picks and targets on a slot, and the ends of tasks that follow, change no size. -/
theorem recordsFit_clearReservations {s : State} (a : SlotAddr) (hs : s.recordsFit) : (s.clearReservations a).recordsFit := by
  have picks : ∀ (ps : List Pick) {s : State}, s.recordsFit → (ps.foldl (fun s p => s.cancelPick p) s).recordsFit := fun ps s hs =>
    recordsFit_of_unbound (unbound_of_stored (stored_foldl _ (fun s p => stored_cancelPick s p) ps s)).symm hs
  have targets : ∀ (qs : List (Nat × Target)) {s : State}, s.recordsFit →
      (qs.foldl (fun s q => (s.cancelTarget q.1 q.2 .quarantine).endTask q.1) s).recordsFit := fun qs => by
    induction qs with
    | nil => exact fun hs => hs
    | cons q qs ih => exact fun hs => ih (recordsFit_endTask _ (recordsFit_cancelTarget _ _ _ hs))
  exact targets _ (picks _ hs)

theorem recordsFit_of_same {s t : State} (hs : s.recordsFit) (orders : t.orderSizes = s.orderSizes)
    (tasks : t.targetCounts = s.targetCounts) (outfeeds : t.outfeeds = s.outfeeds) : t.recordsFit :=
  recordsFit_of (orders ▸ List.Sublist.refl _) (tasks ▸ List.Subset.refl _) outfeeds hs

theorem recordsFit_updateSlot {s : State} (a : SlotAddr) (f : Slot → Slot) (hs : s.recordsFit) : (s.updateSlot a f).recordsFit :=
  recordsFit_of_same hs (by simp [State.orderSizes]) (by simp [State.targetCounts]) (by simp [State.outfeeds])

theorem recordsFit_writeSlot {s : State} (a : SlotAddr) (x : Slot) (hs : s.recordsFit) : (s.writeSlot a x).recordsFit :=
  recordsFit_of_same hs (by simp [State.orderSizes]) (by simp [State.targetCounts]) (by simp [State.outfeeds])

theorem recordsFit_onOrder {s : State} (tag : Nat) (f : Order → Order)
    (h : ∀ o, (f o).priority = o.priority ∧ (f o).lines.length = o.lines.length) (hs : s.recordsFit) : (s.onOrder tag f).recordsFit :=
  recordsFit_of_same hs (orderSizes_onOrder s tag f h) rfl rfl

theorem recordsFit_newOrder {s : State} (tag priority : Nat) (lines : List (Nat × Nat)) (q : List Nat)
    (room : s.lineCount + lines.length ≤ Config.linePool) (hs : s.recordsFit) :
    ({ s with orders := s.orders ++ [s.newOrder tag priority lines], submission := q } : State).recordsFit := by
  obtain ⟨-, targets, items, priorities⟩ := hs
  refine ⟨?_, targets, items, fun o ho => ?_⟩
  · simpa [State.lineCount, total_eq_sum, State.newOrder] using room
  · rcases List.mem_append.mp ho with old | new
    · exact priorities o old
    · rw [List.mem_singleton.mp new]
      exact min_le_right ..

theorem recordsFit_onWindow {s : State} (w : Nat) (f : Window → Window)
    (h : (s.window w).outfeed.length ≤ Config.outfeedPlaces → (f (s.window w)).outfeed.length ≤ Config.outfeedPlaces)
    (hs : s.recordsFit) : (s.onWindow w f).recordsFit := by
  obtain ⟨lines, targets, items, priorities⟩ := hs
  refine ⟨lines, targets, fun v hv => ?_, priorities⟩
  rcases List.mem_or_eq_of_mem_set hv with old | rfl
  · exact items v old
  · refine h ?_
    unfold State.window
    rw [List.getD_eq_getElem?_getD]
    cases hw : s.windows[w]? with
    | none => exact Nat.zero_le _
    | some v => exact items v (List.mem_of_getElem? hw)

theorem outfeeds_mapIdx (s : State) (f : Nat → Window → Window) (h : ∀ w v, (f w v).outfeed = v.outfeed) :
    ({ s with windows := s.windows.mapIdx f } : State).outfeeds = s.outfeeds := by
  refine List.ext_getElem? fun w => ?_
  simp [State.outfeeds, h, Function.comp_def]

theorem keeps_recordsFit : Keeps State.recordsFit where
  quiet := fun hq hs =>
    recordsFit_of_same hs (by simp [State.orderSizes, hq.orders]) (by simp [State.targetCounts, hq.tasks]) hq.outfeeds
  order := fun tag f h hs => recordsFit_onOrder tag f (fun o => (h o).2) hs
  newPick := fun _ _ _ _ hs => recordsFit_updateSlot _ _ hs
  cancelOrderPicks := fun tag hs => recordsFit_of_unbound (unbound_of_stored (stored_cancelOrderPicks _ tag)).symm hs
  freedOrder := fun {s} _ _ _ hs =>
    recordsFit_of (s := s) (List.filter_sublist.map _) (List.Subset.refl _) rfl hs
  newOrder := fun tag priority lines q _ _ room hs => recordsFit_newOrder tag priority lines q room hs
  newTask := fun {s code place art} task batch quantity pref _ _ fresh _ hs => by
    have counted : (s.allocateTask task place art batch quantity pref).counted = s.counted := counted_allocatePut ..
    rw [recordsFit_iff, orderSizes_of_counted counted, outfeeds_of_counted counted]
    obtain ⟨lines, targets, items, priorities⟩ := (recordsFit_iff s).mp hs
    refine ⟨lines, targetCounts_allocatePut _ _ _ _ _ _ _ _ fun t ht => ?_, items, priorities⟩
    rcases List.mem_append.mp ht with old | new
    · have other : t.tag ≠ task := fun e => by
        simpa [e] using List.find?_eq_none.mp fresh t old
      rw [if_neg other]
      exact targets _ (List.mem_map_of_mem old)
    · rw [List.mem_singleton.mp new]
      simp
  task := fun tag f h hs => recordsFit_of_same hs rfl (targetCounts_onTask _ tag f fun t => by rw [(h t).2]) rfl
  endedTask := fun {s tag _} _ _ hs =>
    recordsFit_of (s := s) (List.Sublist.refl _) (List.filter_sublist.map _).subset rfl hs
  cancelTargets := fun _ hs => Blocks.foldl _ (fun _ _ hs => recordsFit_cancelTarget _ _ _ hs) _ hs
  confirmTarget := fun {s tag q a t x} _ _ _ hs =>
    recordsFit_of_same (recordsFit_updateSlot a (fun slot => slot.placed q x.quantity) hs) rfl (targetCounts_closeTarget ..) rfl
  quarantine := fun a _ _ hs => recordsFit_updateSlot _ _ (recordsFit_clearReservations a hs)
  takePick := fun _ _ hs => recordsFit_onOrder _ _ (fun o => ⟨rfl, onLine_length ..⟩) (recordsFit_updateSlot _ _ hs)
  items := fun {s w q} p room hs => recordsFit_onWindow w _ (fun h => by
    simp only [Window.freePlaces] at room
    simp only [List.length_append, List.length_replicate]
    omega) hs
  delivered := fun w hs => recordsFit_onWindow w _ (fun h => by
    simp only [List.length_tail]
    omega) hs
  discrepancies := fun _ _ hs => hs
  relabel := fun _ _ _ _ hs => recordsFit_updateSlot _ _ hs
  restore := fun _ _ hs => recordsFit_writeSlot _ _ hs
  load := fun _ _ _ _ hs => recordsFit_writeSlot _ _ hs
  withdraw := fun _ _ _ _ hs => recordsFit_writeSlot _ _ hs
  edit := fun _ _ _ _ hs => recordsFit_writeSlot _ _ hs
  resolve := fun _ _ _ _ hs => recordsFit_writeSlot _ _ hs
  settings := fun _ _ _ hs => hs
  rewriteArticle := fun _ _ _ hs => hs
  addArticle := fun _ _ _ hs => hs
  removeArticle := fun _ _ hs => hs
  geometry := fun _ _ _ _ _ hs => hs
  limit := fun k limit stepTime hs => recordsFit_of_same hs (by simp [State.orderSizes, State.writeLimit])
    (by simp [State.targetCounts, State.writeLimit]) (by simp [State.outfeeds, State.writeLimit])
  unassign := fun _ hs => recordsFit_onWindow _ _ (fun _ => Nat.zero_le _) hs
  assign := fun {s w} a _ hs => by
    unfold State.assignWindow
    split
    · exact recordsFit_onWindow _ _ (fun _ => Nat.zero_le _) hs
    · exact recordsFit_onWindow _ _ (fun _ => Nat.zero_le _) (show State.recordsFit { s with draws := s.draws + 1 } from hs)
  mode := fun _ _ hs => hs
  atStart := fun hs => recordsFit_of_same hs rfl rfl (outfeeds_mapIdx _ _ fun w v => by
    unfold Window.atStart
    split <;> rfl)
  ranks := fun _ hs => recordsFit_of_same hs rfl rfl (outfeeds_mapIdx _ _ fun _ _ => rfl)

theorem recordsFit_reset {s : State} (straps : BitVec 2) : (s.performReset straps).recordsFit := by
  refine ⟨Nat.zero_le _, fun t ht => absurd ht List.not_mem_nil, fun v hv => ?_, fun o ho => absurd ho List.not_mem_nil⟩
  rw [List.eq_of_mem_replicate hv]
  exact Nat.zero_le _

theorem poolsFit_iff (s : State) : s.poolsFit ↔ s.placesFit ∧ s.noticesFit := by
  simp [State.poolsFit, State.placesFit, State.noticesFit, and_assoc]

theorem placesFit_reset {s : State} (straps : BitVec 2) : (s.performReset straps).placesFit := by
  refine ⟨?_, ?_, ?_, ?_, ?_⟩ <;> exact Nat.zero_le _

/-- After reset no carousel is configured (R196). -/
theorem carousel?_reset (s : State) (straps : BitVec 2) (k : Nat) : (s.performReset straps).carousel? k = none := by
  show (List.replicate 4 none).getD k none = none
  rw [List.getD_eq_getElem?_getD, List.getElem?_replicate]
  split <;> rfl

theorem figuresExact_reset {s : State} (straps : BitVec 2) : (s.performReset straps).figuresExact := by
  intro k c hc
  rw [carousel?_reset] at hc
  cases hc

theorem lineOps_noticesFit : LineOps State.noticesFit where
  take := fun _ _ hs => hs
  arrive := fun {s} f hs => by
    unfold State.arrive
    split <;> exact hs
  formReply := fun r b hs => (quiet_formReply _ r b).notices hs
  awaitExchange := fun _ hs => hs
  transmit := fun hs => noticesFit_transmit hs
  receiver := fun _ hs => hs
  replySent := fun hs => hs
  noticeSent := fun hs => hs

theorem step_noticesFit {s t : State} (hs : s.noticesFit) (h : step s = .next t) : t.noticesFit :=
  step_keeps (fun i hs => after_keeps lineOps_noticesFit keeps_noticesFit.owners (fun i hs => keeps_noticesFit.event i hs)
    (fun _ hs => hs) (fun _ _ => Nat.zero_le _) (fun hs => hs) i hs) (fun _ hs => hs) (fun _ hs => hs) hs h

theorem lineOps_recordsFit : LineOps State.recordsFit :=
  LineKeeps.lineOps (fun _ _ _ hs => hs) fun {s} f hs => by
    unfold State.arrive
    split <;> exact hs

theorem step_recordsFit {s t : State} (hs : s.recordsFit) (h : step s = .next t) : t.recordsFit :=
  step_keeps (fun i hs => after_keeps lineOps_recordsFit keeps_recordsFit.owners (fun i hs => keeps_recordsFit.event i hs)
    (fun _ hs => hs) (fun straps _ => recordsFit_reset straps) (fun hs => hs) i hs) (fun _ hs => hs) (fun _ hs => hs) hs h

/-- Settles O7. -/
theorem everyStepKeepsThePoolsInBounds : Obligations.EveryStepKeepsThePoolsInBounds := by
  refine ⟨fun s t hs h => ?pools, fun s t => step_recordsFit⟩
  obtain ⟨places, notices⟩ := (poolsFit_iff s).mp hs
  exact (poolsFit_iff t).mpr ⟨kept_placesFit.step keeps_placesFit (fun straps _ => placesFit_reset straps) places h,
    step_noticesFit notices h⟩

/-- Settles O8. -/
theorem everyStepKeepsTheBalanceFiguresExact : Obligations.EveryStepKeepsTheBalanceFiguresExact := fun _ _ hs h =>
  kept_figuresExact.step keeps_figuresExact (fun straps _ => figuresExact_reset straps) hs h

end Sys2Proof.Machine
end

section
/-! PROOFS. The slot directory under its operations: which records a write of a slot changes, and that the directory agrees with the
article table and the balance figures after every step (R7, R11, R26, R30). -/

namespace Sys2Proof.Machine

/-! ### One write of a slot record -/

theorem modifyAt_id {α : Type} {f : α → α} (h : ∀ x, f x = x) (i : Nat) (xs : List α) : modifyAt f i xs = xs := by
  unfold modifyAt
  split
  · next x hx =>
    obtain ⟨hi, rfl⟩ := List.getElem?_eq_some_iff.mp hx
    rw [h, List.set_getElem_self]
  · rfl

/-- A share replaced by an equal one leaves the carrier loads as they are. -/
theorem replace_same (f : Figures) (i : Nat) (l : Nat × Nat) :
    (f.replace i l l).committed = f.committed ∧ (f.replace i l l).onHand = f.onHand :=
  ⟨modifyAt_id (fun _ => Nat.add_sub_cancel ..) _ _, modifyAt_id (fun _ => Nat.add_sub_cancel ..) _ _⟩

theorem carousel?_notify (s : State) (n : Notice) (k : Nat) : (s.notify n).carousel? k = s.carousel? k := by
  rw [State.carousel?, State.notify_carousels, State.carousel?]

/-- Judging BALANCE_OVER changes of its carousel only that flag. -/
theorem carousel?_judgeOver {s : State} {k : Nat} {c : Carousel} (hc : s.carousel? k = some c) :
    ∃ b, (s.judgeOver k).carousel? k = some { c with figures := { c.figures with overLimit := b } } := by
  unfold State.judgeOver
  simp only [hc]
  split
  · exact ⟨c.figures.overLimit, hc⟩
  · exact ⟨c.figures.isOver, (carousel?_notify ..).trans (carousel?_set hc _)⟩

theorem carousel?_setCarousel_other (s : State) {k j : Nat} (h : j ≠ k) (c : Carousel) :
    (s.setCarousel k c).carousel? j = s.carousel? j := by
  rw [carousel?_setCarousel, if_neg fun e => h e.1.symm]

theorem carousel?_judgeOver_other (s : State) {k j : Nat} (h : j ≠ k) : (s.judgeOver k).carousel? j = s.carousel? j := by
  unfold State.judgeOver
  split
  · dsimp only
    split
    · rfl
    · exact (carousel?_notify ..).trans (carousel?_setCarousel_other s h _)
  · rfl

/-- A write of a slot record changes the directory there, and the loads of its carrier by what the slot's loads change. -/
theorem carousel?_writeSlot {s : State} {a : SlotAddr} {x : Slot} {c : Carousel} (hx : s.slot? a = some x)
    (hc : s.carousel? a.carousel = some c) (new : Slot) : ∃ d, (s.writeSlot a new).carousel? a.carousel = some d ∧
      d.geometry = c.geometry ∧ d.slots = c.slots.set (c.geometry.index a.carrier a.slot) new ∧
      d.figures.committed = (c.figures.replace a.carrier (s.loads x) (s.loads new)).committed ∧
      d.figures.onHand = (c.figures.replace a.carrier (s.loads x) (s.loads new)).onHand := by
  unfold State.writeSlot
  simp only [hc, hx]
  split
  · next same =>
    refine ⟨_, carousel?_set hc _, rfl, rfl, ?_, ?_⟩
    · rw [same]
      exact (replace_same ..).1.symm
    · rw [same]
      exact (replace_same ..).2.symm
  · obtain ⟨b, h⟩ := carousel?_judgeOver (carousel?_set hc { c with
      slots := c.slots.set (c.geometry.index a.carrier a.slot) new,
      figures := c.figures.replace a.carrier (s.loads x) (s.loads new) })
    exact ⟨_, h, rfl, rfl, rfl, rfl⟩

theorem carousel?_writeSlot_other (s : State) {a : SlotAddr} {k : Nat} (hk : k ≠ a.carousel) (new : Slot) :
    (s.writeSlot a new).carousel? k = s.carousel? k := by
  unfold State.writeSlot
  split
  · dsimp only
    split
    · exact carousel?_setCarousel_other s hk _
    · exact (carousel?_judgeOver_other _ hk).trans (carousel?_setCarousel_other s hk _)
  · rfl

/-- Slot records stand apart: different positions of a carousel have different indices. -/
theorem index_inj {g : Geometry} {i j i' j' : Nat} (hj : j < g.s) (hj' : j' < g.s) (h : g.index i j = g.index i' j') :
    i = i' ∧ j = j' := by
  unfold Geometry.index at h
  have carrier : i = i' := by
    have e := congrArg (· / g.s) h
    simp only [Nat.mul_comm _ g.s] at e
    rwa [Nat.mul_add_div (by omega), Nat.mul_add_div (by omega), Nat.div_eq_of_lt hj, Nat.div_eq_of_lt hj'] at e
  subst carrier
  exact ⟨rfl, by omega⟩

theorem slot?_of_carousel {s : State} {a : SlotAddr} {c : Carousel} (h : s.carousel? a.carousel = some c) :
    s.slot? a = if a.carrier < c.geometry.n ∧ a.slot < c.geometry.s then c.slots[c.geometry.index a.carrier a.slot]? else none := by
  unfold State.slot?
  rw [h]

/-- A write of a slot record leaves every other record as it was. -/
theorem slot?_writeSlot_other {s : State} {a b : SlotAddr} (hb : b ≠ a) (new : Slot) : (s.writeSlot a new).slot? b = s.slot? b := by
  cases hx : s.slot? a with
  | none =>
    unfold State.writeSlot
    simp [hx]
  | some x =>
    obtain ⟨c, hc, hi, hj, -⟩ := slot?_eq hx
    by_cases hk : b.carousel = a.carousel
    · obtain ⟨d, hd, geometry, slots, -⟩ := carousel?_writeSlot hx hc new
      rw [slot?_of_carousel (hk ▸ hd), slot?_of_carousel (hk ▸ hc), geometry, slots]
      split
      · next hin =>
        refine List.getElem?_set_ne fun e => hb ?_
        obtain ⟨carrier, slot⟩ := index_inj hj hin.2 e
        cases a; cases b
        simp_all
      · rfl
    · unfold State.slot?
      rw [carousel?_writeSlot_other s hk]

end Sys2Proof.Machine
end

section
/-! PROOFS. The slot directory agrees with the article table and with the balance figures (R7, R11, R26, R30): a write of a slot
record replaces its share of its carrier's loads, and what it is to hold has been found in the table and fits. -/

namespace Sys2Proof.Machine

/-! ### One carousel -/

/-- What a slot holds is an article of the table that fits its width class (R11). -/
def State.holds (s : State) (width : Nat) (h : Holding) : Prop := ∃ a, s.articleAt h.place = some a ∧ a.sizeClass ≤ width

/-- The directory of one carousel agrees with the article table of `s` and with the carousel's carrier loads. -/
def Carousel.weighed (s : State) (c : Carousel) : Prop :=
  c.slots.length = c.geometry.n * c.geometry.s ∧
    c.figures.committed = (List.range c.geometry.n).map (fun i => total ((c.carrierSlots i).map fun x => (s.loads x).1)) ∧
    c.figures.onHand = (List.range c.geometry.n).map (fun i => total ((c.carrierSlots i).map fun x => (s.loads x).2)) ∧
    ∀ i j x h, i < c.geometry.n → j < c.geometry.s → c.slots[c.geometry.index i j]? = some x → x.held = some h →
      s.holds (c.geometry.widthClass j) h

theorem directoryWeighed_iff (s : State) :
    s.directoryWeighed ↔ s.articlesSound ∧ ∀ k c, s.carousel? k = some c → c.weighed s := by
  unfold State.directoryWeighed Carousel.weighed
  refine and_congr_right fun _ => forall_congr' fun k => forall_congr' fun c => forall_congr' fun hc => ?_
  refine and_congr_right fun _ => and_congr_right fun _ => and_congr_right fun _ => ?_
  refine ⟨fun h i j x hold hi hj hx => h i j x hold ?_, fun h i j x hold hx => ?_⟩
  · rw [slot?_of_carousel (a := ⟨k, i, j⟩) hc, if_pos ⟨hi, hj⟩]
    exact hx
  · obtain ⟨d, hd, hi, hj, hx'⟩ := slot?_eq hx
    have same : d = c := Option.some.inj (hd.symm.trans hc)
    subst same
    exact h i j x hold hi hj hx'

theorem loads_of_articles {s t : State} (h : t.articles = s.articles) (x : Slot) : t.loads x = s.loads x := by
  unfold State.loads State.weightOf State.weightAt State.articleAt
  rw [h]

/-- The part of a carousel and of the article table that `Carousel.weighed` speaks of. -/
theorem weighed_of_same {s t : State} {c d : Carousel} (articles : t.articles = s.articles) (geometry : d.geometry = c.geometry)
    (slots : d.slots = c.slots) (committed : d.figures.committed = c.figures.committed) (onHand : d.figures.onHand = c.figures.onHand)
    (hc : c.weighed s) : d.weighed t := by
  have loads : t.loads = s.loads := funext fun x => loads_of_articles articles x
  have carriers : ∀ i, d.carrierSlots i = c.carrierSlots i := fun i => by rw [Carousel.carrierSlots, slots, geometry, Carousel.carrierSlots]
  obtain ⟨length, hcommitted, hOnHand, held⟩ := hc
  refine ⟨by rw [slots, geometry, length], ?_, ?_, ?_⟩
  · simp only [committed, hcommitted, carriers, geometry, loads]
  · simp only [onHand, hOnHand, carriers, geometry, loads]
  · rw [slots, geometry]
    intro i j x h hi hj hx hh
    obtain ⟨a, ha, fits⟩ := held i j x h hi hj hx hh
    exact ⟨a, by rwa [State.articleAt, articles], fits⟩

/-! ### Sums of loads -/

theorem sum_set (xs : List Nat) (j y z : Nat) (h : xs[j]? = some y) : (xs.set j z).sum + y = xs.sum + z := by
  induction xs generalizing j with
  | nil => simp at h
  | cons x xs ih =>
    cases j with
    | zero =>
      simp only [List.getElem?_cons_zero, Option.some.injEq] at h
      simp only [List.set_cons_zero, List.sum_cons, h]
      omega
    | succ j =>
      have := ih j (by simpa using h)
      simp only [List.set_cons_succ, List.sum_cons]
      omega

theorem carrierSlots_get (c : Carousel) {i j : Nat} (hj : j < c.geometry.s) :
    (c.carrierSlots i)[j]? = c.slots[c.geometry.index i j]? := by
  simp [Carousel.carrierSlots, Geometry.index, hj]

/-- A carousel with one slot record and the figures written. -/
def Carousel.withSlot (c : Carousel) (i j : Nat) (new : Slot) (f : Figures) : Carousel :=
  { c with slots := c.slots.set (c.geometry.index i j) new, figures := f }

/-- A slot record written stands on its own carrier. -/
theorem carrierSlots_set (c : Carousel) {i j : Nat} (hj : j < c.geometry.s) (f : Figures) (new : Slot) (i' : Nat) :
    (c.withSlot i j new f).carrierSlots i' =
      if i' = i then (c.carrierSlots i).set j new else c.carrierSlots i' := by
  unfold Carousel.withSlot Carousel.carrierSlots Geometry.index
  simp only [List.drop_set, apply_ite (List.take c.geometry.s), List.take_set]
  rcases lt_trichotomy i' i with lower | same | higher
  · have beyond : c.geometry.s ≤ i * c.geometry.s + j - i' * c.geometry.s := by
      have := Nat.mul_le_mul_right c.geometry.s (Nat.succ_le_of_lt lower)
      rw [Nat.succ_mul] at this
      omega
    have short : ((c.slots.drop (i' * c.geometry.s)).take c.geometry.s).length ≤ i * c.geometry.s + j - i' * c.geometry.s :=
      (List.length_take_le ..).trans beyond
    rw [List.set_eq_of_length_le short, ite_self, if_neg lower.ne]
  · subst same
    rw [if_neg (by omega), if_pos rfl, Nat.add_sub_cancel_left]
  · have before : i * c.geometry.s + j < i' * c.geometry.s := by
      have := Nat.mul_le_mul_right c.geometry.s (Nat.succ_le_of_lt higher)
      rw [Nat.succ_mul] at this
      omega
    rw [if_pos before, if_neg higher.ne']

/-- The sums over the carriers with one slot's share replaced (R30). -/
theorem loads_replace {c : Carousel} {i j : Nat} {x : Slot} (load : Slot → Nat) (f : Figures) (new : Slot) (hi : i < c.geometry.n)
    (hj : j < c.geometry.s) (hx : c.slots[c.geometry.index i j]? = some x) :
    modifyAt (fun l => l + load new - load x) i ((List.range c.geometry.n).map fun i => total ((c.carrierSlots i).map load)) =
      (List.range c.geometry.n).map fun i' => total (((c.withSlot i j new f).carrierSlots i').map load) := by
  have shared : total (((c.carrierSlots i).map load).set j (load new)) = total ((c.carrierSlots i).map load) + load new - load x := by
    have h := sum_set ((c.carrierSlots i).map load) j (load x) (load new) (by
      rw [List.getElem?_map, carrierSlots_get c hj, hx]
      rfl)
    rw [total_eq_sum, total_eq_sum]
    omega
  unfold modifyAt
  rw [List.getElem?_map, List.getElem?_range hi]
  refine List.ext_getElem? fun m => ?_
  simp only [Option.map_some, List.getElem?_set, List.getElem?_map, List.length_map, List.length_range, carrierSlots_set c hj]
  by_cases hm : m < c.geometry.n
  · rw [List.getElem?_range hm]
    by_cases e : i = m
    · subst e
      simp [hm, shared]
    · simp [e, Ne.symm e]
  · rw [List.getElem?_eq_none (by simpa using hm)]
    by_cases e : i = m
    · subst e
      exact absurd hi hm
    · simp [e]

/-- A slot record written, what it holds being in the table and fitting, the directory of its carousel agrees. -/
theorem weighed_set {s : State} {c : Carousel} {i j : Nat} {x new : Slot} (hi : i < c.geometry.n) (hj : j < c.geometry.s)
    (hx : c.slots[c.geometry.index i j]? = some x) (fits : ∀ h, new.held = some h → s.holds (c.geometry.widthClass j) h)
    (hc : c.weighed s) : (c.withSlot i j new (c.figures.replace i (s.loads x) (s.loads new))).weighed s := by
  obtain ⟨length, committed, onHand, held⟩ := hc
  refine ⟨(List.length_set ..).trans length, ?_, ?_, fun i' j' y h hi' hj' hy hh => ?_⟩
  · show modifyAt _ i c.figures.committed = _
    rw [committed]
    exact loads_replace (fun x => (s.loads x).1) _ new hi hj hx
  · show modifyAt _ i c.figures.onHand = _
    rw [onHand]
    exact loads_replace (fun x => (s.loads x).2) _ new hi hj hx
  · replace hy : (c.slots.set (c.geometry.index i j) new)[c.geometry.index i' j']? = some y := hy
    rw [List.getElem?_set] at hy
    split at hy
    · next e =>
      obtain ⟨-, rfl⟩ := index_inj hj hj' e
      split at hy
      · cases hy
        exact fits h hh
      · cases hy
    · exact held i' j' y h hi' hj' hy hh

/-! ### Writes -/

theorem holds_of_articles {s t : State} (e : t.articles = s.articles) {width : Nat} {h : Holding} (hs : s.holds width h) :
    t.holds width h := by
  obtain ⟨a, ha, fits⟩ := hs
  exact ⟨a, by rwa [State.articleAt, e], fits⟩

theorem articlesSound_of_articles {s t : State} (e : t.articles = s.articles) (hs : s.articlesSound) : t.articlesSound := by
  rwa [State.articlesSound, e]

/-- A write of a slot record keeps the directory weighed, if what the slot is to hold is in the table and fits. -/
theorem weighed_writeSlot {s : State} {a : SlotAddr} {x new : Slot} (hx : s.slot? a = some x)
    (fits : ∀ h, new.held = some h → s.holds ((s.geometryOf a).widthClass a.slot) h) (hs : s.directoryWeighed) :
    (s.writeSlot a new).directoryWeighed := by
  obtain ⟨c, hc, hi, hj, hslot⟩ := slot?_eq hx
  have geometry : s.geometryOf a = c.geometry := by rw [State.geometryOf, hc]
  rw [directoryWeighed_iff] at hs ⊢
  obtain ⟨articles, carousels⟩ := hs
  have table : (s.writeSlot a new).articles = s.articles := State.writeSlot_articles ..
  refine ⟨articlesSound_of_articles table articles, fun k d hd => ?_⟩
  by_cases hk : k = a.carousel
  · subst hk
    obtain ⟨d', hd', g, slots, committed, onHand⟩ := carousel?_writeSlot hx hc new
    have same : d' = d := Option.some.inj (hd'.symm.trans hd)
    subst same
    have written := weighed_set hi hj hslot (geometry ▸ fits) (carousels _ c hc)
    exact weighed_of_same (c := c.withSlot _ _ _ _) table g slots committed onHand written
  · rw [carousel?_writeSlot_other s hk] at hd
    exact weighed_of_same table rfl rfl rfl rfl (carousels k d hd)

/-- What a slot holds is in the table and fits the slot. -/
theorem weighed_holds {s : State} (hs : s.directoryWeighed) {a : SlotAddr} {x : Slot} {h : Holding} (hx : s.slot? a = some x)
    (hh : x.held = some h) : s.holds ((s.geometryOf a).widthClass a.slot) h := by
  obtain ⟨c, hc, hi, hj, hslot⟩ := slot?_eq hx
  rw [State.geometryOf, hc]
  exact (((directoryWeighed_iff s).mp hs).2 _ c hc).2.2.2 _ _ x h hi hj hslot hh

/-- A change of a slot record that keeps what the slot holds, or takes it away, keeps the directory weighed. -/
theorem weighed_updateSlot {s : State} (a : SlotAddr) {f : Slot → Slot} (tame : ∀ x h, (f x).held = some h → x.held = some h)
    (hs : s.directoryWeighed) : (s.updateSlot a f).directoryWeighed := by
  unfold State.updateSlot
  split
  · next x hx => exact weighed_writeSlot hx (fun h hh => weighed_holds hs hx (tame x h hh)) hs
  · exact hs

theorem tame_settled {x : Slot} {h : Holding} (hh : x.settled.held = some h) : x.held = some h := by
  unfold Slot.settled at hh
  split at hh
  · cases hh
  · exact hh

theorem tame_taken (q n : Nat) (x : Slot) (h : Holding) (hh : (x.taken q n).held = some h) : x.held = some h :=
  tame_settled (x := { x with onHand := x.onHand - q, reserved := x.reserved - n }) hh

theorem tame_placed (q n : Nat) (x : Slot) (h : Holding) (hh : (x.placed q n).held = some h) : x.held = some h :=
  tame_settled (x := { x with onHand := x.onHand + q, pending := x.pending - n }) hh

theorem tame_restored (x : Slot) (h : Holding) (hh : x.restored.held = some h) : x.held = some h := by
  unfold Slot.restored at hh
  split at hh
  · exact hh
  · cases hh

theorem tame_withContents {x : Slot} {held : Option Holding} {n : Nat} {h : Holding} (hh : (x.withContents held n).held = some h) :
    held = some h := by
  unfold Slot.withContents at hh
  dsimp only at hh
  split at hh
  · cases hh
  · exact hh

theorem tame_loaded {held : Option Holding} {n : Nat} {h : Holding} (hh : (Slot.loaded held n).held = some h) : held = some h := by
  unfold Slot.loaded at hh
  split at hh
  · cases hh
  · exact hh

/-! ### What is found in the table -/

/-- In a sound table a record is found at its place. -/
theorem articleAt_of_mem {s : State} (hs : s.articlesSound) {place : Nat} {a : Article} (h : (place, a) ∈ s.articles) :
    s.articleAt place = some a := by
  unfold State.articleAt
  cases found : s.articles.find? fun p => p.1 == place with
  | none => simpa using List.find?_eq_none.mp found _ h
  | some q =>
    have at' : q.1 = place := by simpa using List.find?_some found
    rw [articlesSound_unique hs (List.mem_of_find?_eq_some found) h at']
    rfl

/-- The article of a code stands at its place (R1). -/
theorem articleAt_of_articleOf {s : State} (hs : s.articlesSound) {code place : Nat} {a : Article}
    (h : s.articleOf code = some (place, a)) : s.articleAt place = some a :=
  articleAt_of_mem hs (articleOf_some h).1

/-- What the checks of a request that writes a slot let through fits the slot (R17). -/
theorem holds_of_contentChecks {s : State} (hs : s.articlesSound) {a : SlotAddr} {code batch n : Nat} {held : Option Holding} {h : Holding}
    (hc : s.contentChecks a code batch n = .ok held) (hh : held = some h) : s.holds ((s.geometryOf a).widthClass a.slot) h := by
  subst hh
  unfold State.contentChecks at hc
  split at hc
  · split at hc <;> cases hc
  · split at hc
    · cases hc
    · next place art ha =>
      split at hc
      · cases hc
      · next fits =>
        cases hc
        exact ⟨art, articleAt_of_articleOf hs ha, not_lt.mp fun lt => fits (.inl lt)⟩

/-- A granted candidate is offered by its slot. -/
theorem putCandidates_offer {s : State} {place batch : Nat} {art : Article} {pref : Option Nat} {remaining : Nat} {t : Tier}
    {c : Candidate} (h : c ∈ s.putCandidates place batch art pref remaining t) : ∃ x, s.slot? c.addr = some x ∧
      0 < c.quantity ∧ c.quantity = s.putOffer place batch art pref remaining t c.addr x := by
  obtain ⟨a, -, h⟩ := List.mem_filterMap.mp h
  split at h
  · next x r hx hr =>
    dsimp only at h
    split at h
    · next ok =>
      cases h
      exact ⟨x, hx, ok.1, rfl⟩
    · cases h
  · cases h

theorem leastBy_mem {α : Type} {before : α → α → Bool} {xs : List α} {x : α} (h : leastBy before xs = some x) : x ∈ xs := by
  cases xs with
  | nil => cases h
  | cons y ys =>
    have found : ∀ (zs : List α) (b : α), zs.foldl (fun best y => if before y best then y else best) b ∈ b :: zs := fun zs => by
      induction zs with
      | nil => simp
      | cons z zs ih =>
        intro b
        rcases List.mem_cons.mp (ih (if before z b then z else b)) with e | later
        · rw [List.foldl_cons, e]
          split <;> simp
        · exact List.mem_cons_of_mem _ (List.mem_cons_of_mem _ later)
    cases h
    exact found ys y

/-- The chosen put-away slot offers the quantity, in one of the tiers of the article's size class (R44). -/
theorem choosePut_offer {s : State} {place batch : Nat} {art : Article} {pref : Option Nat} {remaining : Nat} {c : Candidate}
    (h : s.choosePut place batch art pref remaining = some c) : ∃ t ∈ tiers art.sizeClass, ∃ x, s.slot? c.addr = some x ∧
      0 < c.quantity ∧ c.quantity = s.putOffer place batch art pref remaining t c.addr x := by
  obtain ⟨t, ht, hc⟩ := List.exists_of_findSome?_eq_some h
  exact ⟨t, ht, putCandidates_offer (leastBy_mem hc)⟩

/-- Every tier of free slots is as wide as the article at least (R45). -/
theorem tiers_width {cls : Nat} {t : Tier} (h : t ∈ tiers cls) (free : t.topUp = false) : cls ≤ t.width := by
  simp only [tiers, List.mem_append, List.mem_cons, List.not_mem_nil, or_false, List.mem_flatMap] at h
  rcases h with (rfl | rfl) | ⟨d, -, rfl | rfl⟩
  · cases free
  · cases free
  · exact Nat.le_add_right ..
  · exact Nat.le_add_right ..

/-- What a put-away offers a slot: the slot is STOCKED with the article and has the room, or it is FREE and fits (R45, R46). -/
theorem putOffer_cases {s : State} {place batch : Nat} {art : Article} {pref : Option Nat} {remaining q : Nat} {t : Tier} {a : SlotAddr}
    {x : Slot} (ht : t ∈ tiers art.sizeClass) (hq : 0 < q) (h : q = s.putOffer place batch art pref remaining t a x) :
    (x.state = .stocked ∧ x.held = some ⟨place, batch⟩ ∧ q ≤ s.room a x) ∨
      (x.state = .free ∧ art.sizeClass ≤ (s.geometryOf a).widthClass a.slot ∧ q ≤ s.baseLimit a art) := by
  unfold State.putOffer at h
  split at h
  · omega
  · split at h
    · split at h
      · next ok => exact .inl ⟨ok.1, ok.2, h ▸ min_le_left ..⟩
      · omega
    · next free =>
      split at h
      · next ok => exact .inr ⟨ok.1, ok.2 ▸ tiers_width ht (by simpa using free), h ▸ min_le_right ..⟩
      · omega

/-! ### Put-away -/

theorem weighed_of_quiet {s t : State} (h : Quiet s t) (hs : s.directoryWeighed) : t.directoryWeighed := by
  rw [directoryWeighed_iff] at hs ⊢
  have articles : t.articles = s.articles := (congrArg (fun o => o.2.1) h.outer :)
  refine ⟨articlesSound_of_articles articles hs.1, fun k d hd => ?_⟩
  have e := h.carousel k
  rw [hd, Option.map_some] at e
  obtain ⟨c, hc, same⟩ := Option.map_eq_some_iff.mp e.symm
  have geometry : d.geometry = c.geometry := (congrArg (fun b => b.1) same.symm :)
  have slots : d.slots = c.slots := (congrArg (fun b => b.2.1) same.symm :)
  have figures : d.figures = c.figures := (congrArg (fun b => b.2.2) same.symm :)
  exact weighed_of_same articles geometry slots (by rw [figures]) (by rw [figures]) (hs.2 k c hc)

/-- The reaction to a created target is quiet. -/
theorem quiet_createTarget (s : State) (tag place batch : Nat) (c : Candidate) :
    Quiet ((s.onTask tag fun t => { t with targets := t.targets ++ [{ addr := c.addr, quantity := c.quantity, outcome := .opened }] }).updateSlot
      c.addr fun slot => slot.withTarget place batch c.quantity) (s.createTarget tag place batch c) :=
  (quiet_gainWork ..).trans (quiet_joinEntry ..)

theorem weighed_createTarget {s : State} (tag : Nat) {place batch : Nat} {art : Article} {pref : Option Nat} {remaining : Nat} {c : Candidate}
    (ha : s.articleAt place = some art) (hc : s.choosePut place batch art pref remaining = some c) (hs : s.directoryWeighed) :
    (s.createTarget tag place batch c).directoryWeighed := by
  obtain ⟨t, ht, x, hx, hq, offer⟩ := choosePut_offer hc
  refine weighed_of_quiet (quiet_createTarget ..) ?_
  rw [State.updateSlot, show (s.onTask tag _).slot? c.addr = some x from hx]
  refine weighed_writeSlot (s := s.onTask tag _) hx (fun h hh => ?_) hs
  unfold Slot.withTarget at hh
  rcases putOffer_cases ht hq offer with ⟨stocked, -, -⟩ | ⟨free, fits, -⟩
  · rw [if_neg (by simp [stocked])] at hh
    exact weighed_holds hs hx hh
  · rw [if_pos free] at hh
    cases hh
    exact ⟨art, ha, fits⟩

theorem weighed_allocatePut {s : State} (tag : Nat) {place batch : Nat} {art : Article} {pref : Option Nat} (left remaining : Nat)
    (ha : s.articleAt place = some art) (hs : s.directoryWeighed) :
    (s.allocatePut tag place batch art pref left remaining).directoryWeighed := by
  induction left generalizing s remaining with
  | zero => exact hs
  | succ left ih =>
    unfold State.allocatePut
    split
    · exact hs
    · split
      · exact hs
      · next c hc =>
        refine ih _ ?_ (weighed_createTarget tag ha hc hs)
        have articles : (s.createTarget tag place batch c).articles = s.articles :=
          (congrArg (fun o => o.2.1) (outer_createTarget s tag place batch c) :)
        rwa [State.articleAt, articles]

/-! ### Cancelled picks and targets, quarantine -/

theorem weighed_cancelPick {s : State} (p : Pick) (hs : s.directoryWeighed) : (s.cancelPick p).directoryWeighed := by
  have dropped : (s.dropPick p).directoryWeighed :=
    weighed_updateSlot p.addr (f := fun x => { x with reserved := x.reserved - p.quantity }) (fun _ _ hh => hh) hs
  exact weighed_of_quiet (quiet_cancelPick s p) dropped

theorem weighed_cancelTarget {s : State} (tag : Nat) (x : Target) (c : CancelCause) (hs : s.directoryWeighed) :
    (s.cancelTarget tag x c).directoryWeighed := by
  refine weighed_of_quiet ((quiet_removeEntry ..).trans (quiet_recompute ..)) ?_
  refine (weighed_updateSlot x.addr (fun y h hh => ?_) hs : (s.updateSlot _ _).directoryWeighed)
  cases c
  · exact tame_settled (x := { y with pending := y.pending - x.quantity }) hh
  · exact hh

theorem weighed_endTask {s : State} (tag : Nat) (hs : s.directoryWeighed) : (s.endTask tag).directoryWeighed := by
  unfold State.endTask
  split
  · split
    · exact hs
    · exact weighed_of_quiet (quiet_notify ..) hs
  · exact hs

theorem weighed_quarantine {s : State} (a : SlotAddr) (r : Reason) (load : Option Nat) (hs : s.directoryWeighed) :
    (s.quarantine a r load).directoryWeighed :=
  weighed_updateSlot a (fun _ _ hh => hh) (Blocks.foldl _ (fun _ _ h => weighed_endTask _ (weighed_cancelTarget _ _ _ h)) _
    (Blocks.foldl _ (fun _ _ h => weighed_cancelPick _ h) _ hs))

/-! ### The article table -/

/-- What the loads and the fit of a slot take of an article. -/
def Article.scale (a : Article) : Nat × Nat := (a.unitWeight, a.sizeClass)

/-- A change of the table that leaves weight and size class of every article that a slot of the carousel holds. -/
theorem weighed_of_scales {s t : State} {c : Carousel}
    (scales : ∀ x ∈ c.slots, ∀ h, x.held = some h → (t.articleAt h.place).map Article.scale = (s.articleAt h.place).map Article.scale)
    (hc : c.weighed s) : c.weighed t := by
  obtain ⟨length, committed, onHand, held⟩ := hc
  have weights : ∀ x ∈ c.slots, t.loads x = s.loads x := fun x hx => by
    have weight : t.weightOf x = s.weightOf x := by
      unfold State.weightOf
      split
      · next h hh =>
        have e := congrArg (Option.map Prod.fst) (scales x hx h hh)
        unfold State.weightAt
        cases ht : t.articleAt h.place <;> cases hs : s.articleAt h.place <;> simp_all [Article.scale]
      · rfl
    rw [State.loads, weight, State.loads]
  have sums : ∀ (load : Nat × Nat → Nat) i, total ((c.carrierSlots i).map fun x => load (t.loads x)) =
      total ((c.carrierSlots i).map fun x => load (s.loads x)) := fun load i => by
    refine congrArg total (List.map_congr_left fun x hx => ?_)
    rw [weights x (List.mem_of_mem_drop (List.mem_of_mem_take hx))]
  refine ⟨length, ?_, ?_, fun i j x h hi hj hx hh => ?_⟩
  · simp only [committed, sums Prod.fst]
  · simp only [onHand, sums Prod.snd]
  · obtain ⟨a, ha, fits⟩ := held i j x h hi hj hx hh
    have e := scales x (List.mem_of_getElem? hx) h hh
    rw [ha, Option.map_some] at e
    obtain ⟨b, hb, same⟩ := Option.map_eq_some_iff.mp e
    exact ⟨b, hb, by rw [show b.sizeClass = a.sizeClass from congrArg Prod.snd same]; exact fits⟩

/-- The article a slot holds is in use (R2). -/
theorem inUse_of_held {s : State} {k : Nat} {c : Carousel} {x : Slot} {h : Holding} (hc : s.carousel? k = some c) (hx : x ∈ c.slots)
    (hh : x.held = some h) : s.inUse h.place = true := by
  have listed : (some c) ∈ s.carousels := List.mem_of_getElem? (carousel?_eq hc)
  have inSlots : (c.slots.any fun slot => match slot.held with | some h' => h'.place == h.place | none => false) = true :=
    List.any_eq_true.mpr ⟨x, hx, by simp [hh]⟩
  unfold State.inUse
  simp only [Bool.or_eq_true]
  exact .inl (.inl (List.any_eq_true.mpr ⟨some c, listed, inSlots⟩))

/-- A slot of a carousel that agrees holds an article of the table. -/
theorem weighed_articleAt {s : State} {c : Carousel} {x : Slot} {h : Holding} (hc : c.weighed s) (hx : x ∈ c.slots)
    (hh : x.held = some h) : ∃ a, s.articleAt h.place = some a := by
  obtain ⟨length, -, -, held⟩ := hc
  obtain ⟨m, hm, rfl⟩ := List.getElem_of_mem hx
  have wide : 0 < c.geometry.s := by
    by_contra narrow
    rw [Nat.eq_zero_of_not_pos narrow, Nat.mul_zero] at length
    omega
  have carrier : m / c.geometry.s < c.geometry.n := Nat.div_lt_of_lt_mul (by rw [Nat.mul_comm]; omega)
  have at' : c.geometry.index (m / c.geometry.s) (m % c.geometry.s) = m := Nat.div_add_mod' ..
  obtain ⟨a, ha, -⟩ := held _ _ _ h carrier (Nat.mod_lt _ wide) (by rw [at']; exact List.getElem?_eq_getElem hm) hh
  exact ⟨a, ha⟩

theorem articleAt_mem {s : State} {place : Nat} {a : Article} (h : s.articleAt place = some a) : (place, a) ∈ s.articles := by
  obtain ⟨q, hq, rfl⟩ := Option.map_eq_some_iff.mp h
  have at' : q.1 = place := by simpa using List.find?_some hq
  exact at' ▸ List.mem_of_find?_eq_some hq

/-- A change of the table that leaves weight and size class of every article in use keeps the directory weighed. -/
theorem weighed_articles {s t : State} (carousels : t.carousels = s.carousels) (ht : t.articlesSound)
    (scales : ∀ place a, s.articleAt place = some a → s.inUse place = true →
      (t.articleAt place).map Article.scale = some a.scale) (hs : s.directoryWeighed) : t.directoryWeighed := by
  rw [directoryWeighed_iff] at hs ⊢
  refine ⟨ht, fun k c hc => ?_⟩
  rw [State.carousel?, carousels] at hc
  refine weighed_of_scales (fun x hx h hh => ?_) (hs.2 k c hc)
  obtain ⟨a, ha⟩ := weighed_articleAt (hs.2 k c hc) hx hh
  rw [scales _ a ha (inUse_of_held hc hx hh), ha]
  rfl

theorem weighed_rewriteArticle {s : State} {a old : Article} {place : Nat} (fits : a.inRange = true)
    (held : s.articleOf a.code = some (place, old)) (guard : s.inUse place = true → a.unitWeight = old.unitWeight ∧ a.sizeClass = old.sizeClass)
    (hs : s.directoryWeighed) : (s.rewriteArticle place a).directoryWeighed := by
  have sound := articlesSound_rewrite fits held hs.1
  refine weighed_articles (s := s) rfl sound (fun p b hb used => ?_) hs
  by_cases e : p = place
  · subst e
    have same : b = old := Option.some.inj (hb.symm.trans (articleAt_of_articleOf hs.1 held))
    subst same
    have found : (s.rewriteArticle p a).articleAt p = some a :=
      articleAt_of_mem sound (List.mem_map.mpr ⟨_, articleAt_mem hb, if_pos rfl⟩)
    rw [found, Option.map_some, Article.scale, (guard used).1, (guard used).2]
    rfl
  · have found : (s.rewriteArticle place a).articleAt p = some b :=
      articleAt_of_mem sound (List.mem_map.mpr ⟨_, articleAt_mem hb, if_neg e⟩)
    rw [found]
    rfl

theorem weighed_addArticle {s : State} {a : Article} (fits : a.inRange = true) (fresh : s.articleOf a.code = none)
    (room : s.articles.length < Config.articlePlaces) (hs : s.directoryWeighed) : (s.addArticle a).directoryWeighed := by
  have sound := articlesSound_add fits fresh room hs.1
  refine weighed_articles (s := s) rfl sound (fun p b hb _ => ?_) hs
  rw [articleAt_of_mem sound ((insertBy_perm ..).mem_iff.mpr (List.mem_cons_of_mem _ (articleAt_mem hb)))]
  rfl

theorem weighed_removeArticle {s : State} {place : Nat} (unused : s.inUse place = false) (hs : s.directoryWeighed) :
    (s.removeArticle place).directoryWeighed := by
  have sound : (s.removeArticle place).articlesSound := ⟨hs.1.1.filter _, fun q hq => hs.1.2 q (List.mem_of_mem_filter hq)⟩
  refine weighed_articles (s := s) rfl sound (fun p b hb used => ?_) hs
  have other : p ≠ place := fun e => by simp [e, unused] at used
  rw [articleAt_of_mem sound ((mem_removeArticle ..).mpr ⟨articleAt_mem hb, other⟩)]
  rfl

/-! ### Geometry and limits -/

/-- A carousel whose geometry has just been written is empty (R8). -/
theorem weighed_fresh (s : State) (g : Geometry) (limit stepTime : Nat) : (Carousel.fresh g limit stepTime).weighed s := by
  have empty : ∀ x ∈ (Carousel.fresh g limit stepTime).slots, x = Slot.freeSlot := fun x hx => List.eq_of_mem_replicate hx
  have none : s.loads Slot.freeSlot = (0, 0) := rfl
  have sums : ∀ (load : Nat × Nat → Nat), load (0, 0) = 0 → List.replicate g.n 0 = (List.range g.n).map fun i =>
      total (((Carousel.fresh g limit stepTime).carrierSlots i).map fun x => load (s.loads x)) := fun load h0 => by
    symm
    rw [List.eq_replicate_iff]
    refine ⟨by simp, fun n hn => ?_⟩
    obtain ⟨i, -, rfl⟩ := List.mem_map.mp hn
    rw [total_eq_sum, List.sum_eq_zero]
    intro l hl
    obtain ⟨x, hx, rfl⟩ := List.mem_map.mp hl
    rw [empty x (List.mem_of_mem_drop (List.mem_of_mem_take hx)), none, h0]
  refine ⟨List.length_replicate .., sums Prod.fst rfl, sums Prod.snd rfl, fun i j x h _ _ hx hh => ?_⟩
  rw [empty x (List.mem_of_getElem? hx)] at hh
  cases hh

theorem weighed_setCarousel {s : State} {k : Nat} {c : Carousel} (hc : c.weighed s) (hs : s.directoryWeighed) :
    (s.setCarousel k c).directoryWeighed := by
  rw [directoryWeighed_iff] at hs ⊢
  refine ⟨hs.1, fun j d hd => ?_⟩
  rw [carousel?_setCarousel] at hd
  split at hd
  · cases hd
    exact weighed_of_same rfl rfl rfl rfl rfl hc
  · exact weighed_of_same rfl rfl rfl rfl rfl (hs.2 j d hd)

theorem weighed_judgeOver {s : State} (k : Nat) (hs : s.directoryWeighed) : (s.judgeOver k).directoryWeighed := by
  have articles : (s.judgeOver k).articles = s.articles := State.judgeOver_articles ..
  rw [directoryWeighed_iff] at hs ⊢
  refine ⟨articlesSound_of_articles articles hs.1, fun j d hd => ?_⟩
  by_cases hj : j = k
  · subst hj
    cases hc : s.carousel? j with
    | none =>
      simp only [State.judgeOver, hc] at hd
      cases hd
    | some c =>
      obtain ⟨b, h⟩ := carousel?_judgeOver hc
      cases h.symm.trans hd
      exact weighed_of_same articles rfl rfl rfl rfl (hs.2 j c hc)
  · rw [carousel?_judgeOver_other s hj] at hd
    exact weighed_of_same articles rfl rfl rfl rfl (hs.2 j d hd)

theorem weighed_writeLimit {s : State} (k limit stepTime : Nat) (hs : s.directoryWeighed) : (s.writeLimit k limit stepTime).directoryWeighed := by
  refine weighed_judgeOver k ?_
  unfold State.onCarousel
  split
  · next c hc =>
    exact weighed_setCarousel (weighed_of_same rfl rfl rfl rfl rfl (((directoryWeighed_iff s).mp hs).2 k c hc)) hs
  · exact hs

/-! ### Every step -/

theorem keeps_directoryWeighed : Keeps State.directoryWeighed where
  quiet := weighed_of_quiet
  order := fun _ _ _ hs => hs
  newPick := fun {s tag i l c} _ _ _ _ hs =>
    weighed_updateSlot (s := { s with picks := _, creations := _ }) c.addr (fun _ _ hh => hh) hs
  cancelOrderPicks := fun _ hs => Blocks.foldl _ (fun _ _ h => weighed_cancelPick _ h) _ hs
  freedOrder := fun _ _ _ hs => hs
  newOrder := fun _ _ _ _ _ _ _ hs => hs
  newTask := fun {s code place art} task batch quantity pref _ ha _ _ hs =>
    weighed_allocatePut (s := { s with tasks := _ }) task _ _ (articleAt_of_articleOf hs.1 ha) hs
  task := fun _ _ _ hs => hs
  endedTask := fun _ _ hs => hs
  cancelTargets := fun _ hs => Blocks.foldl _ (fun _ _ h => weighed_cancelTarget _ _ _ h) _ hs
  confirmTarget := fun {s tag q a t x} _ _ _ hs => weighed_updateSlot a (tame_placed q x.quantity) hs
  quarantine := weighed_quarantine
  takePick := fun {s n q p} _ _ hs => weighed_updateSlot p.addr (tame_taken q p.quantity) hs
  items := fun _ _ hs => hs
  delivered := fun _ hs => hs
  discrepancies := fun _ _ hs => hs
  relabel := fun _ _ _ _ hs => weighed_updateSlot _ (fun _ _ hh => hh) hs
  restore := fun {s a x} hx _ hs => weighed_writeSlot hx (fun h hh => weighed_holds hs hx (tame_restored x h hh)) hs
  load := fun _ hx hc _ hs => weighed_writeSlot hx (fun _ hh => holds_of_contentChecks hs.1 hc (tame_loaded hh)) hs
  withdraw := fun hx _ _ _ hs => weighed_writeSlot hx (fun _ hh => weighed_holds hs hx hh) hs
  edit := fun hx _ hc _ hs => weighed_writeSlot hx (fun _ hh => holds_of_contentChecks hs.1 hc (tame_withContents hh)) hs
  resolve := fun hx _ hc _ hs =>
    weighed_writeSlot hx (fun _ hh => holds_of_contentChecks hs.1 hc (tame_withContents (tame_restored _ _ hh))) hs
  settings := fun _ _ _ hs => hs
  rewriteArticle := weighed_rewriteArticle
  addArticle := weighed_addArticle
  removeArticle := fun _ unused hs => weighed_removeArticle unused hs
  geometry := fun _ g limit stepTime _ hs => weighed_setCarousel (weighed_fresh _ g limit stepTime) hs
  limit := weighed_writeLimit
  unassign := fun _ hs => hs
  assign := fun {s w} a _ hs => by
    unfold State.assignWindow
    split <;> exact hs
  mode := fun _ _ hs => hs
  atStart := fun hs => hs
  ranks := fun _ hs => hs

theorem weighed_reset {s : State} (straps : BitVec 2) : (s.performReset straps).directoryWeighed := by
  refine (directoryWeighed_iff _).mpr ⟨articlesSound_reset straps, fun k c hc => ?_⟩
  rw [carousel?_reset] at hc
  cases hc

theorem lineOps_directoryWeighed : LineOps State.directoryWeighed :=
  LineKeeps.lineOps (fun _ _ _ hs => hs) fun {s} f hs => by
    unfold State.arrive
    split <;> exact hs

/-- Settles O59: the changes of slots, articles and geometries keep the directory weighed, and no other work touches it. -/
theorem everyStepKeepsTheDirectoryWeighed : Obligations.EveryStepKeepsTheDirectoryWeighed := fun _ _ hs h =>
  step_keeps (fun i hs => after_keeps lineOps_directoryWeighed keeps_directoryWeighed.owners
    (fun i hs => keeps_directoryWeighed.event i hs) (fun _ hs => hs) (fun straps _ => weighed_reset straps) (fun hs => hs) i hs)
    (fun _ hs => hs) (fun _ hs => hs) hs h

end Sys2Proof.Machine
end

section
/-! PROOFS. The slot directory agrees with the pick pool and the tasks (R9, R11): every change of the stock writes one slot record
together with the claims on it. Claims are summed pick by pick and task by task, so that a change of one of them changes the sum of
its own slot alone. A quarantine entry clears a slot whose own record is out of step meanwhile. -/

namespace Sys2Proof.Machine

/-! ### Sums over records with distinct keys -/

section Keys

variable {α : Type} {key : α → Nat}

/-- A record dropped by its key takes its share out of the sum. -/
theorem sum_dropKey (g : α → Nat) {xs : List α} (nodup : (xs.map key).Nodup) {p : α} (hp : p ∈ xs) :
    ((xs.filter fun x => decide (key x ≠ key p)).map g).sum + g p = (xs.map g).sum := by
  induction xs with
  | nil => cases hp
  | cons x xs ih =>
    obtain ⟨fresh, rest⟩ := List.nodup_cons.mp nodup
    rcases List.mem_cons.mp hp with rfl | later
    · have kept : (xs.filter fun x => decide (key x ≠ key p)) = xs := List.filter_eq_self.mpr fun y hy => by
        simpa using fun e : key y = key p => fresh (e ▸ List.mem_map_of_mem hy)
      rw [List.filter_cons_of_neg (by simp), kept, List.map_cons, List.sum_cons, Nat.add_comm]
    · have other : key x ≠ key p := fun e => fresh (e ▸ List.mem_map_of_mem later)
      rw [List.filter_cons_of_pos (by simpa using other), List.map_cons, List.map_cons, List.sum_cons, List.sum_cons, Nat.add_assoc,
        ih rest later]

/-- A record changed by its key changes its share of the sum. -/
theorem sum_onKey (g : α → Nat) (f : α → α) {xs : List α} (nodup : (xs.map key).Nodup) {t : α} (ht : t ∈ xs) :
    ((xs.map fun x => if key x = key t then f x else x).map g).sum + g t = (xs.map g).sum + g (f t) := by
  induction xs with
  | nil => cases ht
  | cons x xs ih =>
    obtain ⟨fresh, rest⟩ := List.nodup_cons.mp nodup
    rcases List.mem_cons.mp ht with rfl | later
    · have kept : (xs.map fun x => if key x = key t then f x else x) = xs := by
        conv_rhs => rw [← List.map_id xs]
        refine List.map_congr_left fun y hy => if_neg fun e : key y = key t => fresh (e ▸ List.mem_map_of_mem hy)
      rw [List.map_cons, if_pos rfl, kept, List.map_cons, List.map_cons, List.sum_cons, List.sum_cons]
      omega
    · have other : key x ≠ key t := fun e => fresh (e ▸ List.mem_map_of_mem later)
      have := ih rest later
      rw [List.map_cons, if_neg other, List.map_cons, List.map_cons, List.sum_cons, List.sum_cons]
      omega

theorem total_filter (p : α → Bool) (g : α → Nat) (xs : List α) :
    total ((xs.filter p).map g) = (xs.map fun x => if p x then g x else 0).sum := by
  rw [total_eq_sum]
  induction xs with
  | nil => rfl
  | cons x xs ih =>
    by_cases h : p x = true
    · simp [h, ih]
    · simp [h, ih]

end Keys

/-! ### Claims on slots -/

/-- The picks as reactions leave them. -/
def State.claims (s : State) : List Pick := s.picks.map Pick.lasting

/-- What one pick reserves on a slot. -/
def Pick.on (a : SlotAddr) (p : Pick) : Nat := if p.addr = a then p.quantity else 0

theorem reservedOn_eq (s : State) (a : SlotAddr) : s.reservedOn a = (s.claims.map (Pick.on a)).sum := by
  rw [State.reservedOn, total_filter, State.claims, List.map_map]
  simp only [decide_eq_true_eq]
  rfl

/-- What the OPEN targets of a list hold on a slot. -/
def pendingIn (a : SlotAddr) (xs : List Target) : Nat := total ((xs.filter (Target.openOn a)).map fun x => x.quantity)

theorem pendingOn_eq (s : State) (a : SlotAddr) : s.pendingOn a = (s.tasks.map fun t => pendingIn a t.targets).sum := by
  unfold State.pendingOn pendingIn
  rw [total_eq_sum, List.map_flatMap, List.flatMap, List.sum_flatten, List.map_map]
  simp only [total_eq_sum]
  rfl

/-- The OPEN target of a list on a slot takes an outcome. -/
def closeIn (a : SlotAddr) (o : TargetOutcome) (xs : List Target) : List Target :=
  modifyAt (fun x => { x with outcome := o }) (xs.findIdx (Target.openOn a)) xs

theorem closeIn_cons (a : SlotAddr) (o : TargetOutcome) (x : Target) (xs : List Target) :
    closeIn a o (x :: xs) = if x.openOn a then { x with outcome := o } :: xs else x :: closeIn a o xs := by
  unfold closeIn modifyAt
  rw [List.findIdx_cons]
  by_cases h : x.openOn a = true
  · simp [h]
  · simp only [Bool.not_eq_true] at h
    simp only [h, cond_false, List.getElem?_cons_succ, List.set_cons_succ]
    split <;> simp_all

section Closing

variable {a : SlotAddr} {o : TargetOutcome} (closed : o ≠ .opened)

include closed

theorem not_openOn_closed (x : Target) (b : SlotAddr) : ({ x with outcome := o } : Target).openOn b = false := by
  simp [Target.openOn, Target.isOpen, closed]

/-- What ends on a slot is the quantity of the first OPEN target there. -/
theorem pendingIn_closeIn {xs : List Target} {x : Target} (h : xs.find? (Target.openOn a) = some x) :
    pendingIn a (closeIn a o xs) + x.quantity = pendingIn a xs := by
  induction xs with
  | nil => cases h
  | cons y ys ih =>
    rw [closeIn_cons]
    by_cases hy : y.openOn a = true
    · rw [List.find?_cons_of_pos hy] at h
      cases h
      simp [pendingIn, total_eq_sum, hy, not_openOn_closed closed, Nat.add_comm]
    · rw [List.find?_cons_of_neg hy] at h
      simpa [pendingIn, total_eq_sum, hy] using ih h

theorem pendingIn_closeIn_other {b : SlotAddr} (hb : b ≠ a) (xs : List Target) : pendingIn b (closeIn a o xs) = pendingIn b xs := by
  induction xs with
  | nil => rfl
  | cons y ys ih =>
    rw [closeIn_cons]
    split
    · next hy =>
      have other : y.openOn b = false := by
        simp only [Target.openOn, Bool.and_eq_true, beq_iff_eq] at hy
        simp [Target.openOn, hy.2, hb.symm]
      simp [pendingIn, other, not_openOn_closed closed]
    · simp only [pendingIn, total_eq_sum] at ih ⊢
      by_cases hy : y.openOn b = true
      · simp [hy, ih]
      · simp [hy, ih]

theorem mem_of_open_closeIn {xs : List Target} {y : Target} (hy : y ∈ closeIn a o xs) (ho : y.isOpen = true) : y ∈ xs := by
  induction xs with
  | nil => exact hy
  | cons x xs ih =>
    rw [closeIn_cons] at hy
    split at hy
    · rcases List.mem_cons.mp hy with rfl | later
      · exact absurd ho (by simpa [Target.isOpen] using closed)
      · exact List.mem_cons_of_mem _ later
    · rcases List.mem_cons.mp hy with rfl | later
      · exact List.mem_cons_self
      · exact List.mem_cons_of_mem _ (ih later)

/-- One OPEN target less stands on the slot. -/
theorem count_closeIn (xs : List Target) : (closeIn a o xs).countP (Target.openOn a) = xs.countP (Target.openOn a) - 1 := by
  induction xs with
  | nil => rfl
  | cons y ys ih =>
    rw [closeIn_cons]
    by_cases hy : y.openOn a = true
    · simp [hy, not_openOn_closed closed]
    · simp [hy, ih]

/-- Closing the first OPEN target of all leaves the later ones OPEN. -/
theorem open_closeIn {xs ys : List Target} {x : Target} (h : xs.filter Target.isOpen = x :: ys) :
    xs.find? (Target.openOn x.addr) = some x ∧ (closeIn x.addr o xs).filter Target.isOpen = ys := by
  induction xs with
  | nil => cases h
  | cons y zs ih =>
    by_cases hy : y.isOpen = true
    · rw [List.filter_cons_of_pos hy] at h
      cases h
      have here : x.openOn x.addr = true := by simp [Target.openOn, hy]
      rw [closeIn_cons, if_pos here, List.find?_cons_of_pos here]
      refine ⟨rfl, List.filter_cons_of_neg ?_⟩
      simpa [Target.isOpen] using closed
    · rw [List.filter_cons_of_neg hy] at h
      have apart : y.openOn x.addr = false := by simp [Target.openOn, hy]
      rw [closeIn_cons, apart, if_neg (by simp), List.find?_cons_of_neg (by simp [apart]), List.filter_cons_of_neg hy]
      exact ih h

end Closing

/-! ### The parts of the invariant -/

/-- Every slot record is lawful and says what is claimed of it, the slots `out` apart (R11). -/
def State.slotsSound (out : SlotAddr → Prop) (s : State) : Prop :=
  ∀ a x, s.slot? a = some x → ¬out a → x.lawful ∧ x.reserved = s.reservedOn a ∧ x.pending = s.pendingOn a

/-- Every pick has a quantity, names a slot there is and an order held; pick numbers are distinct. -/
def State.picksSound (s : State) : Prop :=
  (∀ p ∈ s.claims, 1 ≤ p.quantity ∧ (s.slot? p.addr).isSome = true ∧ (s.order? p.order).isSome = true) ∧
    (s.claims.map fun p => p.number).Nodup

/-- Every OPEN target has a quantity and names a slot there is; task tags are distinct. -/
def State.tasksSound (s : State) : Prop :=
  (∀ t ∈ s.tasks, ∀ x ∈ t.targets, x.isOpen = true → 1 ≤ x.quantity ∧ (s.slot? x.addr).isSome = true) ∧
    (s.tasks.map fun t => t.tag).Nodup

/-- In CONFIG there is no order, task or pick (R194). -/
def State.configSound (s : State) : Prop := s.mode = .config → s.orders = [] ∧ s.tasks = [] ∧ s.claims = []

/-- The invariant, the records of the slots `out` apart. -/
def State.soundBut (out : SlotAddr → Prop) (s : State) : Prop :=
  s.articlesSound ∧ s.slotsSound out ∧ s.picksSound ∧ s.tasksSound ∧ s.configSound

theorem reservationsSound_iff (s : State) : s.reservationsSound ↔ s.soundBut fun _ => False := by
  have picks : s.picksSound ↔ (∀ p ∈ s.picks, 1 ≤ p.quantity ∧ (s.slot? p.addr).isSome = true ∧ (s.order? p.order).isSome = true) ∧
      (s.picks.map fun p => p.number).Nodup := by
    simp only [State.picksSound, State.claims, List.forall_mem_map, List.map_map]
    exact Iff.rfl
  rw [State.soundBut, picks]
  simp only [State.reservationsSound, State.slotsSound, State.tasksSound, State.configSound, State.claims, List.map_eq_nil_iff,
    not_false_eq_true, true_imp_iff]
  tauto

/-! ### Lawful slots (R9) -/

theorem lawful_free : Slot.freeSlot.lawful := by
  simp [Slot.lawful, Slot.freeSlot]

/-- A slot with something reserved on it is STOCKED. -/
theorem stocked_of_reserved {x : Slot} (h : x.lawful) (hr : 0 < x.reserved) : x.state = .stocked := by
  obtain ⟨-, -, -, byState⟩ := h
  cases hx : x.state <;> rw [hx] at byState <;> dsimp only at byState
  · rw [byState] at hr
    exact absurd hr (by decide)
  · omega
  · omega

/-- A slot with something pending on it is STOCKED. -/
theorem stocked_of_pending {x : Slot} (h : x.lawful) (hp : 0 < x.pending) : x.state = .stocked := by
  obtain ⟨-, -, -, byState⟩ := h
  cases hx : x.state <;> rw [hx] at byState <;> dsimp only at byState
  · rw [byState] at hp
    exact absurd hp (by decide)
  · omega
  · omega

/-- What a STOCKED slot has to keep. -/
theorem lawful_stocked {x : Slot} (h : x.state = .stocked) : x.lawful ↔ x.reserved ≤ x.onHand ∧ x.onHand + x.pending ≤ 8 ∧
    x.held.isSome = true ∧ 0 < x.onHand + x.pending ∧ x.measured = none ∧ x.reason = none := by
  unfold Slot.lawful
  rw [h]
  dsimp only
  tauto

/-- A STOCKED slot that keeps the law but for being empty is settled by becoming FREE (R14). -/
theorem lawful_settled {x : Slot} (h : x.state = .stocked) (reserved : x.reserved ≤ x.onHand) (room : x.onHand + x.pending ≤ 8)
    (held : x.held.isSome = true) (measured : x.measured = none) (reason : x.reason = none) :
    x.settled.lawful ∧ x.settled.reserved = x.reserved ∧ x.settled.pending = x.pending := by
  unfold Slot.settled
  split
  · next empty =>
    obtain ⟨-, none, nothing⟩ := empty
    refine ⟨lawful_free, ?_, nothing.symm⟩
    show 0 = x.reserved
    omega
  · next some =>
    refine ⟨(lawful_stocked h).mpr ⟨reserved, room, held, ?_, measured, reason⟩, rfl, rfl⟩
    by_contra empty
    exact some ⟨h, by omega, by omega⟩

/-- Less reserved on a slot is lawful too. -/
theorem lawful_lessReserved {x : Slot} (h : x.lawful) {r : Nat} (hr : r ≤ x.reserved) : ({ x with reserved := r } : Slot).lawful := by
  rcases Nat.eq_zero_or_pos x.reserved with none | some
  · have same : r = x.reserved := by omega
    rw [same]
    exact h
  · have stocked := stocked_of_reserved h some
    obtain ⟨reserved, rest⟩ := (lawful_stocked stocked).mp h
    exact (lawful_stocked (x := { x with reserved := r }) stocked).mpr ⟨hr.trans reserved, rest⟩

/-! ### Changes of one slot and of the claims on it -/

theorem slot?_updateSlot_all {s : State} {a : SlotAddr} {x : Slot} (hx : s.slot? a = some x) (f : Slot → Slot) (b : SlotAddr) :
    (s.updateSlot a f).slot? b = if b = a then some (f x) else s.slot? b := by
  split
  · next e => rw [e, slot?_updateSlot hx f]
  · next e =>
    rw [State.updateSlot, hx]
    exact slot?_writeSlot_other e _

theorem slot?_writeSlot_all {s : State} {a : SlotAddr} {x : Slot} (hx : s.slot? a = some x) (y : Slot) (b : SlotAddr) :
    (s.writeSlot a y).slot? b = if b = a then some y else s.slot? b := by
  split
  · next e => rw [e, slot?_writeSlot hx y]
  · next e => exact slot?_writeSlot_other e _

section Changes

variable {s t : State}

/-- One slot written, the claims on the others staying: the slots are sound if that one is. -/
theorem slotsSound_write {a : SlotAddr} {y : Slot} {out : SlotAddr → Prop} (written : ∀ b, t.slot? b = if b = a then some y else s.slot? b)
    (here : ¬out a → y.lawful ∧ y.reserved = t.reservedOn a ∧ y.pending = t.pendingOn a)
    (others : ∀ b, b ≠ a → t.reservedOn b = s.reservedOn b ∧ t.pendingOn b = s.pendingOn b) (hs : s.slotsSound out) :
    t.slotsSound out := by
  intro b x hx hout
  rw [written] at hx
  split at hx
  · next e =>
    subst e
    cases hx
    exact here hout
  · next e =>
    obtain ⟨lawful, reserved, pending⟩ := hs b x hx hout
    exact ⟨lawful, reserved.trans (others b e).1.symm, pending.trans (others b e).2.symm⟩

theorem stands_of_written {a : SlotAddr} {x y : Slot} (hx : s.slot? a = some x)
    (written : ∀ b, t.slot? b = if b = a then some y else s.slot? b) (b : SlotAddr) : (t.slot? b).isSome = (s.slot? b).isSome := by
  rw [written]
  split
  · next e => rw [e, hx]; rfl
  · rfl

theorem picksSound_of (claims : t.claims.Sublist s.claims) (slots : ∀ b, (s.slot? b).isSome = true → (t.slot? b).isSome = true)
    (orders : ∀ p ∈ t.claims, (s.order? p.order).isSome = true → (t.order? p.order).isSome = true) (hs : s.picksSound) : t.picksSound := by
  obtain ⟨each, nodup⟩ := hs
  refine ⟨fun p hp => ?_, nodup.sublist (claims.map _)⟩
  obtain ⟨some, slot, order⟩ := each p (claims.subset hp)
  exact ⟨some, slots _ slot, orders p hp order⟩

theorem tasksSound_of (tags : (t.tasks.map fun t => t.tag).Sublist (s.tasks.map fun t => t.tag))
    (targets : ∀ u ∈ t.tasks, ∀ x ∈ u.targets, x.isOpen = true → ∃ u' ∈ s.tasks, x ∈ u'.targets)
    (slots : ∀ b, (s.slot? b).isSome = true → (t.slot? b).isSome = true) (hs : s.tasksSound) : t.tasksSound := by
  obtain ⟨each, nodup⟩ := hs
  refine ⟨fun u hu x hx ho => ?_, nodup.sublist tags⟩
  obtain ⟨u', hu', hx'⟩ := targets u hu x hx ho
  obtain ⟨some, slot⟩ := each u' hu' x hx' ho
  exact ⟨some, slots _ slot⟩

theorem reservedOn_of_claims (h : t.claims = s.claims) (a : SlotAddr) : t.reservedOn a = s.reservedOn a := by
  rw [reservedOn_eq, reservedOn_eq, h]

theorem pendingOn_of_tasks (h : t.tasks = s.tasks) (a : SlotAddr) : t.pendingOn a = s.pendingOn a := by
  rw [State.pendingOn, State.pendingOn, h]

theorem order?_of_orders (h : t.orders = s.orders) (tag : Nat) : t.order? tag = s.order? tag := by
  rw [State.order?, State.order?, h]

end Changes

/-- The claims and the slot of a pick record in the pool. -/
theorem claimed_slot {s : State} {out : SlotAddr → Prop} (slots : s.slotsSound out) (picks : s.picksSound) {p : Pick} (hp : p ∈ s.claims)
    (hout : ¬out p.addr) : ∃ x, s.slot? p.addr = some x ∧ x.lawful ∧ x.reserved = s.reservedOn p.addr ∧ x.pending = s.pendingOn p.addr ∧
      1 ≤ p.quantity ∧ p.quantity ≤ x.reserved := by
  obtain ⟨some, slot, -⟩ := picks.1 p hp
  obtain ⟨x, hx⟩ := Option.isSome_iff_exists.mp slot
  obtain ⟨lawful, reserved, pending⟩ := slots _ x hx hout
  refine ⟨x, hx, lawful, reserved, pending, some, ?_⟩
  rw [reserved, reservedOn_eq]
  have share : p.quantity = Pick.on p.addr p := (if_pos rfl).symm
  rw [share]
  exact List.single_le_sum (fun _ _ => Nat.zero_le _) _ (List.mem_map_of_mem hp)

/-- What is reserved when a pick has left the pool. -/
theorem reservedOn_dropped {s t : State} (picks : s.picksSound) {p : Pick} (hp : p ∈ s.claims)
    (dropped : t.claims = s.claims.filter fun x => decide (x.number ≠ p.number)) (a : SlotAddr) :
    t.reservedOn a + Pick.on a p = s.reservedOn a := by
  rw [reservedOn_eq, reservedOn_eq, dropped]
  exact sum_dropKey (key := fun p : Pick => p.number) _ picks.2 hp

/-! ### Quiet work -/

theorem slot?_of_quiet {s t : State} (h : Quiet s t) (a : SlotAddr) : t.slot? a = s.slot? a := by
  have e := h.carousel a.carousel
  unfold State.slot?
  cases ht : t.carousel? a.carousel <;> cases hs : s.carousel? a.carousel <;> rw [ht, hs] at e
  · cases e
  · cases e
  · next d c =>
    have books : d.books = c.books := Option.some.inj e
    have geometry : d.geometry = c.geometry := (congrArg (fun b => b.1) books :)
    have slots : d.slots = c.slots := (congrArg (fun b => b.2.1) books :)
    simp only [geometry, slots]

theorem sound_of_quiet {s t : State} {out : SlotAddr → Prop} (h : Quiet s t) (hs : s.soundBut out) : t.soundBut out := by
  obtain ⟨articles, slots, picks, tasks, config⟩ := hs
  have claims : t.claims = s.claims := h.picks
  have stands : ∀ b, (s.slot? b).isSome = true → (t.slot? b).isSome = true := fun b hb => by rwa [slot?_of_quiet h]
  refine ⟨articlesSound_of_outer h.outer articles, fun a x hx hout => ?_, picksSound_of (by rw [claims]) stands (fun p _ ho => ?_) picks,
    tasksSound_of (by rw [h.tasks]) (fun u hu x hx _ => ⟨u, h.tasks ▸ hu, hx⟩) stands tasks, ?_⟩
  · rw [slot?_of_quiet h] at hx
    rw [reservedOn_of_claims claims, pendingOn_of_tasks h.tasks]
    exact slots a x hx hout
  · rwa [order?_of_orders h.orders]
  · rw [State.configSound, h.mode, h.orders, h.tasks, claims]
    exact config

/-! ### Picks that leave the pool -/

theorem order?_isSome (s : State) (tag : Nat) : (s.order? tag).isSome = true ↔ ∃ o ∈ s.orders, o.tag = tag := by
  simp [State.order?]

theorem order?_onOrder (s : State) (tag : Nat) {f : Order → Order} (h : ∀ o, (f o).tag = o.tag) (tag' : Nat) :
    ((s.onOrder tag f).order? tag').isSome = (s.order? tag').isSome := by
  have same : ∀ o : Order, (if o.tag = tag then f o else o).tag = o.tag := fun o => by
    split
    · exact h o
    · rfl
  rw [Bool.eq_iff_iff, order?_isSome, order?_isSome]
  simp only [State.onOrder, List.mem_map, exists_exists_and_eq_and, same]

theorem sound_onOrder {s : State} {out : SlotAddr → Prop} (tag : Nat) {f : Order → Order} (h : ∀ o, (f o).tag = o.tag)
    (hs : s.soundBut out) : (s.onOrder tag f).soundBut out := by
  obtain ⟨articles, slots, ⟨each, nodup⟩, tasks, config⟩ := hs
  refine ⟨articles, slots, ⟨fun p hp => ?_, nodup⟩, tasks, fun hm => ?_⟩
  · obtain ⟨some, slot, order⟩ := each p hp
    exact ⟨some, slot, (order?_onOrder s tag h p.order).trans order⟩
  · obtain ⟨orders, rest⟩ := config hm
    exact ⟨by simp [State.onOrder, orders], rest⟩

/-- A pick leaves the pool, and one write of its slot takes its reservation away. -/
theorem sound_pickLeaves {s : State} {out : SlotAddr → Prop} {p : Pick} (hp : p ∈ s.claims) {f : Slot → Slot}
    (here : ∀ x, ¬out p.addr → x.lawful → 1 ≤ p.quantity → p.quantity ≤ x.reserved →
      (f x).lawful ∧ (f x).reserved = x.reserved - p.quantity ∧ (f x).pending = x.pending) (hs : s.soundBut out) :
    ({ s.updateSlot p.addr f with picks := (s.updateSlot p.addr f).picks.filter fun x => decide (x.number ≠ p.number) } :
      State).soundBut out := by
  obtain ⟨articles, slots, picks, tasks, config⟩ := hs
  obtain ⟨x, hx⟩ := Option.isSome_iff_exists.mp (picks.1 p hp).2.1
  have written := slot?_updateSlot_all hx f
  have stands : ∀ b, (s.slot? b).isSome = true → ((s.updateSlot p.addr f).slot? b).isSome = true := fun b hb =>
    (stands_of_written hx written b).trans hb
  generalize ht : ({ s.updateSlot p.addr f with
    picks := (s.updateSlot p.addr f).picks.filter fun x => decide (x.number ≠ p.number) } : State) = t
  have claims : t.claims = s.claims.filter fun x => decide (x.number ≠ p.number) := by
    rw [← ht, State.claims, State.claims, (updateSlot_orders s p.addr f).2.1, List.filter_map]
    rfl
  have sameTasks : t.tasks = s.tasks := by rw [← ht]; exact State.updateSlot_tasks ..
  have sameOrders : t.orders = s.orders := by rw [← ht]; exact (updateSlot_orders s p.addr f).1
  have sameMode : t.mode = s.mode := by rw [← ht]; exact State.updateSlot_mode ..
  have sameArticles : t.articles = s.articles := by rw [← ht]; exact State.updateSlot_articles ..
  have written' : ∀ b, t.slot? b = if b = p.addr then some (f x) else s.slot? b := by rw [← ht]; exact written
  have stands' : ∀ b, (s.slot? b).isSome = true → (t.slot? b).isSome = true := by rw [← ht]; exact stands
  have fewer : t.claims.Sublist s.claims := claims ▸ List.filter_sublist
  refine ⟨articlesSound_of_articles sameArticles articles, slotsSound_write written' (fun hout => ?_) (fun b hb => ?_) slots,
    picksSound_of fewer stands' (fun q _ ho => by rwa [order?_of_orders sameOrders]) picks,
    tasksSound_of (by rw [sameTasks]) (fun u hu y hy _ => ⟨u, sameTasks ▸ hu, hy⟩) stands' tasks, fun hm => ?_⟩
  · obtain ⟨x', hx', lawful, reserved, pending, some, share⟩ := claimed_slot slots picks hp hout
    cases hx.symm.trans hx'
    obtain ⟨new, less, same⟩ := here x hout lawful some share
    have left := reservedOn_dropped picks hp claims p.addr
    rw [Pick.on, if_pos rfl] at left
    refine ⟨new, ?_, same.trans (pending.trans (pendingOn_of_tasks sameTasks _).symm)⟩
    rw [less, reserved]
    omega
  · have left := reservedOn_dropped picks hp claims b
    rw [Pick.on, if_neg hb.symm] at left
    exact ⟨left, pendingOn_of_tasks sameTasks b⟩
  · obtain ⟨orders, noTasks, noClaims⟩ := config (sameMode ▸ hm)
    exact ⟨sameOrders.trans orders, sameTasks.trans noTasks, by rw [claims, noClaims]; rfl⟩

theorem sound_cancelPick {s : State} {out : SlotAddr → Prop} {p : Pick} (hp : p.lasting ∈ s.claims) (hs : s.soundBut out) :
    (s.cancelPick p).soundBut out := by
  have dropped : (s.dropPick p).soundBut out := by
    refine sound_pickLeaves hp (fun x _ lawful _ _ => ?_) hs
    exact ⟨lawful_lessReserved lawful (Nat.sub_le ..), rfl, rfl⟩
  exact sound_of_quiet (quiet_cancelPick s p) (sound_onOrder _ (fun _ => rfl) dropped)

/-- Picks of the pool with distinct numbers are cancelled one by one. -/
theorem sound_cancelPicks {out : SlotAddr → Prop} (ps : List Pick) {s : State} (nodup : (ps.map fun p => p.number).Nodup)
    (hp : ∀ p ∈ ps, p.lasting ∈ s.claims) (hs : s.soundBut out) : (ps.foldl (fun s p => s.cancelPick p) s).soundBut out := by
  induction ps generalizing s with
  | nil => exact hs
  | cons p ps ih =>
    obtain ⟨fresh, rest⟩ := List.nodup_cons.mp nodup
    refine ih rest (fun q hq => ?_) (sound_cancelPick (hp p List.mem_cons_self) hs)
    have other : q.number ≠ p.number := fun e => fresh (List.mem_map.mpr ⟨q, hq, e⟩)
    show q.lasting ∈ (s.cancelPick p).picks.map Pick.lasting
    rw [picks_cancelPick]
    exact List.mem_filter.mpr ⟨hp q (List.mem_cons_of_mem _ hq), decide_eq_true other⟩

/-- Some picks of the pool in any order have distinct numbers. -/
theorem listed_picks {s : State} (picks : s.picksSound) {ps : List Pick} {f : Pick → Bool} (h : ps.Perm (s.picks.filter f)) :
    (ps.map fun p => p.number).Nodup ∧ ∀ p ∈ ps, p.lasting ∈ s.claims := by
  have numbers : (s.picks.map fun p => p.number).Nodup := by
    have n := picks.2
    rwa [State.claims, List.map_map] at n
  refine ⟨((h.map _).nodup_iff).mpr (numbers.sublist (List.filter_sublist.map _)), fun p hp => ?_⟩
  exact List.mem_map_of_mem (List.mem_filter.mp (h.mem_iff.mp hp)).1

theorem sound_cancelOrderPicks {s : State} (tag : Nat) {out : SlotAddr → Prop} (hs : s.soundBut out) :
    (s.cancelOrderPicks tag).soundBut out := by
  obtain ⟨nodup, listed⟩ := listed_picks hs.2.2.1 (sortBy_perm _ (s.picks.filter fun p => p.order == tag))
  exact sound_cancelPicks _ nodup listed hs

/-- A pick is confirmed: its tyres leave the slot with its reservation (R70, R125). -/
theorem sound_takePick {s : State} {n q : Nat} {p : Pick} (hp : s.pick? n = some p) (hq : q ≤ p.quantity)
    (hs : s.soundBut fun _ => False) : (s.takePick p q).soundBut fun _ => False := by
  have held : p.lasting ∈ s.claims := List.mem_map_of_mem (List.mem_of_find?_eq_some hp)
  have left := sound_pickLeaves (f := fun x => x.taken q p.quantity) held (fun x _ lawful some share => ?_) hs
  · exact sound_onOrder p.order (f := fun o => o.onLine p.line fun l => { l with picked := l.picked + q, openPicks := l.openPicks - 1 })
      (fun _ => rfl) left
  · have stocked := stocked_of_reserved lawful (show 0 < x.reserved from lt_of_lt_of_le some share)
    obtain ⟨reserved, room, holds, -, measured, reason⟩ := (lawful_stocked stocked).mp lawful
    have share : p.quantity ≤ x.reserved := share
    exact lawful_settled (x := { x with onHand := x.onHand - q, reserved := x.reserved - p.quantity }) stocked
      (show x.reserved - p.quantity ≤ x.onHand - q by omega) (show x.onHand - q + x.pending ≤ 8 by omega) holds measured reason

/-! ### New picks -/

theorem leastBy_pick {s : State} {tag i : Nat} {l : Line} {c : PickCandidate} (h : s.choosePick tag i l = some c) :
    ∃ x, s.slot? c.addr = some x ∧ x.state = .stocked ∧ 0 < x.onHand - x.reserved ∧
      c.quantity = min (x.onHand - x.reserved) (s.unallocated tag i l) := by
  obtain ⟨a, -, found⟩ := List.mem_filterMap.mp (leastBy_mem h)
  split at found
  · next x r hx hr =>
    split at found
    · dsimp only at found
      split at found
      · next ok =>
        cases found
        exact ⟨x, hx, ok.1, ok.2.2.1, rfl⟩
      · cases found
    · cases found
  · cases found

theorem order?_of_line {s : State} {tag i : Nat} {l : Line} (h : s.line? tag i = some l) : (s.order? tag).isSome = true := by
  unfold State.line? at h
  split at h
  · next o ho => rw [ho]; rfl
  · cases h

/-- The record of a new pick (R65). -/
def State.pickFor (s : State) (tag i : Nat) (c : PickCandidate) : Pick :=
  { number := lowestFree (s.picks.map (·.number)) Config.pickPool 0, order := tag, line := i, addr := c.addr, quantity := c.quantity,
    presented := false, seq := s.creations }

/-- A pick is created on a slot with unreserved stock (R64, R65). -/
theorem sound_newPick {s : State} {tag i : Nat} {l : Line} {c : PickCandidate} (room : s.picks.length < Config.pickPool)
    (hl : s.line? tag i = some l) (wanted : s.unallocated tag i l ≠ 0) (hc : s.choosePick tag i l = some c)
    (hs : s.soundBut fun _ => False) : (s.newPick tag i c).soundBut fun _ => False := by
  obtain ⟨articles, slots, ⟨each, nodup⟩, tasks, config⟩ := hs
  obtain ⟨x, hx, stocked, stock, quantity⟩ := leastBy_pick hc
  obtain ⟨lawful, reserved, pending⟩ := slots _ x hx id
  have written : ∀ b, (s.newPick tag i c).slot? b =
      if b = c.addr then some { x with reserved := x.reserved + c.quantity } else s.slot? b := fun b =>
    slot?_updateSlot_all (s := { s with
      picks := insertBy (fun x y => decide (x.number < y.number)) (s.pickFor tag i c) s.picks
      creations := countUp Config.lastCount s.creations }) hx (fun x => { x with reserved := x.reserved + c.quantity }) b
  have stands := stands_of_written hx written
  have sameTasks : (s.newPick tag i c).tasks = s.tasks := State.updateSlot_tasks ..
  have sameOrders : (s.newPick tag i c).orders = s.orders := State.updateSlot_orders ..
  generalize hp : s.pickFor tag i c = p
  have claims : (s.newPick tag i c).claims.Perm (p :: s.claims) := by
    have perm : (insertBy (fun x y => decide (x.number < y.number)) p s.picks).Perm (p :: s.picks) := insertBy_perm ..
    have lasting : p.lasting = p := by rw [← hp]; rfl
    have pool : (s.newPick tag i c).picks = insertBy (fun x y => decide (x.number < y.number)) p s.picks := by
      rw [← hp]
      exact (updateSlot_orders ..).2.1
    rw [State.claims, pool]
    exact (perm.map _).trans (by rw [List.map_cons, lasting]; exact List.Perm.refl _)
  have more : ∀ b, (s.newPick tag i c).reservedOn b = Pick.on b p + s.reservedOn b := fun b => by
    rw [reservedOn_eq, reservedOn_eq, (claims.map _).sum_eq, List.map_cons, List.sum_cons]
  have addr : p.addr = c.addr := by rw [← hp]; rfl
  have amount : p.quantity = c.quantity := by rw [← hp]; rfl
  have some : 1 ≤ c.quantity := by
    rw [quantity]
    exact Nat.le_min.mpr ⟨stock, Nat.one_le_iff_ne_zero.mpr wanted⟩
  refine ⟨articlesSound_of_articles (State.updateSlot_articles ..) articles, slotsSound_write written (fun _ => ?_) (fun b hb => ?_) slots,
    ⟨fun q hq => ?_, ?_⟩, tasksSound_of (by rw [sameTasks]) (fun u hu y hy _ => ⟨u, sameTasks ▸ hu, hy⟩) (fun b hb => (stands b).trans hb) tasks,
    fun hm => ?_⟩
  · obtain ⟨-, rest⟩ := (lawful_stocked stocked).mp lawful
    have within : x.reserved + c.quantity ≤ x.onHand := by
      have := quantity ▸ min_le_left (x.onHand - x.reserved) (s.unallocated tag i l)
      omega
    refine ⟨(lawful_stocked (x := { x with reserved := x.reserved + c.quantity }) stocked).mpr ⟨within, rest⟩, ?_,
      pending.trans (pendingOn_of_tasks sameTasks _).symm⟩
    rw [more, Pick.on, if_pos addr, amount, reserved]
    exact Nat.add_comm ..
  · rw [more, Pick.on, if_neg (addr ▸ hb.symm), Nat.zero_add]
    exact ⟨rfl, pendingOn_of_tasks sameTasks b⟩
  · rcases List.mem_cons.mp (claims.mem_iff.mp hq) with rfl | old
    · refine ⟨amount ▸ some, ?_, ?_⟩
      · rw [stands, addr, hx]
        rfl
      · rw [order?_of_orders sameOrders, ← hp]
        exact order?_of_line hl
    · obtain ⟨some, slot, order⟩ := each q old
      exact ⟨some, (stands _).trans slot, by rwa [order?_of_orders sameOrders]⟩
  · have numbers : s.claims.map (fun p => p.number) = s.picks.map fun p => p.number := by
      rw [State.claims, List.map_map]
      rfl
    refine ((claims.map fun p : Pick => p.number).nodup_iff).mpr (List.nodup_cons.mpr ⟨?_, nodup⟩)
    rw [numbers, ← hp]
    exact (lowestFree_spec _ _ _ (by simpa using room)).1
  · have listed := order?_of_line hl
    have mode : (s.newPick tag i c).mode = s.mode := State.updateSlot_mode ..
    rw [State.order?, (config (mode ▸ hm)).1] at listed
    cases listed

/-! ### Orders -/

theorem sound_freedOrder {s : State} (tag : Nat) (q : List Nat) (freed : ∀ p ∈ s.picks, p.order ≠ tag) (hs : s.soundBut fun _ => False) :
    ({ s with orders := s.orders.filter fun x => decide (x.tag ≠ tag), submission := q } : State).soundBut fun _ => False := by
  obtain ⟨articles, slots, ⟨each, nodup⟩, tasks, config⟩ := hs
  refine ⟨articles, slots, ⟨fun p hp => ?_, nodup⟩, tasks, fun hm => ?_⟩
  · obtain ⟨some, slot, order⟩ := each p hp
    refine ⟨some, slot, ?_⟩
    obtain ⟨o, ho, e⟩ := (order?_isSome s p.order).mp order
    obtain ⟨p', hp', rfl⟩ := List.mem_map.mp hp
    exact (order?_isSome _ _).mpr ⟨o, List.mem_filter.mpr ⟨ho, decide_eq_true (e ▸ freed p' hp')⟩, e⟩
  · obtain ⟨orders, rest⟩ := config hm
    exact ⟨by rw [orders]; rfl, rest⟩

theorem sound_newOrder {s : State} (o : Order) (q : List Nat) (hm : s.mode ≠ .config) (hs : s.soundBut fun _ => False) :
    ({ s with orders := s.orders ++ [o], submission := q } : State).soundBut fun _ => False := by
  obtain ⟨articles, slots, ⟨each, nodup⟩, tasks, -⟩ := hs
  refine ⟨articles, slots, ⟨fun p hp => ?_, nodup⟩, tasks, fun h => absurd h hm⟩
  obtain ⟨some, slot, order⟩ := each p hp
  obtain ⟨o', ho', e⟩ := (order?_isSome s p.order).mp order
  exact ⟨some, slot, (order?_isSome _ _).mpr ⟨o', List.mem_append_left _ ho', e⟩⟩

/-! ### Tasks and their targets -/

theorem tags_onTask (s : State) (tag : Nat) (f : Task → Task) (h : ∀ t, (f t).tag = t.tag) :
    (s.onTask tag f).tasks.map (fun t => t.tag) = s.tasks.map fun t => t.tag := by
  simp only [State.onTask, List.map_map]
  refine List.map_congr_left fun t _ => ?_
  simp only [Function.comp_apply]
  split
  · exact h t
  · rfl

theorem sound_onTask {s : State} {out : SlotAddr → Prop} (tag : Nat) (f : Task → Task) (h : ∀ t, (f t).tag = t.tag ∧ (f t).targets = t.targets)
    (hs : s.soundBut out) : (s.onTask tag f).soundBut out := by
  obtain ⟨articles, slots, picks, tasks, config⟩ := hs
  have targets : ∀ t : Task, (if t.tag = tag then f t else t).targets = t.targets := fun t => by
    split
    · exact (h t).2
    · rfl
  have pending : ∀ a, (s.onTask tag f).pendingOn a = s.pendingOn a := fun a => by
    simp only [pendingOn_eq, State.onTask, List.map_map, Function.comp_def, targets]
  refine ⟨articles, fun a x hx hout => ?_, picks, tasksSound_of (s := s) (by rw [tags_onTask s tag f fun t => (h t).1]) (fun u hu x hx _ => ?_)
    (fun _ => id) tasks, fun hm => ?_⟩
  · rw [pending]
    exact slots a x hx hout
  · obtain ⟨t, ht, rfl⟩ := List.mem_map.mp hu
    exact ⟨t, ht, targets t ▸ hx⟩
  · obtain ⟨orders, noTasks, claims⟩ := config hm
    exact ⟨orders, by simp [State.onTask, noTasks], claims⟩

theorem task?_some {s : State} {tag : Nat} {t : Task} (h : s.task? tag = some t) : t ∈ s.tasks ∧ t.tag = tag :=
  ⟨List.mem_of_find?_eq_some h, by simpa using List.find?_some h⟩

/-- What is pending when the targets of one task have changed. -/
theorem pendingOn_onTask {s : State} (tasks : s.tasksSound) {tag : Nat} {t : Task} (ht : s.task? tag = some t) (g : List Target → List Target)
    (a : SlotAddr) : (s.onTask tag fun t => { t with targets := g t.targets }).pendingOn a + pendingIn a t.targets =
      s.pendingOn a + pendingIn a (g t.targets) := by
  obtain ⟨mem, rfl⟩ := task?_some ht
  rw [pendingOn_eq, pendingOn_eq]
  exact sum_onKey (key := fun t : Task => t.tag) (fun t => pendingIn a t.targets) (fun t => { t with targets := g t.targets }) tasks.2 mem

/-- A task without OPEN targets is freed (R55). -/
theorem sound_endedTask {s : State} {out : SlotAddr → Prop} {tag : Nat} {t : Task} (ht : s.task? tag = some t)
    (ended : t.targets.any Target.isOpen = false) (hs : s.soundBut out) :
    ({ s with tasks := s.tasks.filter fun x => decide (x.tag ≠ tag) } : State).soundBut out := by
  obtain ⟨articles, slots, picks, tasks, config⟩ := hs
  obtain ⟨mem, rfl⟩ := task?_some ht
  have nothing : ∀ a, pendingIn a t.targets = 0 := fun a => by
    have none : t.targets.filter (Target.openOn a) = [] := List.filter_eq_nil_iff.mpr fun x hx => by
      simp [Target.openOn, show x.isOpen = false by simpa using List.any_eq_false.mp ended x hx]
    rw [pendingIn, none]
    rfl
  have pending : ∀ a, ({ s with tasks := s.tasks.filter fun x => decide (x.tag ≠ t.tag) } : State).pendingOn a = s.pendingOn a := fun a => by
    have left := sum_dropKey (key := fun t : Task => t.tag) (fun t => pendingIn a t.targets) tasks.2 mem
    rw [nothing] at left
    rw [pendingOn_eq, pendingOn_eq]
    exact left
  refine ⟨articles, fun a x hx hout => ?_, picks, tasksSound_of (s := s) (List.filter_sublist.map _) (fun u hu x hx _ =>
    ⟨u, (List.mem_filter.mp hu).1, hx⟩) (fun _ => id) tasks, fun hm => ?_⟩
  · rw [pending]
    exact slots a x hx hout
  · obtain ⟨orders, noTasks, claims⟩ := config hm
    exact ⟨orders, by rw [show s.tasks = [] from noTasks]; rfl, claims⟩

theorem sound_endTask {s : State} {out : SlotAddr → Prop} (tag : Nat) (hs : s.soundBut out) : (s.endTask tag).soundBut out := by
  unfold State.endTask
  split
  · next t ht =>
    split
    · exact hs
    · next ended => exact sound_of_quiet (quiet_notify ..) (sound_endedTask ht (by simpa using ended) hs)
  · exact hs

/-- An OPEN target ends, with one write of its slot. -/
theorem sound_closeTarget {s : State} {out : SlotAddr → Prop} {a : SlotAddr} {y : Slot} {tag : Nat} {o : TargetOutcome} {f : Slot → Slot}
    (closed : o ≠ .opened) (hy : s.slot? a = some y)
    (here : ¬out a → (f y).lawful ∧ (f y).reserved = s.reservedOn a ∧ (f y).pending = (s.closeTarget tag a o).pendingOn a)
    (hs : s.soundBut out) : ((s.updateSlot a f).closeTarget tag a o).soundBut out := by
  obtain ⟨articles, slots, picks, tasks, config⟩ := hs
  generalize ht : (s.updateSlot a f).closeTarget tag a o = t
  have sameTasks : t.tasks = (s.closeTarget tag a o).tasks := by rw [← ht]; simp [State.closeTarget, State.onTask]
  have written : ∀ b, t.slot? b = if b = a then some (f y) else s.slot? b := by rw [← ht]; exact slot?_updateSlot_all hy f
  have claims : t.claims = s.claims := by
    rw [← ht, State.claims, State.claims]
    exact congrArg (List.map Pick.lasting) (updateSlot_orders s a f).2.1
  have sameOrders : t.orders = s.orders := by rw [← ht]; exact (updateSlot_orders s a f).1
  have stands : ∀ b, (s.slot? b).isSome = true → (t.slot? b).isSome = true := fun b hb => (stands_of_written hy written b).trans hb
  have tagged : ∀ t : Task, ({ t with targets := closeIn a o t.targets } : Task).tag = t.tag := fun _ => rfl
  refine ⟨articlesSound_of_articles (by rw [← ht]; exact State.updateSlot_articles ..) articles, slotsSound_write written (fun hout => ?_)
    (fun b hb => ⟨reservedOn_of_claims claims b, ?_⟩) slots, picksSound_of (by rw [claims]) stands
    (fun p _ ho => by rwa [order?_of_orders sameOrders]) picks,
    tasksSound_of (by rw [sameTasks]; exact (tags_onTask s tag _ tagged).symm ▸ List.Sublist.refl _) (fun u hu x hx hopen => ?_) stands tasks,
    fun hm => ?_⟩
  · rw [reservedOn_of_claims claims, pendingOn_of_tasks sameTasks]
    exact here hout
  · rw [pendingOn_of_tasks sameTasks, pendingOn_eq, pendingOn_eq, State.closeTarget, State.onTask, List.map_map]
    refine congrArg List.sum (List.map_congr_left fun u _ => ?_)
    simp only [Function.comp_apply]
    split
    · exact pendingIn_closeIn_other closed hb _
    · rfl
  · rw [sameTasks] at hu
    obtain ⟨u', hu', rfl⟩ := List.mem_map.mp hu
    refine ⟨u', hu', ?_⟩
    split at hx
    · exact mem_of_open_closeIn closed hx hopen
    · exact hx
  · obtain ⟨orders, noTasks, noClaims⟩ := config ((by rw [← ht]; exact (State.updateSlot_mode ..).symm : s.mode = t.mode).trans hm)
    refine ⟨sameOrders.trans orders, ?_, claims.trans noClaims⟩
    rw [sameTasks, State.closeTarget, State.onTask, noTasks]
    rfl

/-- A target ends with `q` of its tyres stored (R50, R53). -/
theorem sound_settleTarget {s : State} {tag q : Nat} {a : SlotAddr} {t : Task} {x : Target} {o : TargetOutcome} (closed : o ≠ .opened)
    (ht : s.task? tag = some t) (hx : t.openTarget a = some x) (hq : q ≤ x.quantity) (hs : s.soundBut fun _ => False) :
    (s.settleTarget tag a q x.quantity o).soundBut fun _ => False := by
  obtain ⟨articles, slots, picks, tasks, config⟩ := id hs
  obtain ⟨mem, -⟩ := task?_some ht
  have found : x ∈ t.targets := List.mem_of_find?_eq_some hx
  have opened : x.isOpen = true ∧ x.addr = a := by
    simpa [Target.openOn] using List.find?_some hx
  obtain ⟨some, stands⟩ := tasks.1 t mem x found opened.1
  obtain ⟨y, hy⟩ := Option.isSome_iff_exists.mp (opened.2 ▸ stands)
  obtain ⟨lawful, reserved, pending⟩ := slots a y hy id
  have left : (s.closeTarget tag a o).pendingOn a + pendingIn a t.targets = s.pendingOn a + pendingIn a (closeIn a o t.targets) :=
    pendingOn_onTask tasks ht (closeIn a o) a
  have ended := pendingIn_closeIn closed (a := a) (xs := t.targets) hx
  have share : x.quantity ≤ y.pending := by
    have within : pendingIn a t.targets ≤ s.pendingOn a := by
      rw [pendingOn_eq]
      exact List.single_le_sum (fun _ _ => Nat.zero_le _) _ (List.mem_map_of_mem mem)
    omega
  have stocked := stocked_of_pending lawful (show 0 < y.pending by omega)
  obtain ⟨within, room, holds, -, measured, reason⟩ := (lawful_stocked stocked).mp lawful
  obtain ⟨new, same, less⟩ := lawful_settled (x := { y with onHand := y.onHand + q, pending := y.pending - x.quantity }) stocked
    (show y.reserved ≤ y.onHand + q by omega) (show y.onHand + q + (y.pending - x.quantity) ≤ 8 by omega) holds measured reason
  refine sound_closeTarget closed hy (fun _ => ⟨new, same.trans reserved, less.trans ?_⟩) hs
  show y.pending - x.quantity = _
  omega

/-- The host cancels the OPEN targets of a task in their order (R53). -/
theorem sound_cancelTargets {s : State} {tag : Nat} (xs : List Target) {t : Task} (ht : s.task? tag = some t)
    (opened : t.targets.filter Target.isOpen = xs) (hs : s.soundBut fun _ => False) :
    (xs.foldl (fun s x => s.cancelTarget tag x .host) s).soundBut fun _ => False := by
  induction xs generalizing s t with
  | nil => exact hs
  | cons x xs ih =>
    have closed : TargetOutcome.cancelled CancelCause.host ≠ .opened := by simp
    obtain ⟨first, rest⟩ := open_closeIn closed opened
    have cancelled := sound_of_quiet (quiet_cancelTarget_host s tag x) (sound_settleTarget (q := 0) closed ht first (Nat.zero_le _) hs)
    refine ih (t := { t with targets := closeIn x.addr (.cancelled .host) t.targets }) ?_ rest cancelled
    obtain ⟨-, tagged⟩ := task?_some ht
    have tasks : (s.cancelTarget tag x .host).tasks = (s.closeTarget tag x.addr (.cancelled .host)).tasks := cancelTarget_tasks ..
    rw [State.task?, tasks, State.closeTarget, State.onTask, List.find?_map]
    have same : ((fun t : Task => t.tag == tag) ∘ fun t : Task => if t.tag = tag then
        { t with targets := modifyAt (fun y : Target => { y with outcome := .cancelled .host }) (t.targets.findIdx (Target.openOn x.addr)) t.targets }
        else t) = fun t => t.tag == tag := by
      funext u
      simp only [Function.comp_apply]
      split <;> rfl
    rw [same, show s.tasks.find? (fun t => t.tag == tag) = some t from ht, Option.map_some, if_pos tagged]
    rfl

/-! ### Put-away -/

theorem stackLimit_le {s : State} (hs : s.articlesSound) {place : Nat} {art : Article} (ha : s.articleAt place = some art) :
    art.stackLimit ≤ 8 := by
  have fits := (hs.2 _ (articleAt_mem ha)).2
  simp only [Article.inRange, inRange, Bool.and_eq_true, decide_eq_true_eq] at fits
  exact fits.2.2

theorem baseLimit_le {s : State} (hs : s.articlesSound) (a : SlotAddr) {place : Nat} {art : Article} (ha : s.articleAt place = some art) :
    s.baseLimit a art ≤ 8 :=
  (min_le_right ..).trans (stackLimit_le hs ha)

/-- A STOCKED slot is filled to 8 at most (R10). -/
theorem room_le {s : State} (hs : s.articlesSound) {a : SlotAddr} {x : Slot} {q : Nat} (hq : 0 < q) (room : q ≤ s.room a x) :
    x.onHand + x.pending + q ≤ 8 := by
  have held : s.heldLimit a x ≤ 8 := by
    unfold State.heldLimit
    split
    · split
      · next ha => exact baseLimit_le hs a ha
      · omega
    · omega
  unfold State.room State.effectiveLimit at room
  omega

/-- A created target is placed in a slot that is STOCKED with the article and has the room, or FREE (R13, R47). -/
theorem lawful_withTarget {s : State} (hs : s.articlesSound) {place batch : Nat} {art : Article} {pref : Option Nat} {remaining : Nat}
    {c : Candidate} {x : Slot} {t : Tier} (ha : s.articleAt place = some art) (lawful : x.lawful) (ht : t ∈ tiers art.sizeClass)
    (hq : 0 < c.quantity) (offer : c.quantity = s.putOffer place batch art pref remaining t c.addr x) :
    (x.withTarget place batch c.quantity).lawful ∧ (x.withTarget place batch c.quantity).reserved = x.reserved ∧
      (x.withTarget place batch c.quantity).pending = x.pending + c.quantity := by
  unfold Slot.withTarget
  rcases putOffer_cases ht hq offer with ⟨stocked, -, room⟩ | ⟨free, -, limit⟩
  · rw [if_neg (by simp [stocked])]
    obtain ⟨reserved, -, holds, some, rest⟩ := (lawful_stocked stocked).mp lawful
    have full := room_le hs hq room
    refine ⟨(lawful_stocked (x := { x with pending := x.pending + c.quantity }) stocked).mpr ⟨reserved, ?_, holds, ?_, rest⟩, rfl, rfl⟩
    · show x.onHand + (x.pending + c.quantity) ≤ 8
      omega
    · show 0 < x.onHand + (x.pending + c.quantity)
      omega
  · rw [if_pos free]
    have empty : x = Slot.freeSlot := by
      have byState := lawful.2.2.2
      rwa [free] at byState
    have within := limit.trans (baseLimit_le hs c.addr ha)
    refine ⟨(lawful_stocked rfl).mpr ⟨le_refl _, ?_, rfl, ?_, rfl, rfl⟩, by rw [empty], ?_⟩
    · show 0 + c.quantity ≤ 8
      omega
    · show 0 < 0 + c.quantity
      omega
    · rw [empty]
      exact (Nat.zero_add _).symm

theorem pendingIn_append (a : SlotAddr) (xs : List Target) (x : Target) :
    pendingIn a (xs ++ [x]) = pendingIn a xs + if x.openOn a then x.quantity else 0 := by
  unfold pendingIn
  rw [total_eq_sum, total_eq_sum, List.filter_append, List.map_append, List.sum_append]
  by_cases h : x.openOn a = true
  · simp [h]
  · simp [h]

theorem sound_createTarget {s : State} {tag place batch : Nat} {art : Article} {pref : Option Nat} {remaining : Nat} {c : Candidate} {t : Task}
    (ha : s.articleAt place = some art) (hc : s.choosePut place batch art pref remaining = some c) (ht : s.task? tag = some t)
    (hm : s.mode ≠ .config) (hs : s.soundBut fun _ => False) : (s.createTarget tag place batch c).soundBut fun _ => False := by
  refine sound_of_quiet (quiet_createTarget ..) ?_
  obtain ⟨articles, slots, picks, tasks, -⟩ := hs
  obtain ⟨tier, htier, x, hx, hq, offer⟩ := choosePut_offer hc
  obtain ⟨lawful, reserved, pending⟩ := slots _ x hx id
  obtain ⟨new, same, more⟩ := lawful_withTarget articles ha lawful htier hq offer
  obtain ⟨mem, tagged⟩ := task?_some ht
  generalize hu : s.onTask tag (fun t => { t with targets := t.targets ++ [{ addr := c.addr, quantity := c.quantity, outcome := .opened }] }) = u
  have grown : ∀ b, u.pendingOn b = s.pendingOn b + if b = c.addr then c.quantity else 0 := fun b => by
    have h := pendingOn_onTask tasks ht (fun xs => xs ++ [{ addr := c.addr, quantity := c.quantity, outcome := .opened }]) b
    rw [hu, pendingIn_append] at h
    simp only [Target.openOn, Target.isOpen, decide_true, Bool.true_and, beq_iff_eq, eq_comm (a := c.addr)] at h
    omega
  have hxu : u.slot? c.addr = some x := by rw [← hu]; exact hx
  have written := slot?_updateSlot_all hxu fun slot => slot.withTarget place batch c.quantity
  have stands : ∀ b, (s.slot? b).isSome = true → ((u.updateSlot c.addr fun slot => slot.withTarget place batch c.quantity).slot? b).isSome = true :=
    fun b hb => (stands_of_written hxu written b).trans (by rw [← hu]; exact hb)
  have sameTasks : (u.updateSlot c.addr fun slot => slot.withTarget place batch c.quantity).tasks = u.tasks := State.updateSlot_tasks ..
  have orders : ∀ tag', (u.updateSlot c.addr fun slot => slot.withTarget place batch c.quantity).order? tag' = s.order? tag' := fun tag' =>
    order?_of_orders ((updateSlot_orders ..).1.trans (by rw [← hu]; rfl)) tag'
  have claims : (u.updateSlot c.addr fun slot => slot.withTarget place batch c.quantity).claims = s.claims := by
    rw [State.claims, (updateSlot_orders ..).2.1, ← hu]
    rfl
  have table : (u.updateSlot c.addr fun slot => slot.withTarget place batch c.quantity).articles = s.articles :=
    (State.updateSlot_articles ..).trans (by rw [← hu]; rfl)
  have mode : (u.updateSlot c.addr fun slot => slot.withTarget place batch c.quantity).mode = s.mode :=
    (State.updateSlot_mode ..).trans (by rw [← hu]; rfl)
  refine ⟨articlesSound_of_articles table articles, slotsSound_write (s := s) (by rw [← hu] at written ⊢; exact written) (fun _ => ?_)
    (fun b hb => ⟨reservedOn_of_claims claims b, ?_⟩) slots, picksSound_of (by rw [claims]) stands (fun p _ ho => by rwa [orders]) picks,
    ⟨fun v hv y hy ho => ?_, ?_⟩, fun h => absurd (mode ▸ h) hm⟩
  · rw [reservedOn_of_claims claims, pendingOn_of_tasks sameTasks, grown, if_pos rfl]
    exact ⟨new, same.trans reserved, more.trans (by rw [pending])⟩
  · rw [pendingOn_of_tasks sameTasks, grown, if_neg hb, Nat.add_zero]
  · rw [sameTasks, ← hu] at hv
    obtain ⟨w, hw, rfl⟩ := List.mem_map.mp hv
    split at hy
    · rcases List.mem_append.mp hy with old | added
      · obtain ⟨some, slot⟩ := tasks.1 w hw y old ho
        exact ⟨some, stands _ slot⟩
      · rw [List.mem_singleton.mp added]
        exact ⟨hq, stands _ (by rw [hx]; rfl)⟩
    · obtain ⟨some, slot⟩ := tasks.1 w hw y hy ho
      exact ⟨some, stands _ slot⟩
  · rw [sameTasks, ← hu, tags_onTask]
    · exact tasks.2
    · exact fun _ => rfl

theorem sound_allocatePut {s : State} {tag place batch : Nat} {art : Article} {pref : Option Nat} (left remaining : Nat) {t : Task}
    (ha : s.articleAt place = some art) (ht : s.task? tag = some t) (hm : s.mode ≠ .config) (hs : s.soundBut fun _ => False) :
    (s.allocatePut tag place batch art pref left remaining).soundBut fun _ => False := by
  induction left generalizing s remaining t with
  | zero => exact hs
  | succ left ih =>
    unfold State.allocatePut
    split
    · exact hs
    · split
      · exact hs
      · next c hc =>
        have table : (s.createTarget tag place batch c).articles = s.articles :=
          (congrArg (fun o => o.2.1) (outer_createTarget s tag place batch c) :)
        have mode : (s.createTarget tag place batch c).mode = s.mode :=
          (quiet_createTarget s tag place batch c).mode.trans (State.updateSlot_mode ..)
        have listed : ((s.createTarget tag place batch c).task? tag).isSome = true := by
          obtain ⟨mem, tagged⟩ := task?_some ht
          rw [State.task?, createTarget_tasks, List.find?_isSome]
          exact ⟨_, List.mem_map_of_mem mem, by simp [tagged]⟩
        obtain ⟨u, hu⟩ := Option.isSome_iff_exists.mp listed
        exact ih _ (by rwa [State.articleAt, table]) hu (mode ▸ hm) (sound_createTarget ha hc ht hm hs)

/-- A new task has no target yet. -/
theorem sound_newTask {s : State} {code place : Nat} {art : Article} {task batch quantity : Nat} {pref : Option Nat} (hm : s.mode ≠ .config)
    (ha : s.articleOf code = some (place, art)) (fresh : s.task? task = none) (hs : s.soundBut fun _ => False) :
    (s.allocateTask task place art batch quantity pref).soundBut fun _ => False := by
  unfold State.allocateTask
  dsimp only
  generalize ht : ({ tag := task, place := place, batch := batch, requested := quantity, placed := 0, state := .opened, targets := [] } : Task) = t
  have tagged : t.tag = task := by rw [← ht]
  have none : t.targets = [] := by rw [← ht]
  obtain ⟨articles, slots, picks, tasks, -⟩ := hs
  have pending : ∀ a, ({ s with tasks := s.tasks ++ [t] } : State).pendingOn a = s.pendingOn a := fun a => by
    rw [pendingOn_eq, pendingOn_eq, List.map_append, List.sum_append]
    simp [none, pendingIn, total_eq_sum]
  refine sound_allocatePut (t := t) _ _ (articleAt_of_articleOf articles ha) ?_ hm ⟨articles, fun a x hx hout => ?_, picks, ⟨fun u hu x hx ho => ?_, ?_⟩,
    fun h => absurd h hm⟩
  · rw [State.task?, List.find?_append, show s.tasks.find? (fun t => t.tag == task) = Option.none from fresh]
    simp [tagged]
  · rw [pending]
    exact slots a x hx hout
  · rcases List.mem_append.mp hu with old | new
    · exact tasks.1 u old x hx ho
    · rw [List.mem_singleton.mp new, none] at hx
      cases hx
  · rw [List.map_append, List.map_singleton, List.nodup_append]
    refine ⟨tasks.2, List.nodup_singleton _, fun n hn m hm e => ?_⟩
    obtain ⟨u, hu, rfl⟩ := List.mem_map.mp hn
    rw [List.mem_singleton.mp hm, tagged] at e
    simpa [e] using List.find?_eq_none.mp fresh u hu

/-! ### Quarantine entry (R15) -/

/-- What a quarantine entry needs of the contents of its slot. -/
def Slot.contentsLawful (x : Slot) : Prop := x.onHand ≤ 8 ∧ (0 < x.onHand → x.held.isSome = true)

/-- A slot `a` whose reservations are being cancelled: no pick claims it, and every OPEN target on it is listed in `rest`. -/
structure State.Clearing (a : SlotAddr) (rest : List (Nat × Target)) (s : State) : Prop where
  sound : s.soundBut fun b => b = a
  slot : ∃ x, s.slot? a = some x ∧ x.contentsLawful
  unclaimed : ∀ p ∈ s.claims, p.addr ≠ a
  listed : ∀ t ∈ s.tasks, t.targets.countP (Target.openOn a) ≤ rest.countP fun q => decide (q.1 = t.tag)

theorem soundBut_weaken {s : State} {out out' : SlotAddr → Prop} (h : ∀ a, out a → out' a) (hs : s.soundBut out) : s.soundBut out' := by
  obtain ⟨articles, slots, rest⟩ := hs
  exact ⟨articles, fun a x hx hout => slots a x hx fun ho => hout (h a ho), rest⟩

/-- The cancelled picks of a slot leave its contents. -/
theorem contents_cancelPicks {a : SlotAddr} (ps : List Pick) {s : State} (h : ∃ x, s.slot? a = some x ∧ x.contentsLawful) :
    ∃ x, (ps.foldl (fun s p => s.cancelPick p) s).slot? a = some x ∧ x.contentsLawful := by
  induction ps generalizing s with
  | nil => exact h
  | cons p ps ih =>
    refine ih ?_
    obtain ⟨x, hx, contents⟩ := h
    rw [slot?_of_quiet (quiet_cancelPick s p)]
    show ∃ x, (s.updateSlot p.addr fun slot => { slot with reserved := slot.reserved - p.quantity }).slot? a = some x ∧ x.contentsLawful
    by_cases e : p.addr = a
    · subst e
      exact ⟨_, slot?_updateSlot hx _, contents⟩
    · refine ⟨x, ?_, contents⟩
      unfold State.updateSlot
      split
      · exact (slot?_writeSlot_other (Ne.symm e) _).trans hx
      · exact hx

theorem tasks_cancelPicks (ps : List Pick) (s : State) : (ps.foldl (fun s p => s.cancelPick p) s).tasks = s.tasks := by
  have one : ∀ (s : State) p, (s.cancelPick p).tasks = s.tasks := fun s p =>
    (quiet_cancelPick s p).tasks.trans (State.updateSlot_tasks ..)
  induction ps generalizing s with
  | nil => rfl
  | cons p ps ih => exact (ih _).trans (one s p)

/-- The picks of the slot are cancelled first. -/
theorem clearing_picks {s : State} {a : SlotAddr} {x : Slot} (hx : s.slot? a = some x) (hs : s.soundBut fun _ => False) :
    ((s.slotPicks a).foldl (fun s p => s.cancelPick p) s).Clearing a (s.slotTargets a) := by
  have perm : (s.slotPicks a).Perm (s.picks.filter fun p => p.addr == a) := sortBy_perm ..
  obtain ⟨nodup, held⟩ := listed_picks hs.2.2.1 perm
  refine ⟨sound_cancelPicks _ nodup held (soundBut_weaken (fun _ h => h.elim) hs), contents_cancelPicks _ ⟨x, hx, ?_⟩, fun p hp ha => ?_,
    fun t ht => ?_⟩
  · obtain ⟨-, room, holds, -⟩ := (hs.2.1 a x hx id).1
    exact ⟨by omega, fun some => holds (by omega)⟩
  · rw [State.claims, picks_cancelPicks] at hp
    obtain ⟨claim, gone⟩ := List.mem_filter.mp hp
    obtain ⟨q, hq, rfl⟩ := List.mem_map.mp claim
    have cancelled : q ∈ s.slotPicks a := perm.mem_iff.mpr (List.mem_filter.mpr ⟨hq, beq_iff_eq.mpr ha⟩)
    exact of_decide_eq_true gone (List.mem_map.mpr ⟨q, cancelled, rfl⟩)
  · rw [tasks_cancelPicks] at ht
    have targets : (s.slotTargets a).Perm (s.tasks.flatMap fun t => (t.targets.filter (Target.openOn a)).map fun x => (t.tag, x)) :=
      sortBy_perm ..
    rw [targets.countP_eq]
    have piece : ((t.targets.filter (Target.openOn a)).map fun x => (t.tag, x)).Sublist
        (s.tasks.flatMap fun t => (t.targets.filter (Target.openOn a)).map fun x => (t.tag, x)) :=
      List.sublist_flatten_of_mem (List.mem_map_of_mem ht)
    refine le_trans (le_of_eq ?_) piece.countP_le
    rw [List.countP_map, List.countP_eq_length_filter, eq_comm, List.countP_eq_length]
    exact fun _ _ => decide_eq_true rfl

theorem clearing_endTask {s : State} {a : SlotAddr} {rest : List (Nat × Target)} (tag : Nat) (hs : s.Clearing a rest) :
    (s.endTask tag).Clearing a rest := by
  obtain ⟨sound, slot, unclaimed, listed⟩ := hs
  refine ⟨sound_endTask tag sound, ?_, ?_, ?_⟩ <;> unfold State.endTask <;> split
  · split
    · exact slot
    · rw [slot?_of_quiet (quiet_notify ..)]
      exact slot
  · exact slot
  · split
    · exact unclaimed
    · rw [State.claims, State.notify_picks]
      exact unclaimed
  · exact unclaimed
  · split
    · exact listed
    · rw [State.notify_tasks]
      exact fun t ht => listed t (List.mem_of_mem_filter ht)
  · exact listed

/-- A target of the slot that is cancelled is no longer listed. -/
theorem clearing_cancelTarget {s : State} {a : SlotAddr} {rest : List (Nat × Target)} {q : Nat × Target} (hq : q.2.addr = a)
    (hs : s.Clearing a (q :: rest)) : (s.cancelTarget q.1 q.2 .quarantine).Clearing a rest := by
  obtain ⟨sound, ⟨x, hx, contents⟩, unclaimed, listed⟩ := hs
  have closed : TargetOutcome.cancelled CancelCause.quarantine ≠ .opened := by simp
  generalize hf : (fun slot : Slot => ({ slot with pending := slot.pending - q.2.quantity } : Slot)) = f
  have quiet : Quiet ((s.updateSlot a f).closeTarget q.1 a (.cancelled .quarantine)) (s.cancelTarget q.1 q.2 .quarantine) := by
    rw [← hf, ← hq]
    exact (quiet_removeEntry ..).trans (quiet_recompute ..)
  have closes := sound_closeTarget (out := fun b => b = a) (tag := q.1) (f := f) closed hx (fun out => absurd rfl out) sound
  refine ⟨sound_of_quiet quiet closes, ⟨f x, (slot?_of_quiet quiet a).trans (slot?_updateSlot hx f), ?_⟩, fun p hp => ?_, fun t ht => ?_⟩
  · rw [← hf]
    exact contents
  · have claims : (s.cancelTarget q.1 q.2 .quarantine).claims = s.claims :=
      quiet.picks.trans (congrArg (List.map Pick.lasting) (updateSlot_orders s a f).2.1)
    exact unclaimed p (claims ▸ hp)
  · rw [cancelTarget_tasks, hq] at ht
    obtain ⟨u, hu, rfl⟩ := List.mem_map.mp ht
    have before := listed u hu
    rw [List.countP_cons] at before
    split
    · next e =>
      rw [if_pos (by simp [e])] at before
      have fewer := count_closeIn (a := a) closed u.targets
      show (closeIn a (.cancelled .quarantine) u.targets).countP (Target.openOn a) ≤ rest.countP fun q => decide (q.1 = u.tag)
      omega
    · next e =>
      rwa [if_neg (by simpa using Ne.symm e), Nat.add_zero] at before

theorem clearing_targets {a : SlotAddr} (qs : List (Nat × Target)) {s : State} (hq : ∀ q ∈ qs, q.2.addr = a) (hs : s.Clearing a qs) :
    (qs.foldl (fun s q => (s.cancelTarget q.1 q.2 .quarantine).endTask q.1) s).Clearing a [] := by
  induction qs generalizing s with
  | nil => exact hs
  | cons q qs ih =>
    exact ih (fun q hq' => hq q (List.mem_cons_of_mem _ hq'))
      (clearing_endTask _ (clearing_cancelTarget (hq q List.mem_cons_self) hs))

theorem slotTargets_addr {s : State} {a : SlotAddr} {q : Nat × Target} (h : q ∈ s.slotTargets a) : q.2.addr = a := by
  obtain ⟨t, -, hq⟩ := List.mem_flatMap.mp ((sortBy_perm ..).mem_iff.mp h)
  obtain ⟨x, hx, rfl⟩ := List.mem_map.mp hq
  have named := (List.mem_filter.mp hx).2
  simp only [Bool.and_eq_true, beq_iff_eq] at named
  exact named.2

/-- An address that names no slot has nothing to cancel. -/
theorem clearReservations_none {s : State} {a : SlotAddr} (hx : s.slot? a = none) (hs : s.soundBut fun _ => False) :
    s.clearReservations a = s := by
  obtain ⟨-, -, picks, tasks, -⟩ := hs
  have noPicks : s.slotPicks a = [] := by
    refine List.eq_nil_iff_forall_not_mem.mpr fun p hp => ?_
    obtain ⟨mem, addr⟩ := List.mem_filter.mp ((sortBy_perm ..).mem_iff.mp hp)
    have stands := (picks.1 p.lasting (List.mem_map_of_mem mem)).2.1
    rw [show p.lasting.addr = a from beq_iff_eq.mp addr, hx] at stands
    cases stands
  have noTargets : s.slotTargets a = [] := by
    refine List.eq_nil_iff_forall_not_mem.mpr fun q hq => ?_
    obtain ⟨t, ht, hq⟩ := List.mem_flatMap.mp ((sortBy_perm ..).mem_iff.mp hq)
    obtain ⟨x, hx', rfl⟩ := List.mem_map.mp hq
    obtain ⟨mem, named⟩ := List.mem_filter.mp hx'
    simp only [Bool.and_eq_true, beq_iff_eq] at named
    have stands := (tasks.1 t ht x mem named.1).2
    rw [named.2, hx] at stands
    cases stands
  rw [State.clearReservations, noPicks, noTargets]
  rfl

/-- A slot whose reservations are cancelled is lawful in QUARANTINE. -/
theorem sound_quarantined {s : State} {a : SlotAddr} {y : Slot} (r : Reason) (load : Option Nat) (hy : s.slot? a = some y)
    (contents : y.contentsLawful) (reserved : s.reservedOn a = 0) (pending : s.pendingOn a = 0) (hs : s.soundBut fun b => b = a) :
    (s.updateSlot a fun slot => { slot with state := .quarantine, reserved := 0, pending := 0, measured := load, reason := some r }).soundBut
      fun _ => False := by
  obtain ⟨articles, slots, picks, tasks, config⟩ := hs
  generalize hf : (fun slot : Slot => ({ slot with state := .quarantine, reserved := 0, pending := 0, measured := load, reason := some r } :
    Slot)) = f
  have lawful : (f y).lawful ∧ (f y).reserved = 0 ∧ (f y).pending = 0 := by
    rw [← hf]
    exact ⟨⟨Nat.zero_le _, contents.1, contents.2, rfl, rfl, rfl⟩, rfl, rfl⟩
  have written := slot?_updateSlot_all hy f
  have stands : ∀ b, (s.slot? b).isSome = true → ((s.updateSlot a f).slot? b).isSome = true := fun b hb =>
    (stands_of_written hy written b).trans hb
  have claims : (s.updateSlot a f).claims = s.claims := congrArg (List.map Pick.lasting) (updateSlot_orders s a f).2.1
  have sameTasks : (s.updateSlot a f).tasks = s.tasks := State.updateSlot_tasks ..
  have sameOrders : (s.updateSlot a f).orders = s.orders := (updateSlot_orders s a f).1
  refine ⟨articlesSound_of_articles (State.updateSlot_articles ..) articles, fun b x hx _ => ?_, picksSound_of (by rw [claims]) stands
    (fun p _ ho => by rwa [order?_of_orders sameOrders]) picks, tasksSound_of (by rw [sameTasks]) (fun u hu x hx _ =>
    ⟨u, sameTasks ▸ hu, hx⟩) stands tasks, ?_⟩
  · rw [reservedOn_of_claims claims, pendingOn_of_tasks sameTasks]
    rw [written] at hx
    split at hx
    · next e =>
      cases hx
      rw [e, reserved, pending]
      exact lawful
    · next e => exact slots b x hx e
  · rw [State.configSound, State.updateSlot_mode, sameOrders, sameTasks, claims]
    exact config

theorem sound_quarantine {s : State} (a : SlotAddr) (r : Reason) (load : Option Nat) (hs : s.soundBut fun _ => False) :
    (s.quarantine a r load).soundBut fun _ => False := by
  cases hx : s.slot? a with
  | none =>
    rw [State.quarantine, clearReservations_none hx hs, State.updateSlot, hx]
    exact hs
  | some x =>
    obtain ⟨sound, ⟨y, hy, contents⟩, unclaimed, listed⟩ :=
      clearing_targets _ (fun q hq => slotTargets_addr hq) (clearing_picks hx hs)
    refine sound_quarantined r load hy contents ?_ ?_ sound
    · rw [reservedOn_eq, List.sum_eq_zero]
      intro n hn
      obtain ⟨p, hp, rfl⟩ := List.mem_map.mp hn
      exact if_neg (unclaimed p hp)
    · rw [pendingOn_eq, List.sum_eq_zero]
      intro n hn
      obtain ⟨t, ht, rfl⟩ := List.mem_map.mp hn
      have none : t.targets.filter (Target.openOn a) = [] := by
        have := listed t ht
        rw [← List.length_eq_zero_iff, ← List.countP_eq_length_filter]
        simpa using this
      rw [pendingIn, none]
      rfl

/-! ### Writes that leave the claims -/

/-- A slot record written with the same reservations. -/
theorem sound_writeSlot {s : State} {a : SlotAddr} {x y : Slot} (hx : s.slot? a = some x)
    (here : x.lawful → y.lawful ∧ y.reserved = x.reserved ∧ y.pending = x.pending) (hs : s.soundBut fun _ => False) :
    (s.writeSlot a y).soundBut fun _ => False := by
  obtain ⟨articles, slots, picks, tasks, config⟩ := hs
  have written := slot?_writeSlot_all hx y
  have stands : ∀ b, (s.slot? b).isSome = true → ((s.writeSlot a y).slot? b).isSome = true := fun b hb =>
    (stands_of_written hx written b).trans hb
  have claims : (s.writeSlot a y).claims = s.claims := congrArg (List.map Pick.lasting) (State.writeSlot_picks ..)
  have sameTasks : (s.writeSlot a y).tasks = s.tasks := State.writeSlot_tasks ..
  have sameOrders : (s.writeSlot a y).orders = s.orders := State.writeSlot_orders ..
  refine ⟨articlesSound_of_articles (State.writeSlot_articles ..) articles, slotsSound_write written (fun _ => ?_) (fun b _ =>
    ⟨reservedOn_of_claims claims b, pendingOn_of_tasks sameTasks b⟩) slots, picksSound_of (by rw [claims]) stands
    (fun p _ ho => by rwa [order?_of_orders sameOrders]) picks, tasksSound_of (by rw [sameTasks]) (fun u hu z hz _ =>
    ⟨u, sameTasks ▸ hu, hz⟩) stands tasks, ?_⟩
  · obtain ⟨lawful, reserved, pending⟩ := slots a x hx id
    obtain ⟨new, sameReserved, samePending⟩ := here lawful
    rw [reservedOn_of_claims claims, pendingOn_of_tasks sameTasks]
    exact ⟨new, sameReserved.trans reserved, samePending.trans pending⟩
  · rw [State.configSound, State.writeSlot_mode, sameOrders, sameTasks, claims]
    exact config

/-- In CONFIG nothing is claimed. -/
theorem unclaimed_of_config {s : State} (hm : s.mode = .config) (hs : s.soundBut fun _ => False) :
    s.claims = [] ∧ s.tasks = [] ∧ ∀ a, s.reservedOn a = 0 ∧ s.pendingOn a = 0 := by
  obtain ⟨-, -, -, -, config⟩ := hs
  obtain ⟨-, tasks, claims⟩ := config hm
  refine ⟨claims, tasks, fun a => ?_⟩
  rw [reservedOn_eq, pendingOn_eq, claims, tasks]
  exact ⟨rfl, rfl⟩

/-- What the checks of a request let through is an article if there is any on-hand (R17). -/
theorem holds_of_onHand {s : State} {a : SlotAddr} {code batch n : Nat} {held : Option Holding}
    (hc : s.contentChecks a code batch n = .ok held) (hn : n ≠ 0) : held.isSome = true := by
  unfold State.contentChecks at hc
  split at hc
  · rw [if_pos (by omega)] at hc
    cases hc
  · split at hc
    · cases hc
    · split at hc <;> cases hc
      rfl

/-- A slot in WITHDRAWN or QUARANTINE has no reservations. -/
theorem unreserved_of_out {x : Slot} (h : x.lawful) (hx : x.state = .withdrawn ∨ x.state = .quarantine) : x.reserved = 0 ∧ x.pending = 0 := by
  obtain ⟨-, -, -, byState⟩ := h
  rcases hx with e | e <;> rw [e] at byState
  · exact ⟨byState.1, byState.2.1⟩
  · exact ⟨byState.1, byState.2.1⟩

/-- A slot without reservations is lawful when it returns to service (R16, R20). -/
theorem lawful_restored {x : Slot} (reserved : x.reserved = 0) (pending : x.pending = 0) (contents : x.contentsLawful) :
    x.restored.lawful ∧ x.restored.reserved = x.reserved ∧ x.restored.pending = x.pending := by
  unfold Slot.restored
  split
  · next some =>
    obtain ⟨room, holds⟩ := contents
    refine ⟨(lawful_stocked (x := { x with state := .stocked, measured := none, reason := none }) rfl).mpr ⟨?_, ?_, holds some, ?_, rfl, rfl⟩,
      rfl, rfl⟩
    · show x.reserved ≤ x.onHand
      omega
    · show x.onHand + x.pending ≤ 8
      omega
    · show 0 < x.onHand + x.pending
      omega
  · exact ⟨lawful_free, reserved.symm, pending.symm⟩

theorem contents_of_lawful {x : Slot} (h : x.lawful) : x.contentsLawful := by
  obtain ⟨-, room, holds, -⟩ := h
  exact ⟨by omega, fun some => holds (by omega)⟩

theorem contents_withContents {x : Slot} {held : Option Holding} {n : Nat} (hn : n ≤ 8) (holds : n ≠ 0 → held.isSome = true) :
    (x.withContents held n).contentsLawful := by
  refine ⟨hn, fun some => ?_⟩
  have some : n ≠ 0 := Nat.pos_iff_ne_zero.mp some
  show (if n = 0 then none else held).isSome = true
  rw [if_neg some]
  exact holds some

theorem lawful_loaded {held : Option Holding} {n : Nat} (hn : n ≤ 8) (holds : n ≠ 0 → held.isSome = true) :
    (Slot.loaded held n).lawful ∧ (Slot.loaded held n).reserved = 0 ∧ (Slot.loaded held n).pending = 0 := by
  unfold Slot.loaded
  split
  · exact ⟨lawful_free, rfl, rfl⟩
  · next some =>
    refine ⟨(lawful_stocked rfl).mpr ⟨Nat.zero_le _, hn, holds some, ?_, rfl, rfl⟩, rfl, rfl⟩
    show 0 < n + 0
    omega

theorem lawful_edited {x : Slot} (hx : x.state = .withdrawn) (h : x.lawful) {held : Option Holding} {n : Nat} (hn : n ≤ 8)
    (holds : n ≠ 0 → held.isSome = true) : (x.withContents held n).lawful := by
  obtain ⟨room, article⟩ := contents_withContents (x := x) hn holds
  obtain ⟨reserved, pending⟩ := unreserved_of_out h (.inl hx)
  have byState := h.2.2.2
  rw [hx] at byState
  obtain ⟨-, -, -, measured, reason⟩ := byState
  refine ⟨?_, ?_, fun some => article ?_, ?_⟩
  · show x.reserved ≤ n
    omega
  · show n + x.pending ≤ 8
    omega
  · show 0 < n
    have some : 0 < n + x.pending := some
    omega
  · simp only [Slot.withContents, hx]
    refine ⟨reserved, pending, fun some => ?_, measured, reason⟩
    show 0 < n
    have some : (if n = 0 then none else held).isSome = true := some
    split at some
    · cases some
    · omega

/-- A slot in service without reservations may be withdrawn (R18). -/
theorem lawful_withdrawn {x : Slot} (hx : x.state.inService = true) (reserved : x.reserved = 0) (pending : x.pending = 0) (h : x.lawful) :
    ({ x with state := .withdrawn } : Slot).lawful := by
  obtain ⟨some, room, holds, byState⟩ := h
  refine ⟨some, room, holds, ?_⟩
  cases e : x.state <;> rw [e] at hx byState
  · rw [byState]
    exact ⟨rfl, rfl, fun some => (by cases some), rfl, rfl⟩
  · obtain ⟨stock, measured, reason⟩ := byState
    refine ⟨reserved, pending, fun _ => ?_, measured, reason⟩
    show 0 < x.onHand
    omega
  · cases hx
  · cases hx

/-- A slot in QUARANTINE may be labelled anew (R156). -/
theorem lawful_relabelled {x : Slot} (hx : x.state = .quarantine) (h : x.lawful) (r : Reason) (load : Nat) :
    ({ x with reason := some r, measured := some load } : Slot).lawful := by
  obtain ⟨some, room, holds, byState⟩ := h
  refine ⟨some, room, holds, ?_⟩
  simp only [hx] at byState ⊢
  exact ⟨byState.1, byState.2.1, rfl⟩

/-! ### Setup -/

theorem sound_articles {s t : State} (same : ({ t with articles := s.articles } : State) = s) (ht : t.articlesSound)
    (hs : s.soundBut fun _ => False) : t.soundBut fun _ => False := by
  obtain ⟨-, slots, picks, tasks, config⟩ := hs
  rw [← same] at slots picks tasks config
  exact ⟨ht, slots, picks, tasks, config⟩

theorem slot?_fresh {s : State} {k : Nat} {g : Geometry} {limit stepTime : Nat} {a : SlotAddr} {x : Slot}
    (h : (s.setCarousel k (Carousel.fresh g limit stepTime)).slot? a = some x) : s.slot? a = some x ∨ x = Slot.freeSlot := by
  obtain ⟨c, hc, hi, hj, hslot⟩ := slot?_eq h
  rw [carousel?_setCarousel] at hc
  split at hc
  · cases hc
    exact .inr (List.eq_of_mem_replicate (List.mem_of_getElem? hslot))
  · rw [slot?_of_carousel hc, if_pos ⟨hi, hj⟩]
    exact .inl hslot

/-- In CONFIG nothing names a slot of a geometry written anew (R8). -/
theorem sound_fresh {s : State} (k : Nat) (g : Geometry) (limit stepTime : Nat) (hm : s.mode = .config) (hs : s.soundBut fun _ => False) :
    (s.setCarousel k (Carousel.fresh g limit stepTime)).soundBut fun _ => False := by
  obtain ⟨noClaims, noTasks, unclaimed⟩ := unclaimed_of_config hm hs
  obtain ⟨articles, slots, picks, tasks, config⟩ := hs
  refine ⟨articles, fun a x hx _ => ?_, ⟨fun p hp => ?_, picks.2⟩, ⟨fun t ht => ?_, tasks.2⟩, config⟩
  · rcases slot?_fresh hx with old | rfl
    · exact slots a x old id
    · exact ⟨lawful_free, (unclaimed a).1.symm, (unclaimed a).2.symm⟩
  · replace hp : p ∈ s.claims := hp
    rw [noClaims] at hp
    cases hp
  · replace ht : t ∈ s.tasks := ht
    rw [noTasks] at ht
    cases ht

/-- A limit B written leaves the slot records. -/
theorem slot?_writeLimit (s : State) (k limit stepTime : Nat) (a : SlotAddr) : (s.writeLimit k limit stepTime).slot? a = s.slot? a := by
  unfold State.writeLimit
  generalize hf : (fun c : Carousel => ({ c with stepTime := stepTime, figures := { c.figures with limit := limit } } : Carousel)) = f
  have kept : ∀ c, (f c).geometry = c.geometry ∧ (f c).slots = c.slots := fun c => by rw [← hf]; exact ⟨rfl, rfl⟩
  by_cases hk : a.carousel = k
  · subst hk
    cases hc : s.carousel? a.carousel with
    | none =>
      have same : s.onCarousel a.carousel f = s := by rw [State.onCarousel, hc]
      rw [same, State.judgeOver, hc]
    | some c =>
      rw [State.onCarousel_eq hc]
      obtain ⟨b, h⟩ := carousel?_judgeOver (carousel?_set hc (f c))
      rw [slot?_of_carousel h, slot?_of_carousel hc]
      simp only [kept c]
  · have same : ((s.onCarousel k f).judgeOver k).carousel? a.carousel = s.carousel? a.carousel := by
      rw [carousel?_judgeOver_other _ hk]
      unfold State.onCarousel
      split
      · exact carousel?_setCarousel_other s hk _
      · rfl
    unfold State.slot?
    rw [same]

theorem sound_writeLimit {s : State} (k limit stepTime : Nat) (hs : s.soundBut fun _ => False) :
    (s.writeLimit k limit stepTime).soundBut fun _ => False := by
  obtain ⟨articles, slots, picks, tasks, config⟩ := hs
  have read := slot?_writeLimit s k limit stepTime
  have stands : ∀ b, (s.slot? b).isSome = true → ((s.writeLimit k limit stepTime).slot? b).isSome = true := fun b hb => by rwa [read]
  have sameTasks : (s.writeLimit k limit stepTime).tasks = s.tasks := by simp [State.writeLimit]
  have sameOrders : (s.writeLimit k limit stepTime).orders = s.orders := by simp [State.writeLimit]
  have claims : (s.writeLimit k limit stepTime).claims = s.claims := by simp [State.claims, State.writeLimit]
  refine ⟨articlesSound_of_outer (outer_writeLimit ..) articles, fun a x hx hout => ?_, picksSound_of (by rw [claims]) stands
    (fun p _ ho => by rwa [order?_of_orders sameOrders]) picks, tasksSound_of (by rw [sameTasks]) (fun u hu y hy _ =>
    ⟨u, sameTasks ▸ hu, hy⟩) stands tasks, ?_⟩
  · rw [read] at hx
    rw [reservedOn_of_claims claims, pendingOn_of_tasks sameTasks]
    exact slots a x hx hout
  · rw [State.configSound, (works_writeLimit s k limit stepTime).mode, sameOrders, sameTasks, claims]
    exact config

/-- CONFIG is entered with no order and no task, and so with no pick (R194). -/
theorem sound_mode {s : State} (m : Mode) (hm : m = .config → s.orders = [] ∧ s.tasks = []) (hs : s.soundBut fun _ => False) :
    ({ s with mode := m } : State).soundBut fun _ => False := by
  obtain ⟨articles, slots, picks, tasks, -⟩ := hs
  refine ⟨articles, slots, picks, tasks, fun h => ?_⟩
  obtain ⟨orders, noTasks⟩ := hm h
  refine ⟨orders, noTasks, List.eq_nil_iff_forall_not_mem.mpr fun p hp => ?_⟩
  have listed := (picks.1 p hp).2.2
  rw [State.order?, orders] at listed
  cases listed

/-! ### Every step -/

theorem keeps_sound : Keeps (State.soundBut fun _ => False) where
  quiet := sound_of_quiet
  order := fun tag _ h hs => sound_onOrder tag (fun o => (h o).1) hs
  newPick := sound_newPick
  cancelOrderPicks := fun tag hs => sound_cancelOrderPicks tag hs
  freedOrder := sound_freedOrder
  newOrder := fun _ _ _ q hm _ _ hs => sound_newOrder _ q hm hs
  newTask := fun _ _ _ _ hm ha fresh _ hs => sound_newTask hm ha fresh hs
  task := fun tag f h hs => sound_onTask tag f h hs
  endedTask := fun ht ended hs => sound_endedTask ht ended hs
  cancelTargets := fun {s tag t} ht hs => by
    obtain ⟨-, rfl⟩ := task?_some ht
    exact sound_cancelTargets _ ht rfl hs
  confirmTarget := fun ht hx hq hs => sound_settleTarget (by simp) ht hx hq hs
  quarantine := sound_quarantine
  takePick := sound_takePick
  items := fun _ _ hs => hs
  delivered := fun _ hs => hs
  discrepancies := fun _ _ hs => hs
  relabel := fun {s a x} r load hx quarantined hs => by
    rw [State.updateSlot, hx]
    exact sound_writeSlot hx (fun lawful => ⟨lawful_relabelled quarantined lawful r load, rfl, rfl⟩) hs
  restore := fun hx out hs => sound_writeSlot hx (fun lawful =>
    have ⟨reserved, pending⟩ := unreserved_of_out lawful out
    lawful_restored reserved pending (contents_of_lawful lawful)) hs
  load := fun {s a x code batch n held} hm hx hc hn hs => by
    obtain ⟨-, -, unclaimed⟩ := unclaimed_of_config hm hs
    obtain ⟨-, reserved, pending⟩ := hs.2.1 a x hx id
    obtain ⟨lawful, none, nothing⟩ := lawful_loaded hn (holds_of_onHand hc)
    refine sound_writeSlot hx (fun _ => ⟨lawful, ?_, ?_⟩) hs
    · rw [none, reserved, (unclaimed a).1]
    · rw [nothing, pending, (unclaimed a).2]
  withdraw := fun hx service reserved pending hs => sound_writeSlot hx (fun lawful => ⟨lawful_withdrawn service reserved pending lawful, rfl, rfl⟩) hs
  edit := fun hx withdrawn hc hn hs => sound_writeSlot hx (fun lawful => ⟨lawful_edited withdrawn lawful hn (holds_of_onHand hc), rfl, rfl⟩) hs
  resolve := fun {s a x code batch n held} hx quarantined hc hn hs => sound_writeSlot hx (fun lawful =>
    have ⟨reserved, pending⟩ := unreserved_of_out lawful (.inr quarantined)
    lawful_restored (x := x.withContents held n) reserved pending (contents_withContents hn (holds_of_onHand hc))) hs
  settings := fun _ _ _ hs => hs
  rewriteArticle := fun fits ha _ hs => sound_articles rfl (articlesSound_rewrite fits ha hs.1) hs
  addArticle := fun fits fresh room hs => sound_articles rfl (articlesSound_add fits fresh room hs.1) hs
  removeArticle := fun ha unused hs => sound_articles rfl (keeps_articlesSound.removeArticle ha unused hs.1) hs
  geometry := sound_fresh
  limit := sound_writeLimit
  unassign := fun _ hs => hs
  assign := fun {s w} a _ hs => by
    unfold State.assignWindow
    split <;> exact hs
  mode := sound_mode
  atStart := fun hs => hs
  ranks := fun _ hs => hs

theorem lineOps_sound : LineOps (State.soundBut fun _ => False) :=
  LineKeeps.lineOps (fun _ _ _ hs => hs) fun {s} f hs => by
    unfold State.arrive
    split <;> exact hs

theorem sound_reset {s : State} (straps : BitVec 2) : (s.performReset straps).soundBut fun _ => False := by
  refine ⟨articlesSound_reset straps, fun a x hx _ => ?_, ⟨fun p hp => absurd hp List.not_mem_nil, List.nodup_nil⟩,
    ⟨fun t ht => absurd ht List.not_mem_nil, List.nodup_nil⟩, fun _ => ⟨rfl, rfl, rfl⟩⟩
  obtain ⟨c, hc, -⟩ := slot?_eq hx
  rw [carousel?_reset] at hc
  cases hc

/-- Settles O60: every change of the stock writes one slot together with the claims on it. -/
theorem everyStepKeepsTheReservationsSound : Obligations.EveryStepKeepsTheReservationsSound := by
  intro s t hs h
  rw [reservationsSound_iff] at hs ⊢
  exact step_keeps (fun i hs => after_keeps lineOps_sound keeps_sound.owners (fun i hs => keeps_sound.event i hs) (fun _ hs => hs)
    (fun straps _ => sound_reset straps) (fun hs => hs) i hs) (fun _ hs => hs) (fun _ hs => hs) hs h

end Sys2Proof.Machine
end

section
/-! PROOFS. The host line: a refused request changes no record, tag 0 and a busy line, what the transmitter takes up, and the
requests without an owning block (R185 to R191, R196). -/

namespace Sys2Proof.Machine

/-! ### A refused request changes no record (R187) -/

/-- An owning rule answers the part as it found it, or it grants the request with OK or ACCEPTED. -/
inductive Answer.Direct (t : State) : Answer → Prop
  | granted (u : State) (b : ReplyBody) : Direct t (.reply u .ok b)
  | accepted (u : State) (b : ReplyBody) : Direct t (.reply u .accepted b)
  | unchanged (r : Result) (b : ReplyBody) : Direct t (.reply t r b)

theorem direct_refuse (t : State) (r : Result) : (t.refuse r).Direct t := .unchanged r .none

theorem direct_ite {c : Prop} [Decidable c] {t : State} {a b : Answer} (ha : a.Direct t) (hb : b.Direct t) :
    (if c then a else b).Direct t := by
  split
  · exact ha
  · exact hb

theorem direct_start (t : State) : (start t).Direct t := by
  refine direct_ite (direct_refuse ..) ?_
  split
  · exact .unchanged ..
  · exact .granted ..

theorem direct_stop (t : State) : (stop t).Direct t := by
  refine direct_ite (direct_refuse ..) ?_
  split
  · exact .unchanged ..
  · exact .granted ..

theorem direct_hold (t : State) : (hold t).Direct t := direct_ite (direct_refuse ..) (.granted ..)

theorem direct_resume (t : State) : (resume t).Direct t := direct_ite (direct_refuse ..) (.granted ..)

theorem direct_setArticle (a : Article) (t : State) : (setArticle a t).Direct t := by
  refine direct_ite (direct_refuse ..) ?_
  split
  · exact direct_ite (direct_refuse ..) (.granted ..)
  · exact direct_ite (direct_refuse ..) (.granted ..)

theorem direct_deleteArticle (code : Nat) (t : State) : (deleteArticle code t).Direct t := by
  refine direct_ite (direct_refuse ..) ?_
  split
  · exact direct_refuse ..
  · exact direct_ite (direct_refuse ..) (.granted ..)

theorem direct_setCarousel (k : Nat) (g : Geometry) (limit : Nat) (step : Option Nat) (t : State) : (setCarousel k g limit step t).Direct t := 
  direct_ite (direct_refuse ..) (direct_ite (direct_refuse ..) (direct_ite (direct_refuse ..) (.granted ..)))

theorem direct_setWindow (w : Nat) (carousel : Option Nat) (pos : Nat) (t : State) : (setWindow w carousel pos t).Direct t := by
  refine direct_ite (direct_refuse ..) (direct_ite (direct_refuse ..) ?_)
  cases carousel with
  | none => exact .granted ..
  | some k => exact direct_ite (direct_refuse ..) (.granted ..)

theorem direct_setLane (n : Nat) (capacity : Option Nat) (t : State) : (setLane n capacity t).Direct t := 
  direct_ite (direct_refuse ..) (direct_ite (direct_refuse ..) (.granted ..))

theorem direct_setPutawayClass (cls : Nat) (t : State) : (setPutawayClass cls t).Direct t := 
  direct_ite (direct_refuse ..) (direct_ite (direct_refuse ..) (.granted ..))

theorem direct_setBridgeMode (mode : Option BridgeMode) (t : State) : (setBridgeMode mode t).Direct t := by
  cases mode with
  | none => exact direct_refuse ..
  | some m => exact direct_ite (direct_refuse ..) (direct_ite (direct_refuse ..) (.granted ..))

theorem direct_loadSlot (a : SlotAddr) (code batch n : Nat) (t : State) : (loadSlot a code batch n t).Direct t := by
  refine direct_ite (direct_refuse ..) (direct_ite (direct_refuse ..) ?_)
  split
  · exact direct_refuse ..
  · refine direct_ite (direct_refuse ..) ?_
    split
    · exact direct_refuse ..
    · exact .granted ..

theorem direct_editSlot (a : SlotAddr) (code batch n : Nat) (t : State) : (editSlot a code batch n t).Direct t := by
  refine direct_ite (direct_refuse ..) (direct_ite (direct_refuse ..) ?_)
  split
  · exact direct_refuse ..
  · refine direct_ite (direct_refuse ..) (direct_ite (direct_refuse ..) ?_)
    split
    · exact direct_refuse ..
    · exact .granted ..

theorem direct_resolveSlot (a : SlotAddr) (code batch n : Nat) (t : State) : (resolveSlot a code batch n t).Direct t := by
  refine direct_ite (direct_refuse ..) (direct_ite (direct_refuse ..) ?_)
  split
  · exact direct_refuse ..
  · refine direct_ite (direct_refuse ..) (direct_ite (direct_refuse ..) ?_)
    split
    · exact direct_refuse ..
    · exact .granted ..

theorem direct_withdraw (a : SlotAddr) (t : State) : (withdraw a t).Direct t := by
  refine direct_ite (direct_refuse ..) ?_
  split
  · exact direct_refuse ..
  · exact direct_ite (direct_refuse ..) (direct_ite (direct_refuse ..) (.granted ..))

theorem direct_restoreSlot (a : SlotAddr) (t : State) : (restoreSlot a t).Direct t := by
  refine direct_ite (direct_refuse ..) ?_
  split
  · exact direct_refuse ..
  · exact direct_ite (direct_refuse ..) (.granted ..)

theorem direct_putaway (task code batch quantity : Nat) (pref : Option Nat) (t : State) : (putaway task code batch quantity pref t).Direct t := by
  refine direct_ite (direct_refuse ..) (direct_ite (direct_refuse ..) ?_)
  split
  · exact direct_refuse ..
  · refine direct_ite (direct_refuse ..) (direct_ite (direct_refuse ..) ?_)
    dsimp only
    split
    · exact direct_ite (direct_refuse ..) (.granted ..)
    · exact direct_refuse ..

theorem direct_cancelPutaway (task : Nat) (t : State) : (cancelPutaway task t).Direct t := by
  refine direct_ite (direct_refuse ..) (direct_ite (direct_refuse ..) ?_)
  split
  · exact direct_refuse ..
  · exact .granted ..

theorem direct_submitOrder (tag priority : Nat) (lines : List (Nat × Nat)) (t : State) : (submitOrder tag priority lines t).Direct t := by
  refine direct_ite (direct_refuse ..) (direct_ite (direct_refuse ..) ?_)
  split
  · exact .unchanged ..
  · exact direct_ite (direct_refuse ..) (direct_ite (direct_refuse ..) (direct_ite (direct_refuse ..) (.granted ..)))

theorem direct_onHeldOrder (order : Nat) {act : Order → State → Answer} (t : State) (h : ∀ o, (act o t).Direct t) :
    (onHeldOrder order act t).Direct t := by
  refine direct_ite (direct_refuse ..) (direct_ite (direct_refuse ..) ?_)
  split
  · exact direct_refuse ..
  · exact h _

theorem direct_closeOrder (order : Nat) (t : State) : (closeOrder order t).Direct t := 
  direct_onHeldOrder order t fun o => by
    refine direct_ite (direct_refuse ..) ?_
    unfold closeActive
    dsimp only
    split
    · exact direct_ite (.granted ..) (direct_ite (.granted ..) (.granted ..))
    · exact direct_refuse ..

theorem direct_cancelOrder (order : Nat) (t : State) : (cancelOrder order t).Direct t := 
  direct_onHeldOrder order t fun o => by
    split
    · exact .granted ..
    · exact .granted ..
    · exact .granted ..
    · exact direct_refuse ..

theorem direct_ship (order : Nat) (t : State) : (ship order t).Direct t := 
  direct_onHeldOrder order t fun _ => direct_ite (direct_refuse ..) (.granted ..)

theorem direct_recover (k : Nat) (t : State) : (recover k t).Direct t := by
  refine direct_ite (direct_refuse ..) ?_
  split
  · exact direct_refuse ..
  · exact direct_ite (direct_refuse ..) (direct_ite (direct_refuse ..) (direct_ite (direct_refuse ..) (.granted ..)))

theorem direct_laneCleared (n : Nat) (t : State) : (laneCleared n t).Direct t := by
  refine direct_ite (direct_refuse ..) ?_
  split
  · exact direct_refuse ..
  · split
    · exact direct_ite (direct_refuse ..) (.granted ..)
    · exact direct_refuse ..

theorem direct_mergeResume (t : State) : (mergeResume t).Direct t := 
  direct_ite (direct_refuse ..) (direct_ite (direct_refuse ..) (direct_ite (direct_refuse ..) (.granted ..)))

theorem direct_audit (k first last : Nat) (t : State) : (audit k first last t).Direct t := by
  refine direct_ite (direct_refuse ..) ?_
  split
  · exact direct_refuse ..
  · exact direct_ite (direct_refuse ..) (.granted ..)

theorem direct_setCal (w i tare slope : Nat) (t : State) : (setCal w i tare slope t).Direct t := 
  direct_ite (direct_refuse ..) (.granted ..)

theorem direct_tare (w i : Nat) (t : State) : (tare w i t).Direct t := by
  refine direct_ite (direct_refuse ..) ?_
  split
  · exact direct_refuse ..
  · split
    · exact direct_refuse ..
    · exact direct_ite (direct_refuse ..) (direct_ite (direct_refuse ..) (direct_ite (direct_refuse ..) (direct_ite (direct_refuse ..)
        (.accepted ..))))

theorem direct_getArticle (code : Nat) (t : State) : (getArticle code t).Direct t := by
  refine direct_ite (direct_refuse ..) ?_
  split
  · exact direct_refuse ..
  · exact .unchanged ..

theorem direct_getSlot (a : SlotAddr) (t : State) : (getSlot a t).Direct t := by
  unfold getSlot
  split
  · exact direct_refuse ..
  · exact .unchanged ..

theorem direct_getPutaway (task : Nat) (t : State) : (getPutaway task t).Direct t := by
  refine direct_ite (direct_refuse ..) ?_
  split
  · exact direct_refuse ..
  · exact .unchanged ..

theorem direct_getOrder (order : Nat) (t : State) : (getOrder order t).Direct t := by
  refine direct_ite (direct_refuse ..) ?_
  split
  · exact direct_refuse ..
  · exact .unchanged ..

theorem direct_getCarousel (k : Nat) (t : State) : (getCarousel k t).Direct t := by
  unfold getCarousel
  split
  · exact direct_refuse ..
  · exact .unchanged ..

theorem direct_getWindow (w : Nat) (t : State) : (getWindow w t).Direct t := by
  refine direct_ite (direct_refuse ..) ?_
  split
  · exact direct_refuse ..
  · exact .unchanged ..

theorem direct_getBalance (k : Nat) (form : Option LoadForm) (t : State) : (getBalance k form t).Direct t := by
  unfold getBalance
  split
  · exact .unchanged ..
  · exact direct_refuse ..

theorem direct_getCal (w : Nat) (t : State) : (getCal w t).Direct t := direct_ite (direct_refuse ..) (.unchanged ..)

theorem direct_getAudit (w : Nat) (t : State) : (getAudit w t).Direct t := direct_ite (direct_refuse ..) (.unchanged ..)

theorem direct_getLink (st : Nat) (t : State) : (getLink st t).Direct t := direct_ite (direct_refuse ..) (.unchanged ..)

/-! The three requests that may wait for their station. -/

/-- An owning rule answers at once, or the request waits for its station. -/
def Answer.DirectOrWaits (t : State) (a : Answer) : Prop := a.Direct t ∨ ∃ u e, a = .wait u e

theorem waits_ite {c : Prop} [Decidable c] {t : State} {r : Result} {b : Answer} (hb : b.DirectOrWaits t) :
    (if c then t.refuse r else b).DirectOrWaits t := by
  split
  · exact .inl (direct_refuse ..)
  · exact hb

theorem waits_stationAccess (st item : Nat) (dir : Option AccessDir) (value : Nat) (t : State) :
    (stationAccess st item dir value t).DirectOrWaits t := by
  cases dir with
  | none => exact .inl (direct_refuse ..)
  | some d =>
    refine waits_ite (waits_ite (waits_ite ?_))
    unfold State.takeAccess
    split
    · exact .inr ⟨_, _, rfl⟩
    · exact .inl (.accepted ..)

theorem waits_linkTestStart (st : Nat) (dir : Option TestDir) (latch : Option Latch) (t : State) :
    (linkTestStart st dir latch t).DirectOrWaits t := by
  unfold linkTestStart
  split
  · exact waits_ite (waits_ite (waits_ite (waits_ite (.inr ⟨_, _, rfl⟩))))
  · exact .inl (direct_refuse ..)

theorem waits_linkTestStop (st : Nat) (t : State) : (linkTestStop st t).DirectOrWaits t :=
  waits_ite (waits_ite (.inr ⟨_, _, rfl⟩))

/-- Every owning rule answers at once but for those of the requests that may wait for a station. -/
theorem ownerOf_answers {i : Instr} {kind tag : Nat} (h : i.request? = some (kind, tag)) (t : State) :
    (ownerOf i t).Direct t ∨ ((kind = 0x50 ∨ kind = 0x51 ∨ kind = 0x52) ∧ ∃ u e, ownerOf i t = .wait u e) := by
  cases i <;> cases h
  case unknownKind => exact .inl (direct_refuse ..)
  case status => exact .inl (.unchanged ..)
  case clearFlags => exact .inl (.granted ..)
  case start => exact .inl (direct_start t)
  case stop => exact .inl (direct_stop t)
  case hold => exact .inl (direct_hold t)
  case resume => exact .inl (direct_resume t)
  case restart => exact .inl (.unchanged ..)
  case setArticle => exact .inl (direct_setArticle ..)
  case deleteArticle => exact .inl (direct_deleteArticle ..)
  case getArticle => exact .inl (direct_getArticle ..)
  case setCarousel => exact .inl (direct_setCarousel ..)
  case setWindow => exact .inl (direct_setWindow ..)
  case setLane => exact .inl (direct_setLane ..)
  case setPutawayClass => exact .inl (direct_setPutawayClass ..)
  case setBridgeMode => exact .inl (direct_setBridgeMode ..)
  case loadSlot => exact .inl (direct_loadSlot ..)
  case withdraw => exact .inl (direct_withdraw ..)
  case editSlot => exact .inl (direct_editSlot ..)
  case restoreSlot => exact .inl (direct_restoreSlot ..)
  case getSlot => exact .inl (direct_getSlot ..)
  case getBalance => exact .inl (direct_getBalance ..)
  case putaway => exact .inl (direct_putaway ..)
  case cancelPutaway => exact .inl (direct_cancelPutaway ..)
  case getPutaway => exact .inl (direct_getPutaway ..)
  case submitOrder => exact .inl (direct_submitOrder ..)
  case closeOrder => exact .inl (direct_closeOrder ..)
  case cancelOrder => exact .inl (direct_cancelOrder ..)
  case ship => exact .inl (direct_ship ..)
  case getOrder => exact .inl (direct_getOrder ..)
  case recover => exact .inl (direct_recover ..)
  case getCarousel => exact .inl (direct_getCarousel ..)
  case getWindow => exact .inl (direct_getWindow ..)
  case laneCleared => exact .inl (direct_laneCleared ..)
  case mergeResume => exact .inl (direct_mergeResume t)
  case setMergeTimeout => exact .inl (.granted ..)
  case getMerge => exact .inl (.unchanged ..)
  case audit => exact .inl (direct_audit ..)
  case resolveSlot => exact .inl (direct_resolveSlot ..)
  case setAuditTiming => exact .inl (.granted ..)
  case setCal => exact .inl (direct_setCal ..)
  case getCal => exact .inl (direct_getCal ..)
  case tare => exact .inl (direct_tare ..)
  case getAudit => exact .inl (direct_getAudit ..)
  case getDiscrepancies => exact .inl (.unchanged ..)
  case getLink => exact .inl (direct_getLink ..)
  case stationAccess => exact (waits_stationAccess ..).imp_right fun w => ⟨.inl rfl, w⟩
  case linkTestStart => exact (waits_linkTestStart ..).imp_right fun w => ⟨.inr (.inl rfl), w⟩
  case linkTestStop => exact (waits_linkTestStop ..).imp_right fun w => ⟨.inr (.inr rfl), w⟩

/-- Settles O9: an owning rule answers the part as it found it, grants the request, or waits for its station. -/
theorem aRefusedRequestChangesNoRecord : Obligations.ARefusedRequestChangesNoRecord := by
  intro i kind tag s h free
  by_cases ht : tag = 0
  · subst ht
    exact .inl ⟨.badField, .none, by rw [exec_request h, request_tagZero free]⟩
  · rw [exec_lineFree h free ht]
    rcases ownerOf_answers h (s.take kind tag) with direct | ⟨waits, u, e, answer⟩
    · cases hq : ownerOf i (s.take kind tag) <;> rw [hq] at direct <;> cases direct
      case granted u b => exact .inr (.inl ⟨u, .ok, b, .inl rfl, rfl⟩)
      case accepted u b => exact .inr (.inl ⟨u, .accepted, b, .inr rfl, rfl⟩)
      case unchanged r b => exact .inl ⟨r, b, rfl⟩
    · rw [answer]
      exact .inr (.inr ⟨waits, u, e, rfl⟩)

/-! ### Tag 0, and a busy line -/

/-- Settles O10. -/
theorem aRequestWithTagZeroIsRefusedAndABusyLineWaits : Obligations.ARequestWithTagZeroIsRefusedAndABusyLineWaits := by
  refine ⟨fun i kind s h free => ?zero, fun i kind tag s h busy => ?busy⟩
  case zero => rw [exec_request h, request_tagZero free]
  case busy =>
    rw [exec_request h, request_busy busy]
    rfl

/-! ### The transmitter (R188, R189) -/

theorem transmitDone_sending {s : State} {f : SentFrame} (h : s.line.sending = some f) :
    exec .transmitDone s = .next (if f.resets then s.restartReset else s.sent f) := by
  rw [exec_eq_after]
  simp only [State.after, State.transmitDone, h]

theorem choose_reply {l : HostLine} {r : Reply} (h : l.sending = none) (hr : l.reply = some r) :
    l.choose = { l with
      reply := none
      sending := some { address := l.address, kind := r.kind + 128, tag := r.tag, code := r.result.code, content := .reply r } } := by
  simp [HostLine.choose, h, hr]

theorem choose_notice {l : HostLine} {n : Notice} {ns : List Notice} (h : l.sending = none) (hr : l.reply = none)
    (hn : l.notices = n :: ns) :
    l.choose = { l with
      notices := ns
      sending := some { address := l.address, kind := 127, tag := 0, code := n.code, content := .notice n } } := by
  simp [HostLine.choose, h, hr, hn, noticeKind]

theorem choose_sending {l : HostLine} {f : SentFrame} (h : l.sending = some f) : l.choose = l := by
  simp [HostLine.choose, h]

/-- Settles O12. -/
theorem theTransmitterAndTheNoticeQueue : Obligations.TheTransmitterAndTheNoticeQueue := by
  refine ⟨⟨fun s f r h hr other => ?reply, fun s f n h hn => ?notice, fun s f r h hr hk ho => ?restart, fun s h => ?idle,
    fun s r h hr => ?choosesReply, fun s n ns h hr hn => ?choosesNotice, fun s f h => ?busy⟩, ⟨?results, fun n => ?notices⟩,
    fun s n => ⟨fun room => ?append, fun full => ?lost⟩⟩
  case reply =>
    have plain : f.resets = false := by
      rw [SentFrame.resets, hr]
      exact decide_eq_false other
    rw [transmitDone_sending h, plain, State.sent, hr]
    rfl
  case notice =>
    have plain : f.resets = false := by rw [SentFrame.resets, hn]
    rw [transmitDone_sending h, plain, State.sent, hn]
    rfl
  case restart =>
    have resets : f.resets = true := by
      rw [SentFrame.resets, hr]
      exact decide_eq_true ⟨hk, ho⟩
    exact ⟨Config.strapLevels s.draws, by rw [transmitDone_sending h, resets]; rfl⟩
  case idle => rw [exec_eq_after, State.after, State.transmitDone, h]
  case choosesReply => rw [State.transmit, choose_reply h hr]
  case choosesNotice => rw [State.transmit, choose_notice h hr hn]
  case busy => rw [State.transmit, choose_sending h]
  case results => decide
  case notices => cases n <;> rfl
  case append => exact if_pos room
  case lost => exact if_neg (not_lt.mpr full)

/-! ### Requests without an owning block (R187, R190, R191, R196) -/

theorem freeLanes_eq (s : State) : s.freeLanes =
    (List.range 8).filter fun n => decide ((s.lanes.getD n none).map (fun l => l.state) = some .free) := by
  refine List.filter_congr fun n _ => ?_
  cases s.lanes.getD n none <;> simp

/-- Settles O13. -/
theorem lineRequestsAreAnsweredAtOnce : Obligations.LineRequestsAreAnsweredAtOnce := by
  intro s tag free ht
  refine ⟨fun kind hk => ?unknown, fun kind hk => ?unfit, ?status, fun n o d => ?clear, ?restart⟩
  case unknown =>
    rw [exec_lineFree (i := .unknownKind kind tag) rfl free ht]
    rw [ownerOf, unknownKind, if_neg (by simpa using hk), refuse_take_outcome]
  case unfit =>
    rw [exec_lineFree (i := .unknownKind kind tag) rfl free ht]
    rw [ownerOf, unknownKind, if_pos (by simpa using hk), refuse_take_outcome]
  case status =>
    rw [exec_lineFree (i := .status tag) rfl free ht]
    rw [← freeLanes_eq]
    rfl
  case clear =>
    exact ⟨s.flags.clear n o d, rfl, rfl, rfl, by rw [exec_lineFree (i := .clearFlags tag n o d) rfl free ht]; rfl⟩
  case restart =>
    rw [exec_lineFree (i := .restart tag) rfl free ht]
    rfl

end Sys2Proof.Machine
end

section
/-! PROOFS. Frames on the host line (R185 to R187): the bytes of a frame are gathered one by one, the last completes it, and it joins
the receive buffer if its CRC, address and kind fit. -/

namespace Sys2Proof.Machine

/-! ### Gathering the bytes of a frame -/

/-- The part within a frame, the bytes gathered last at this instant. -/
def State.gathering (bytes : List Byte) (s : State) : State := { s with line := { s.line with receiver := .inFrame bytes s.now } }

/-- The bytes do not make up a whole frame yet. -/
def Gathered (all : List Byte) : Prop := all.length < 5 ∨ (byteAt all 4 ≤ Config.maxPayload ∧ all.length < byteAt all 4 + 7)

theorem receive_start {s : State} (h : s.line.receiver = .hunting) : s.receive startByte = s.gathering [startByte] := by
  simp [State.receive, receiveByte, h, huntByte, State.gathering]

/-- A byte that comes without a gap. -/
theorem receiveByte_inFrame (own : Byte) (now : Time) (bytes : List Byte) (b : Byte) : receiveByte own now (.inFrame bytes now) b =
    if (bytes ++ [b]).length < 5 then (.inFrame (bytes ++ [b]) now, none)
    else if Config.maxPayload < byteAt (bytes ++ [b]) 4 then (.hunting, none)
    else if (bytes ++ [b]).length < byteAt (bytes ++ [b]) 4 + 7 then (.inFrame (bytes ++ [b]) now, none)
    else (.hunting, frameOf own (bytes ++ [b])) :=
  if_neg (by simp)

/-- A byte that does not complete the frame is gathered. -/
theorem receive_gathered {s : State} {bytes : List Byte} {b : Byte} (h : Gathered (bytes ++ [b])) :
    (s.gathering bytes).receive b = s.gathering (bytes ++ [b]) := by
  have read : receiveByte s.line.address s.now (.inFrame bytes s.now) b = (.inFrame (bytes ++ [b]) s.now, none) := by
    rw [receiveByte_inFrame]
    rcases h with short | ⟨fits, short⟩
    · rw [if_pos short]
    · rw [if_neg (not_lt.mpr fits), if_pos short, ite_self]
  simp only [State.receive, State.gathering, read]

/-- The byte that completes a frame. -/
theorem receive_whole {s : State} {bytes : List Byte} {b : Byte} (h : s.line.receiver = .hunting)
    (fits : byteAt (bytes ++ [b]) 4 ≤ Config.maxPayload) (whole : (bytes ++ [b]).length = byteAt (bytes ++ [b]) 4 + 7) :
    (s.gathering bytes).receive b = (frameOf s.line.address (bytes ++ [b])).elim s fun f => (s.arrive f).serve := by
  have read : receiveByte s.line.address s.now (.inFrame bytes s.now) b = (.hunting, frameOf s.line.address (bytes ++ [b])) := by
    rw [receiveByte_inFrame]
    rw [if_neg (by omega), if_neg (not_lt.mpr fits), if_neg (by omega)]
  have back : ({ s.gathering bytes with line := { (s.gathering bytes).line with receiver := .hunting } } : State) = s := by
    rw [State.gathering, ← h]
  simp only [State.receive, State.gathering] at back ⊢
  rw [read]
  dsimp only
  rw [back]
  cases frameOf s.line.address (bytes ++ [b]) <;> rfl

theorem byteAt_append (xs ys : List Byte) {i : Nat} (h : i < xs.length) : byteAt (xs ++ ys) i = byteAt xs i := by
  unfold byteAt
  rw [List.getD_append _ _ _ _ h]

/-- The bytes of a frame are gathered up to its last. -/
theorem gather {s : State} (h : s.line.receiver = .hunting) (bytes rest : List Byte) (b : Byte)
    (fits : byteAt (startByte :: bytes ++ rest ++ [b]) 4 ≤ Config.maxPayload)
    (whole : (startByte :: bytes ++ rest ++ [b]).length = byteAt (startByte :: bytes ++ rest ++ [b]) 4 + 7) :
    (startByte :: bytes).foldl State.receive s = s.gathering (startByte :: bytes) := by
  induction bytes using List.reverseRecOn generalizing rest with
  | nil => exact receive_start h
  | append_singleton bytes c ih =>
    have before := ih (c :: rest) (by simpa using fits) (by simpa using whole)
    rw [← List.cons_append, List.foldl_append, before]
    refine receive_gathered ?_
    by_cases short : (startByte :: bytes ++ [c]).length < 5
    · exact .inl short
    · have read : byteAt (startByte :: bytes ++ [c]) 4 = byteAt (startByte :: (bytes ++ [c]) ++ rest ++ [b]) 4 := by
        rw [List.append_assoc]
        exact (byteAt_append (startByte :: (bytes ++ [c])) _ (by simpa using short)).symm
      refine .inr ⟨read ▸ fits, ?_⟩
      rw [read]
      simp only [List.length_append, List.length_cons, List.length_nil] at whole ⊢
      omega

/-! ### Reading a whole frame -/

section Whole

variable (address kind tag : Byte) (payload : List Byte) (crc : BitVec 16)

theorem frameBytes_length : (frameBytes address kind tag payload crc).length = payload.length + 7 := by
  simp [frameBytes, frameBody]

theorem frameBytes_size (h : payload.length ≤ 200) : byteAt (frameBytes address kind tag payload crc) 4 = payload.length := by
  show (BitVec.ofNat 8 payload.length).toNat = _
  rw [BitVec.toNat_ofNat]
  omega

/-- The two CRC bytes of a frame. -/
theorem frameBytes_crc : byteAt (frameBytes address kind tag payload crc) (5 + payload.length) * 256 +
    byteAt (frameBytes address kind tag payload crc) (6 + payload.length) = crc.toNat := by
  have high : byteAt (frameBytes address kind tag payload crc) (5 + payload.length) = crc.toNat / 256 := by
    have read : (frameBytes address kind tag payload crc).getD (5 + payload.length) 0#8 = (crc >>> 8).setWidth 8 := by
      rw [frameBytes, Nat.add_comm, List.getD_cons_succ, List.getD_append_right _ _ _ _ (by simp [frameBody])]
      simp [frameBody]
    rw [byteAt, read]
    have := crc.isLt
    simp only [BitVec.toNat_setWidth, BitVec.toNat_ushiftRight, Nat.shiftRight_eq_div_pow]
    omega
  have low : byteAt (frameBytes address kind tag payload crc) (6 + payload.length) = crc.toNat % 256 := by
    have read : (frameBytes address kind tag payload crc).getD (6 + payload.length) 0#8 = crc.setWidth 8 := by
      rw [frameBytes, Nat.add_comm, List.getD_cons_succ, List.getD_append_right _ _ _ _ (by simp [frameBody])]
      simp [frameBody]
    rw [byteAt, read]
    simp
  rw [high, low]
  omega

/-- A whole frame is read if its CRC, address and kind fit. -/
theorem frameOf_frameBytes (h : payload.length ≤ 200) (own : Byte) : frameOf own (frameBytes address kind tag payload crc) =
    if crc = crc16 (frameBody address kind tag payload) ∧ address = own ∧ kind.toNat < 127 then
      some { kind := kind.toNat, tag := tag.toNat, payload := .bytes payload }
    else none := by
  have body : ((frameBytes address kind tag payload crc).drop 1).take (payload.length + 4) = frameBody address kind tag payload := by
    simp [frameBytes, frameBody]
  have load : ((frameBytes address kind tag payload crc).drop 5).take payload.length = payload := by
    simp [frameBytes, frameBody]
  have head : (frameBytes address kind tag payload crc).getD 1 0#8 = address ∧ byteAt (frameBytes address kind tag payload crc) 2 = kind.toNat ∧
      byteAt (frameBytes address kind tag payload crc) 3 = tag.toNat := ⟨rfl, rfl, rfl⟩
  have check : (crc16 (frameBody address kind tag payload)).toNat = crc.toNat ↔ crc = crc16 (frameBody address kind tag payload) := by
    rw [BitVec.toNat_inj, eq_comm]
  unfold frameOf
  simp only [frameBytes_size address kind tag payload crc h, body, load, frameBytes_crc, head, check]

/-- A whole frame that begins in HUNTING, received byte by byte (R185). -/
theorem receive_frame {s : State} (hunting : s.line.receiver = .hunting) (h : payload.length ≤ 200) :
    (frameBytes address kind tag payload crc).foldl State.receive s =
      (frameOf s.line.address (frameBytes address kind tag payload crc)).elim s fun f => (s.arrive f).serve := by
  have size := frameBytes_size address kind tag payload crc h
  have length := frameBytes_length address kind tag payload crc
  generalize hw : frameBytes address kind tag payload crc = whole at size length
  have split : whole = startByte :: (frameBody address kind tag payload ++ [(crc >>> 8).setWidth 8]) ++ [crc.setWidth 8] := by
    rw [← hw]
    simp [frameBytes]
  have fits : byteAt whole 4 ≤ Config.maxPayload := size ▸ h
  have full : whole.length = byteAt whole 4 + 7 := by rw [size, length]
  rw [split] at fits full ⊢
  rw [List.foldl_append, gather hunting _ [] _ (by simpa using fits) (by simpa using full)]
  exact receive_whole hunting fits full

end Whole

/-! ### Taking frames, and the requests they spell (R186, R187) -/

/-- A request that comes to a free line has the effect of its frame. -/
theorem request_serve {s : State} (free : s.lineFree) (kind tag : Nat) (i : Instr) : s.request kind tag i (ownerOf i) =
    State.serve { s with line := { s.line with buffer := [{ kind := kind, tag := tag, payload := .request i }] } } := by
  obtain ⟨idle, empty⟩ := free
  generalize hw : ({ s with line := { s.line with buffer := [{ kind := kind, tag := tag, payload := .request i }] } } : State) = waiting
  have taken : waiting.take kind tag = s.take kind tag := by simp [← hw, State.take, empty]
  have served : waiting.serve = (waiting.handle kind tag (ownerOf i)).transmit :=
    serve_taken (f := { kind := kind, tag := tag, payload := .request i }) (rest := []) (by rw [← hw]; exact idle) (by rw [← hw])
  rw [served, State.request, if_pos ⟨idle, empty⟩, State.handle, State.handle, taken]

/-- A request has a kind of the table, but for UNKNOWN_KIND. -/
theorem request_kind {i : Instr} {kind tag : Nat} (h : i.request? = some (kind, tag)) :
    kind ∈ requestKinds ∨ i = .unknownKind kind tag := by
  cases i <;> cases h
  case unknownKind => exact .inr rfl
  all_goals exact .inl (by decide)

theorem readRequest_unknown {kind : Nat} (h : kind ∉ requestKinds) (tag : Nat) (payload : List Byte) :
    readRequest kind tag payload = .unknownKind kind tag :=
  (request_kind (readRequest_request? kind tag payload)).resolve_left h

theorem readRequest_bare {kind tag : Nat} {i : Instr} (h : bareRequest kind tag = some i) (payload : List Byte) :
    readRequest kind tag payload = if payload = [] then i else .unknownKind kind tag := by
  rw [readRequest, h]

/-! ### The gap timeout (R185) -/

theorem expired_self (e : Time) : expired e e = true := by simp [expired]

theorem expired_reachTime (s : State) (e : Time) : expired (s.reachTime e).now e = true := by
  unfold State.reachTime
  split
  · next h => exact h
  · exact expired_self e

theorem reachTime_line (s : State) (e : Time) : (s.reachTime e).line = s.line := by
  unfold State.reachTime
  split <;> rfl

/-- Settles O11. -/
theorem framesArriveWholeOrAreDropped : Obligations.FramesArriveWholeOrAreDropped := by
  refine ⟨fun s address kind tag payload crc hunting h => ?arrival,
    ⟨fun s h => ?stays, fun s f rest idle hb => serve_taken idle hb, fun i kind tag s h free => ?request,
      fun kind tag payload => ⟨readRequest_request? .., fun h => readRequest_unknown h ..⟩, fun tag payload q hq => ?bare⟩,
    fun s bytes last h => ?gap⟩
  case arrival =>
    rw [exec_eq_after]
    show Host.Outcome.next ((frameBytes address kind tag payload crc).foldl State.receive s) = _
    rw [receive_frame _ _ _ _ _ hunting h, frameOf_frameBytes _ _ _ _ _ h]
    split
    · rfl
    · rfl
  case stays =>
    unfold State.serve
    split
    · next idle hb =>
      rcases h with busy | empty
      · exact absurd idle busy
      · rw [hb] at empty
        cases empty
    · rfl
  case request => rw [exec_request h, request_serve free]
  case bare =>
    simp only [List.mem_cons, List.not_mem_nil, or_false] at hq
    rcases hq with rfl | rfl | rfl | rfl | rfl | rfl | rfl | rfl | rfl <;> exact readRequest_bare rfl payload
  case gap =>
    refine ⟨_, exec_eq_after .., ?_, ?_⟩
    · simp only [State.after, State.gapTimeout, h, reachTime_line]
      rfl
    · simp only [State.after, State.gapTimeout, h]
      exact expired_reachTime s _

end Sys2Proof.Machine
end

section
/-! The queue of commands, the timebase and the state after reset. -/

namespace Sys2Proof.Machine

/-- Settles O1. -/
theorem stepTakesOneCommandOrOneMs : Obligations.StepTakesOneCommandOrOneMs := by
  refine ⟨fun c rest s hp => ?command, fun s hp => ⟨s.tick, ?idle, rfl, rfl, rfl⟩⟩
  case command => rw [step, hp]
  case idle => rw [step, hp]

/-- Settles O3. -/
theorem resetGivesEveryBlockItsValuesAfterReset : Obligations.ResetGivesEveryBlockItsValuesAfterReset := by
  refine ⟨fun straps s => ?values, by decide⟩
  show Host.Outcome.next (s.performReset straps) = _
  simp only [State.performReset, State.afterReset, List.map_map]
  rfl

/-- RESET on a part just reset, with the straps of that reset, is no change. -/
theorem reset_performReset : State.reset.performReset 0#2 = State.reset := rfl

/-- What RESET brings about in every state, the part has right after its reset. -/
theorem reset_has {P : State → Prop} (h : P (State.reset.performReset 0#2)) : P State.reset := reset_performReset ▸ h

/-- Settles O4. -/
theorem stateAfterResetMeetsTheInvariants : Obligations.StateAfterResetMeetsTheInvariants := by
  have shaped : State.reset.shaped := ⟨rfl, rfl, rfl, rfl⟩
  have places : State.reset.poolsFit :=
    ⟨Nat.zero_le _, Nat.zero_le _, Nat.zero_le _, Nat.zero_le _, Nat.zero_le _, Nat.zero_le _⟩
  have down : ∀ l ∈ State.reset.links, l.state = .down := by decide
  exact ⟨reset_has (articlesSound_reset _), reset_has (settingsInRange_reset _), shaped, places,
    reset_has (figuresExact_reset _), ⟨rfl, rfl⟩, down, reset_has (ranksSound_reset _), fun _ => rfl,
    reset_has (weighed_reset _), (reservationsSound_iff _).mpr (reset_has (P := fun s => s.soundBut fun _ => False) (sound_reset _)),
    reset_has (recordsFit_reset _)⟩

end Sys2Proof.Machine
end

section
/-! SET_ARTICLE (R3, R4): the owner's cases, and the article table after each. -/

namespace Sys2Proof.Machine

/-! ### The table after a write -/

/-- The lowest-numbered free place holds no record, and each lower place holds one (R3). -/
theorem articleAt_freePlace {s : State} (h : s.articles.length < Config.articlePlaces) :
    s.articleAt s.freePlace = none ∧ ∀ p, p < s.freePlace → s.articleAt p ≠ none := by
  obtain ⟨-, free⟩ := freePlace_spec h
  obtain ⟨-, -, below⟩ := lowestFree_spec (s.articles.map Prod.fst) Config.articlePlaces 0 (by simpa using h)
  refine ⟨?_, fun p hp e => ?_⟩
  · rw [State.articleAt, List.find?_eq_none.mpr fun q hq => by simpa using free q hq, Option.map_none]
  · obtain ⟨q, hq, rfl⟩ := List.mem_map.mp (below p (Nat.zero_le p) hp)
    rw [State.articleAt, Option.map_eq_none_iff] at e
    simpa using List.find?_eq_none.mp e q hq

theorem mem_addArticle (s : State) (a : Article) (q : Nat × Article) :
    q ∈ (s.addArticle a).articles ↔ q ∈ s.articles ∨ q = (s.freePlace, a) := by
  have perm : (s.addArticle a).articles.Perm ((s.freePlace, a) :: s.articles) := insertBy_perm ..
  rw [perm.mem_iff, List.mem_cons, or_comm]

theorem mem_rewriteArticle {s : State} {place : Nat} {old : Article} (h : (place, old) ∈ s.articles) (a : Article)
    (q : Nat × Article) :
    q ∈ (s.rewriteArticle place a).articles ↔ (q ∈ s.articles ∧ q.1 ≠ place) ∨ q = (place, a) := by
  simp only [State.rewriteArticle, List.mem_map]
  constructor
  · rintro ⟨p, hp, rfl⟩
    split
    · exact .inr rfl
    · next other => exact .inl ⟨hp, other⟩
  · rintro (⟨hq, other⟩ | rfl)
    · exact ⟨q, hq, if_neg other⟩
    · exact ⟨(place, old), h, if_pos rfl⟩

/-- A write of the article table alone, answered, is the answer on the part with that table. -/
theorem reply_articles_outcome (s : State) (kind tag : Nat) (t : List (Nat × Article)) (r : Result) (b : ReplyBody) :
    (Answer.reply { s.take kind tag with articles := t } r b).outcome = State.answered kind tag r b { s with articles := t } :=
  rfl

/-! ### What the owner answers -/

section
variable {s : State} {a : Article} (fits : a.inRange = true)
include fits

/-- A new code while a place is free (R3, check 4). -/
theorem setArticle_added (new : s.articleOf a.code = none) (room : s.articles.length < Config.articlePlaces) :
    setArticle a s = .reply (s.addArticle a) .ok (.article a) := by
  simp [setArticle, fits, new, Nat.not_le.mpr room]

/-- A new code with every place taken (R3, check 3). -/
theorem setArticle_noSpace (new : s.articleOf a.code = none) (full : Config.articlePlaces ≤ s.articles.length) :
    setArticle a s = s.refuse .noSpace := by
  simp [setArticle, fits, new, full]

/-- A held code is rewritten, unless its article is in use and its weight or class would change (R4). -/
theorem setArticle_rewritten {place : Nat} {old : Article} (held : s.articleOf a.code = some (place, old))
    (allowed : ¬(s.inUse place = true ∧ (a.unitWeight ≠ old.unitWeight ∨ a.sizeClass ≠ old.sizeClass))) :
    setArticle a s = .reply (s.rewriteArticle place a) .ok (.article a) := by
  simp only [setArticle, fits, held, Bool.not_true, Bool.false_eq_true, if_false, if_neg allowed]

theorem setArticle_inUse {place : Nat} {old : Article} (held : s.articleOf a.code = some (place, old))
    (used : s.inUse place = true) (changed : a.unitWeight ≠ old.unitWeight ∨ a.sizeClass ≠ old.sizeClass) :
    setArticle a s = s.refuse .inUse := by
  simp only [setArticle, fits, held, Bool.not_true, Bool.false_eq_true, if_false, if_pos (And.intro used changed)]

end

theorem Article.inRange_of {code u cls lim : Nat} (h1 : 1 ≤ code) (h2 : code ≤ 4294967295) (h3 : 40 ≤ u) (h4 : u ≤ 600)
    (h5 : cls ≤ 3) (h6 : 1 ≤ lim) (h7 : lim ≤ 8) : Article.inRange ⟨code, u, cls, lim⟩ = true := by
  simp [Article.inRange, Machine.inRange, h1, h2, h3, h4, h5, h6, h7]

/-! ### The statement -/

/-- Settles O16: one case of the owner for each clause, and the table after the writes. -/
theorem setArticlePlacesOrRewritesOneRecord : Obligations.SetArticlePlacesOrRewritesOneRecord := by
  refine ⟨fun s tag code free ht big new => ?tooLarge, fun s tag code u cls lim free ht c0 c1 u0 u1 hcls l0 l1 => ?write⟩
  case tooLarge =>
    have hc : code ≠ 0 := by omega
    rw [exec_deleteArticle_lineFree free ht, exec_getArticle_lineFree free ht, deleteArticle_notHeld hc (by simpa using new),
      getArticle_notHeld hc (by simpa using new)]
    exact ⟨rfl, rfl⟩
  case write =>
    have fits := Article.inRange_of c0 c1 u0 u1 hcls l0 l1
    rw [exec_lineFree (kind := 0x10) (tag := tag) rfl free ht]
    simp only [ownerOf]
    refine ⟨fun new room => ?added, fun new full => ?noSpace, fun place old sound held allowed => ?rewritten,
      fun place old held used changed => ?inUse⟩
    case added =>
      rw [setArticle_added (s := s.take 0x10 tag) fits (by simpa using new) room]
      exact ⟨s.freePlace, (freePlace_spec room).1, (articleAt_freePlace room).1, (articleAt_freePlace room).2, _, rfl,
        mem_addArticle s _⟩
    case noSpace => rw [setArticle_noSpace (s := s.take 0x10 tag) fits (by simpa using new) full, refuse_take_outcome]
    case rewritten =>
      rw [setArticle_rewritten (s := s.take 0x10 tag) fits (by simpa using held) (by simpa using allowed)]
      exact ⟨_, rfl, mem_rewriteArticle (articleOf_some held).1 _⟩
    case inUse => rw [setArticle_inUse (s := s.take 0x10 tag) fits (by simpa using held) (by simpa using used) changed, refuse_take_outcome]

end Sys2Proof.Machine
end

section
/-! One write of a slot record in full (R12, R30, R34, R35). -/

namespace Sys2Proof.Machine

/-- The figures with BALANCE_OVER as it has to stand (R34). -/
def Figures.judged (f : Figures) : Figures := { f with overLimit := f.isOver }

/-- Judging a carousel just written: the flag is brought up to date, with a notice when it changes (R34, R35). -/
theorem judgeOver_setCarousel {s : State} {k : Nat} {c : Carousel} (hc : s.carousel? k = some c) (d : Carousel) :
    (s.setCarousel k d).judgeOver k =
      if d.figures.isOver = d.figures.overLimit then s.setCarousel k { d with figures := d.figures.judged }
      else (s.setCarousel k { d with figures := d.figures.judged }).notify
        (.balance k d.figures.isOver d.figures.committedW d.figures.onHandW d.figures.limit) := by
  simp only [State.judgeOver, carousel?_set hc d]
  split
  · next same =>
    have judged : d.figures.judged = d.figures := by rw [Figures.judged, same]
    rw [judged]
  · simp only [State.setCarousel, List.set_set]
    rfl

/-- The figures that one write of a slot leaves: the slot's share replaced and the flag judged, if its loads change (R12, R30). -/
def Figures.rewritten (f : Figures) (i : Nat) (old new : Nat × Nat) : Figures :=
  if old = new then f else (f.replace i old new).judged

theorem rewritten_limit (f : Figures) (i : Nat) (old new : Nat × Nat) : (f.rewritten i old new).limit = f.limit := by
  unfold Figures.rewritten
  split <;> rfl

theorem rewritten_loads (f : Figures) (i : Nat) (old new : Nat × Nat) :
    (f.rewritten i old new).committed = modifyAt (fun l => l + new.1 - old.1) i f.committed ∧
      (f.rewritten i old new).onHand = modifyAt (fun l => l + new.2 - old.2) i f.onHand := by
  unfold Figures.rewritten
  split
  · next same =>
    subst same
    exact ⟨(replace_same f i old).1.symm, (replace_same f i old).2.symm⟩
  · exact ⟨rfl, rfl⟩

theorem rewritten_exact {f : Figures} (h : f.exact) (i : Nat) (old new : Nat × Nat) : (f.rewritten i old new).exact := by
  unfold Figures.rewritten
  split
  · exact h
  · exact ⟨rfl, rfl, rfl⟩

/-- The carousel with the record of one of its slots written. -/
def State.carouselWritten (s : State) (a : SlotAddr) (c : Carousel) (x new : Slot) : Carousel :=
  { c with
    slots := c.slots.set (c.geometry.index a.carrier a.slot) new
    figures := c.figures.rewritten a.carrier (s.loads x) (s.loads new) }

/-- One write of a slot record changes the one carousel, and queues a BALANCE notice just when BALANCE_OVER changes. -/
theorem writeSlot_eq {s : State} {a : SlotAddr} {x : Slot} {c : Carousel} (hx : s.slot? a = some x)
    (hc : s.carousel? a.carousel = some c) (new : Slot) :
    s.writeSlot a new =
      let d := s.carouselWritten a c x new
      if d.figures.overLimit = c.figures.overLimit then s.setCarousel a.carousel d
      else (s.setCarousel a.carousel d).notify
        (.balance a.carousel d.figures.overLimit d.figures.committedW d.figures.onHandW d.figures.limit) := by
  simp only [State.writeSlot, hc, hx, State.carouselWritten, Figures.rewritten]
  split
  · rw [if_pos rfl]
  · exact judgeOver_setCarousel hc _

theorem carousel?_writeSlot_eq {s : State} {a : SlotAddr} {x : Slot} {c : Carousel} (hx : s.slot? a = some x)
    (hc : s.carousel? a.carousel = some c) (new : Slot) :
    (s.writeSlot a new).carousel? a.carousel = some (s.carouselWritten a c x new) := by
  rw [writeSlot_eq hx hc]
  dsimp only
  split
  · exact carousel?_set hc _
  · exact (carousel?_notify ..).trans (carousel?_set hc _)

/-- The part with only the carousels of a slot's write is that write without its notice. -/
theorem carousels_writeSlot {s : State} {a : SlotAddr} {x : Slot} {c : Carousel} (hx : s.slot? a = some x)
    (hc : s.carousel? a.carousel = some c) (new : Slot) :
    ({ s with carousels := (s.writeSlot a new).carousels } : State) =
      s.setCarousel a.carousel (s.carouselWritten a c x new) := by
  rw [writeSlot_eq hx hc]
  dsimp only
  split
  · rfl
  · rw [State.notify_carousels]
    rfl

/-- Settles O19. -/
theorem oneWriteOfASlotKeepsTheFigures : Obligations.OneWriteOfASlotKeepsTheFigures := by
  intro s a x new c hx hc
  obtain ⟨committed, onHand⟩ := rewritten_loads c.figures a.carrier (s.loads x) (s.loads new)
  refine ⟨slot?_writeSlot hx new, fun b hb => slot?_writeSlot_other hb new, fun k hk => carousel?_writeSlot_other s hk new,
    (s.carouselWritten a c x new).figures, carousel?_writeSlot_eq hx hc new, rewritten_limit .., committed, onHand,
    fun exact => rewritten_exact exact .., ?_⟩
  rw [carousels_writeSlot hx hc]
  exact writeSlot_eq hx hc new

end Sys2Proof.Machine
end

section
/-! LOAD_SLOT, WITHDRAW, EDIT_SLOT, RESTORE_SLOT and RESOLVE_SLOT with their checks passed (R16 to R21, R161). -/

namespace Sys2Proof.Machine

/-! ### Taking a request does not touch what the checks read -/

@[simp] theorem State.take_contentFields (s : State) (kind tag : Nat) (a : SlotAddr) (batch n : Nat) :
    (s.take kind tag).contentFields a batch n = s.contentFields a batch n := rfl

@[simp] theorem State.take_contentChecks (s : State) (kind tag : Nat) (a : SlotAddr) (code batch n : Nat) :
    (s.take kind tag).contentChecks a code batch n = s.contentChecks a code batch n := rfl

@[simp] theorem State.take_carrierEngaged (s : State) (kind tag : Nat) (a : SlotAddr) :
    (s.take kind tag).carrierEngaged a = s.carrierEngaged a := rfl

@[simp] theorem State.take_inMotion (s : State) (kind tag k : Nat) : (s.take kind tag).inMotion k = s.inMotion k := rfl

@[simp] theorem State.take_beingCounted (s : State) (kind tag : Nat) (a : SlotAddr) :
    (s.take kind tag).beingCounted a = s.beingCounted a := rfl

/-! ### What the owners answer -/

theorem inService_of {x : Slot} (h : x.state = .free ∨ x.state = .stocked) : x.state.inService = true := by
  rcases h with h | h <;> rw [h] <;> rfl

section
variable {s : State} {a : SlotAddr} {x : Slot} (hx : s.slot? a = some x)
include hx

/-- LOAD_SLOT with its checks passed (R21). -/
theorem loadSlot_written {code batch n : Nat} {held : Option Holding} (mode : s.mode = .config)
    (service : x.state.inService = true) (fields : s.contentFields a batch n = true)
    (checks : s.contentChecks a code batch n = .ok held) :
    loadSlot a code batch n s = .reply (s.writeSlot a (Slot.loaded held n)).refresh .ok .none := by
  simp [loadSlot, hx, mode, service, fields, checks]

/-- WITHDRAW with its checks passed (R18). -/
theorem withdraw_written (mode : s.mode ≠ .config) (service : x.state.inService = true) (reserved : x.reserved = 0)
    (pending : x.pending = 0) (engaged : s.carrierEngaged a = false) (still : s.inMotion a.carousel = false) :
    withdraw a s = .reply (s.writeSlot a { x with state := .withdrawn }) .ok .none := by
  simp [withdraw, hx, mode, service, reserved, pending, engaged, still]

/-- EDIT_SLOT with its checks passed (R19). -/
theorem editSlot_written {code batch n : Nat} {held : Option Holding} (mode : s.mode ≠ .config)
    (withdrawn : x.state = .withdrawn) (fields : s.contentFields a batch n = true) (still : s.inMotion a.carousel = false)
    (checks : s.contentChecks a code batch n = .ok held) :
    editSlot a code batch n s = .reply (s.writeSlot a (x.withContents held n)) .ok .none := by
  simp [editSlot, hx, mode, withdrawn, fields, still, checks]

/-- RESTORE_SLOT with its checks passed (R20). -/
theorem restoreSlot_written (mode : s.mode ≠ .config) (withdrawn : x.state = .withdrawn) :
    restoreSlot a s = .reply ((s.writeSlot a x.restored).reallocateFor x.held x.onHand).refresh .ok .none := by
  simp [restoreSlot, hx, mode, withdrawn]

/-- RESOLVE_SLOT with its checks passed (R161, R16). -/
theorem resolveSlot_written {code batch n : Nat} {held : Option Holding} (mode : s.mode ≠ .config)
    (quarantined : x.state = .quarantine) (fields : s.contentFields a batch n = true)
    (still : s.inMotion a.carousel = false) (uncounted : s.beingCounted a = false)
    (checks : s.contentChecks a code batch n = .ok held) :
    resolveSlot a code batch n s =
      .reply (((s.writeSlot a (x.withContents held n).restored).removeDiscrepancy a).reallocateFor held n).refresh .ok
        (.resolved a (x.withContents held n).restored.state (namesSlot s.discrepancies a)) := by
  simp [resolveSlot, hx, mode, quarantined, fields, still, uncounted, checks]

end

/-- A quarantined slot resolved with tyres holds what the request names, and is STOCKED; without, it is FREE (R161). -/
theorem withContents_restored (x : Slot) (held : Option Holding) (n : Nat) :
    (x.withContents held n).restored =
      if 0 < n then { x with state := .stocked, held := held, onHand := n, measured := none, reason := none }
      else Slot.freeSlot := by
  rcases Nat.eq_zero_or_pos n with rfl | h
  · rfl
  · simp [Slot.restored, Slot.withContents, h, Nat.pos_iff_ne_zero.mp h]

theorem withContents_restored_state (x : Slot) (held : Option Holding) (n : Nat) :
    (x.withContents held n).restored.state = if 0 < n then .stocked else .free := by
  rw [withContents_restored]
  split <;> rfl

/-- A release reserves tyres: re-allocation and the close of the event leave all that pick allocation leaves (R67). -/
theorem stored_released (s : State) (held : Option Holding) (n : Nat) : (s.reallocateFor held n).refresh.stored = s.stored :=
  (stored_of_lasting (lasting_refresh _)).trans (stored_reallocateFor s held n)

/-! ### The statement -/

/-- Settles O20. -/
theorem slotRequestsWriteOneRecordOrRelease : Obligations.SlotRequestsWriteOneRecordOrRelease := by
  refine ⟨fun s tag a x code batch onHand held free ht hx => ⟨?load, ?withdraw, ?edit⟩,
    fun s tag a x code batch onHand held free ht hx mode => ⟨?restore, ?resolve⟩⟩
  case load =>
    intro mode service fields checks
    rw [exec_lineFree (kind := 0x1D) (tag := tag) rfl free ht]
    simp only [ownerOf]
    rw [loadSlot_written (s := s.take 0x1D tag) hx mode (inService_of service) fields checks]
    rfl
  case withdraw =>
    intro mode service reserved pending engaged still
    rw [exec_lineFree (kind := 0x20) (tag := tag) rfl free ht]
    simp only [ownerOf]
    rw [withdraw_written (s := s.take 0x20 tag) hx mode (inService_of service) reserved pending engaged still]
    rfl
  case edit =>
    intro mode withdrawn fields still checks
    rw [exec_lineFree (kind := 0x21) (tag := tag) rfl free ht]
    simp only [ownerOf]
    rw [editSlot_written (s := s.take 0x21 tag) hx mode withdrawn fields still checks]
    rfl
  case restore =>
    intro withdrawn written u
    refine ⟨?_, stored_released written x.held x.onHand⟩
    rw [exec_lineFree (kind := 0x22) (tag := tag) rfl free ht]
    simp only [ownerOf]
    rw [restoreSlot_written (s := s.take 0x22 tag) hx mode withdrawn]
    rfl
  case resolve =>
    intro quarantined fields still uncounted checks written u
    have removed : ((s.take 0x49 tag).writeSlot a (x.withContents held onHand).restored).removeDiscrepancy a = written := by
      rw [withContents_restored, State.removeDiscrepancy, State.writeSlot_discrepancies]
      rfl
    refine ⟨?_, stored_released written held onHand⟩
    rw [exec_lineFree (kind := 0x49) (tag := tag) rfl free ht]
    simp only [ownerOf]
    rw [resolveSlot_written (s := s.take 0x49 tag) hx mode quarantined fields still uncounted checks, removed,
      withContents_restored_state]
    rfl

end Sys2Proof.Machine
end

section
/-! The imbalance profile and its worst value (R27 to R29, R39), and the judgements of the balance limit (R32, R34, R37). -/

namespace Sys2Proof.Machine

/-! ### Sides of the loop (R27) -/

/-- The share of carrier `c` in D(P): its load, positive on the up side and negative on the other (R27). -/
def share (loads : List Nat) (p c : Nat) : Int :=
  if modSub c p loads.length < loads.length / 2 then (loadAt loads c : Int) else -(loadAt loads c : Int)

theorem imbalance_eq_sum (loads : List Nat) (p : Nat) : imbalance loads p = ∑ c ∈ Finset.range loads.length, share loads p c := by
  rw [imbalance, ← List.sum_eq_foldl]
  rfl

theorem modSub_of_lt {c p n : Nat} (hc : c < n) (hp : p < n) : modSub c p n = if p ≤ c then c - p else c + n - p := by
  rw [modSub, Nat.mod_eq_of_lt hp]
  split
  · rw [show c + n - p = c - p + n by omega, Nat.add_mod_right, Nat.mod_eq_of_lt (by omega)]
  · exact Nat.mod_eq_of_lt (by omega)

theorem modSub_mod (c p n : Nat) : modSub c (p % n) n = modSub c p n := by rw [modSub, Nat.mod_mod, modSub]

section
variable {loads : List Nat} (even : loads.length % 2 = 0)
include even

/-- A carrier stands half a turn on at the other side. -/
theorem share_opposite {p c : Nat} (hp : p < loads.length) (hc : c < loads.length) :
    share loads (p + loads.length / 2) c = -share loads p c := by
  unfold share
  rw [← modSub_mod c (p + _), modSub_of_lt hc (Nat.mod_lt _ (by omega)), modSub_of_lt hc hp]
  have wrap : (p + loads.length / 2) % loads.length =
      if p + loads.length / 2 < loads.length then p + loads.length / 2 else p + loads.length / 2 - loads.length := by
    split
    · next h => exact Nat.mod_eq_of_lt h
    · next h => rw [Nat.mod_eq_sub_mod (by omega), Nat.mod_eq_of_lt (by omega)]
  rw [wrap]
  split_ifs <;> omega

/-- In one forward step the carrier at loop position 0 leaves the up side, and the one half a turn on joins it (R28). -/
theorem share_step {p c : Nat} (hp : p < loads.length) (hc : c < loads.length) :
    share loads (p + 1) c = share loads p c + (if c = p then -(2 * (loadAt loads p : Int)) else 0) +
      if c = (p + loads.length / 2) % loads.length then 2 * (loadAt loads ((p + loads.length / 2) % loads.length) : Int) else 0 := by
  have wrap : (p + loads.length / 2) % loads.length =
      if p + loads.length / 2 < loads.length then p + loads.length / 2 else p + loads.length / 2 - loads.length := by
    split
    · next h => exact Nat.mod_eq_of_lt h
    · next h => rw [Nat.mod_eq_sub_mod (by omega), Nat.mod_eq_of_lt (by omega)]
  have next : (p + 1) % loads.length = if p + 1 < loads.length then p + 1 else 0 := by
    split
    · next h => exact Nat.mod_eq_of_lt h
    · next h => rw [show p + 1 = loads.length by omega, Nat.mod_self]
  unfold share
  rw [← modSub_mod c (p + 1), modSub_of_lt hc (Nat.mod_lt _ (by omega)), modSub_of_lt hc hp, next]
  by_cases own : c = p
  · subst own
    rw [wrap]
    split_ifs <;> omega
  · by_cases across : c = (p + loads.length / 2) % loads.length
    · rw [← across]
      rw [wrap] at across
      split_ifs at across ⊢ <;> omega
    · rw [if_neg own, if_neg across]
      rw [wrap] at across
      split_ifs at across ⊢ <;> omega

/-- The mirror relation (R28). -/
theorem imbalance_opposite {p : Nat} (hp : p < loads.length) :
    imbalance loads (p + loads.length / 2) = -imbalance loads p := by
  rw [imbalance_eq_sum, imbalance_eq_sum, ← Finset.sum_neg_distrib]
  exact Finset.sum_congr rfl fun c hc => share_opposite even hp (Finset.mem_range.mp hc)

/-- The stepping relation (R28). -/
theorem imbalance_succ {p : Nat} (hp : p < loads.length) : imbalance loads (p + 1) = stepProfile loads p (imbalance loads p) := by
  have across : (p + loads.length / 2) % loads.length < loads.length := Nat.mod_lt _ (by omega)
  rw [imbalance_eq_sum, imbalance_eq_sum, Finset.sum_congr rfl fun c hc => share_step even hp (Finset.mem_range.mp hc),
    Finset.sum_add_distrib, Finset.sum_add_distrib, Finset.sum_ite_eq', Finset.sum_ite_eq', if_pos (Finset.mem_range.mpr hp),
    if_pos (Finset.mem_range.mpr across), stepProfile]
  ring

/-! ### The profile by stepping, and its worst value (R28, R29) -/

theorem profileFrom_eq (k p : Nat) (h : p + k ≤ loads.length) :
    profileFrom loads k p (imbalance loads p) = (List.range k).map fun i => imbalance loads (p + i) := by
  induction k generalizing p with
  | zero => rfl
  | succ k ih =>
    rw [profileFrom, ← imbalance_succ even (by omega), ih (p + 1) (by omega), List.range_succ_eq_map, List.map_cons,
      List.map_map]
    refine congrArg _ (List.map_congr_left fun i _ => ?_)
    exact congrArg (imbalance loads) (show p + 1 + i = p + (i + 1) by omega)

theorem profile_eq : profile loads = (List.range (loads.length / 2)).map (imbalance loads) := by
  rw [profile, profileFrom_eq even _ _ (by omega)]
  exact List.map_congr_left fun i _ => by rw [Nat.zero_add]

end

/-- The largest of some absolute values and a start is none of them exceeded, and is one of them or the start. -/
theorem foldl_max_natAbs (ds : List Int) (w : Nat) :
    let m := ds.foldl (fun w d => max w d.natAbs) w
    w ≤ m ∧ (∀ d ∈ ds, d.natAbs ≤ m) ∧ (m = w ∨ ∃ d ∈ ds, d.natAbs = m) := by
  induction ds generalizing w with
  | nil => exact ⟨le_rfl, fun d h => absurd h List.not_mem_nil, .inl rfl⟩
  | cons d ds ih =>
    obtain ⟨start, bound, reached⟩ := ih (max w d.natAbs)
    refine ⟨le_trans (le_max_left ..) start, fun e he => ?_, ?_⟩
    · rcases List.mem_cons.mp he with rfl | later
      · exact le_trans (le_max_right ..) start
      · exact bound e later
    · rcases reached with first | ⟨e, he, hm⟩
      · rcases max_choice w d.natAbs with keep | own
        · exact .inl (first.trans keep)
        · exact .inr ⟨d, List.mem_cons_self, (first.trans own).symm⟩
      · exact .inr ⟨e, List.mem_cons_of_mem _ he, hm⟩

section
variable {loads : List Nat} (even : loads.length % 2 = 0) (carriers : 0 < loads.length)
include even

/-- No position of the first half turn is worse than W. -/
theorem natAbs_le_worst {p : Nat} (hp : p < loads.length / 2) : (imbalance loads p).natAbs ≤ worst loads :=
  (foldl_max_natAbs (profile loads) 0).2.1 _ (by
    rw [profile_eq even]
    exact List.mem_map.mpr ⟨p, List.mem_range.mpr hp, rfl⟩)

/-- No position of the whole turn is worse than W (R29). -/
theorem natAbs_le_worst_all {p : Nat} (hp : p < loads.length) : (imbalance loads p).natAbs ≤ worst loads := by
  by_cases first : p < loads.length / 2
  · exact natAbs_le_worst even first
  · have mirror := imbalance_opposite even (p := p - loads.length / 2) (by omega)
    rw [show p - loads.length / 2 + loads.length / 2 = p by omega] at mirror
    rw [mirror, Int.natAbs_neg]
    exact natAbs_le_worst even (by omega)

include carriers

/-- Some position of the first half turn has W. -/
theorem exists_worst : ∃ p, p < loads.length / 2 ∧ (imbalance loads p).natAbs = worst loads := by
  obtain ⟨-, -, zero | ⟨d, hd, hm⟩⟩ := foldl_max_natAbs (profile loads) 0
  · have first : 0 < loads.length / 2 := by omega
    have balanced : worst loads = 0 := zero
    exact ⟨0, first, by have := natAbs_le_worst even first; omega⟩
  · rw [profile_eq even] at hd
    obtain ⟨p, hp, rfl⟩ := List.mem_map.mp hd
    exact ⟨p, List.mem_range.mp hp, hm⟩

/-- The worst position is the lowest at which |D(P)| is W, and the up side is heavier there when D is not negative (R39). -/
theorem worstPosition_spec :
    let p := (worstPosition loads).1
    p < loads.length / 2 ∧ (imbalance loads p).natAbs = worst loads ∧ (∀ m, m < p → (imbalance loads m).natAbs ≠ worst loads) ∧
      ((worstPosition loads).2 = true ↔ 0 ≤ imbalance loads p) := by
  obtain ⟨q, hq, worstAt⟩ := exists_worst even carriers
  have length : (profile loads).length = loads.length / 2 := by simp [profile_eq even]
  have entry : ∀ i (hi : i < (profile loads).length), (profile loads)[i] = imbalance loads i := fun i hi => by
    simp [profile_eq even]
  have found : ((profile loads).findIdx fun d => d.natAbs == worst loads) < (profile loads).length := by
    refine List.findIdx_lt_length_of_exists ⟨imbalance loads q, ?_, by simpa using worstAt⟩
    rw [profile_eq even]
    exact List.mem_map.mpr ⟨q, List.mem_range.mpr hq, rfl⟩
  have here : (worstPosition loads).1 = (profile loads).findIdx fun d => d.natAbs == worst loads := by
    simp [worstPosition, found]
  intro p
  have hp : p = (profile loads).findIdx fun d => d.natAbs == worst loads := here
  have inside : p < (profile loads).length := hp ▸ found
  refine ⟨length ▸ inside, ?_, fun m hm => ?_, ?_⟩
  · have := List.findIdx_getElem (w := found)
    simp only [entry, beq_iff_eq] at this
    rwa [hp]
  · have := List.not_of_lt_findIdx (hp ▸ hm)
    rw [entry m (by omega)] at this
    simpa using this
  · have side : (worstPosition loads).2 = decide (0 ≤ (profile loads).getD p 0) := by rw [hp]; rfl
    rw [side, decide_eq_true_iff, List.getD_eq_getElem _ _ inside, entry p inside]

/-- With no imbalance at all the worst position is 0 and the up side (R39). -/
theorem worstPosition_zero (balanced : worst loads = 0) : worstPosition loads = (0, true) := by
  obtain ⟨-, -, below, side⟩ := worstPosition_spec even carriers
  have level : ∀ m, m < loads.length / 2 → (imbalance loads m).natAbs = 0 := fun m hm => by
    have := natAbs_le_worst even hm
    omega
  have first : (worstPosition loads).1 = 0 := by
    by_contra h
    exact below 0 (Nat.pos_of_ne_zero h) (by rw [balanced]; exact level 0 (by omega))
  rw [first] at side
  have zero : imbalance loads 0 = 0 := Int.natAbs_eq_zero.mp (level 0 (by omega))
  exact Prod.ext first (side.mpr (by rw [zero]))

end

/-- Settles O21. -/
theorem theImbalanceProfileAndItsWorstValue : Obligations.TheImbalanceProfileAndItsWorstValue :=
  ⟨fun _ _ even hp => ⟨imbalance_succ even hp, imbalance_opposite even hp⟩,
    fun _ even carriers => ⟨fun _ hp => natAbs_le_worst_all even hp, exists_worst even carriers⟩⟩

/-- Settles O22: each is the definition read. -/
theorem theLimitJudgesProposalsFlagAndSpeed : Obligations.TheLimitJudgesProposalsFlagAndSpeed := by
  intro f carrier change
  refine ⟨?grants, decide_eq_true_iff, ?creep, ?normal⟩
  case grants => rw [Figures.grants, Bool.or_eq_true, decide_eq_true_iff, decide_eq_true_iff, Figures.proposedW]
  case creep => simp [Figures.speed]
  case normal => simp [Figures.speed]

end Sys2Proof.Machine
end

section
/-! The reports of the part (R39, R56, R80, R166, R167) and its settings (R49, R130, R136, R151, R162, R178): what the owner of each
request answers. -/

namespace Sys2Proof.Machine

/-! ### Reports -/

theorem getBalance_configured {s : State} {k : Nat} {c : Carousel} (hc : s.carousel? k = some c) (form : LoadForm) :
    getBalance k (some form) s = .reply s .ok (.balance (c.figures.report c.geometry.n form)) := by
  simp [getBalance, hc]

theorem getBalance_absent {s : State} {k : Nat} (hc : s.carousel? k = none) (form : Option LoadForm) :
    getBalance k form s = s.refuse .badField := by
  simp [getBalance, hc]

theorem getBalance_unspelt (k : Nat) (s : State) : getBalance k none s = s.refuse .badField := by
  unfold getBalance
  split
  · next h => cases h
  · rfl

theorem getOrder_notHeld {s : State} {order : Nat} (h0 : order ≠ 0) (ho : s.order? order = none) :
    getOrder order s = s.refuse .notFound := by
  simp [getOrder, h0, ho]

theorem getOrder_held {s : State} {order : Nat} {o : Order} (h0 : order ≠ 0) (ho : s.order? order = some o) :
    getOrder order s = .reply s .ok (.order (s.orderReport o)) := by
  simp [getOrder, h0, ho]

/-- Settles O23. -/
theorem getBalanceGetOrderAndGetAuditReport : Obligations.GetBalanceGetOrderAndGetAuditReport := by
  refine ⟨fun s tag k c free ht => ?balance,
    fun loads even carriers => ?worst, fun s tag order free ht => ?order, fun s tag w free ht => ?audit⟩
  case balance =>
    have answer := fun form => exec_lineFree (i := .getBalance tag k form) (kind := 0x24) (tag := tag) rfl free ht
    simp only [ownerOf] at answer
    refine ⟨fun hc form loads hl => ?_, fun hc form => ?_, ?_⟩
    · rw [answer, getBalance_configured (s := s.take 0x24 tag) hc]
      rcases hl with ⟨rfl, rfl⟩ | ⟨rfl, rfl⟩ <;> rfl
    · rw [answer, getBalance_absent (s := s.take 0x24 tag) hc, refuse_take_outcome]
    · rw [answer, getBalance_unspelt, refuse_take_outcome]
  case worst =>
    obtain ⟨first, worstHere, lowest, side⟩ := worstPosition_spec even carriers
    exact ⟨first, worstHere, lowest, side, worstPosition_zero even carriers⟩
  case order =>
    rw [exec_lineFree (kind := 0x34) (tag := tag) rfl free ht]
    simp only [ownerOf]
    refine ⟨?_, fun h0 ho => ?_, fun o h0 ho => ?_⟩
    · rintro rfl
      rfl
    · rw [getOrder_notHeld (s := s.take 0x34 tag) h0 ho, refuse_take_outcome]
    · rw [getOrder_held (s := s.take 0x34 tag) h0 ho]
      rfl
  case audit =>
    rw [exec_lineFree (kind := 0x4E) (tag := tag) rfl free ht]
    simp only [ownerOf, getAudit]
    refine ⟨fun hw => ?_, fun hw => ?_⟩
    · rw [if_neg (Nat.not_lt.mpr hw)]
      rfl
    · rw [if_pos hw, refuse_take_outcome]

theorem getPutaway_notHeld {s : State} {task : Nat} (h0 : task ≠ 0) (held : s.task? task = none) :
    getPutaway task s = s.refuse .notFound := by
  simp [getPutaway, h0, held]

theorem getPutaway_held {s : State} {task : Nat} {t : Task} (h0 : task ≠ 0) (held : s.task? task = some t) :
    getPutaway task s = .reply s .ok (.task (s.taskReport t)) := by
  simp [getPutaway, h0, held]

/-- Settles O29. -/
theorem getPutawayAndGetDiscrepanciesReport : Obligations.GetPutawayAndGetDiscrepanciesReport := by
  refine ⟨fun s tag task free ht => ?task, fun s tag free ht => ⟨?list, fun r b => ⟨rfl, rfl⟩⟩⟩
  case task =>
    rw [exec_lineFree (kind := 0x2A) (tag := tag) rfl free ht]
    simp only [ownerOf]
    refine ⟨?_, fun h0 held => ?_, fun t h0 held => ?_⟩
    · rintro rfl
      rfl
    · rw [getPutaway_notHeld (s := s.take 0x2A tag) h0 held, refuse_take_outcome]
    · rw [getPutaway_held (s := s.take 0x2A tag) h0 held]
      rfl
  case list =>
    rw [exec_lineFree (kind := 0x4F) (tag := tag) rfl free ht]
    rfl

/-! ### Settings -/

theorem inRange_iff {lo hi x : Nat} : inRange lo hi x = true ↔ lo ≤ x ∧ x ≤ hi := by simp [inRange]

/-- Settles O25. -/
theorem settingsAreStoredAndGivenBack : Obligations.SettingsAreStoredAndGivenBack := by
  intro s tag free ht
  refine ⟨fun cls mode h1 h4 => ?cls, fun m mode noAccess => ?bridge, fun n c mode hn h4 h48 => ?lane, fun n mode hn => ?noLane,
    fun w i t k hw hi ht' h1 hk => ?cal, fun w hw => ?getCal⟩
  case cls =>
    rw [exec_lineFree (kind := 0x1B) (tag := tag) rfl free ht]
    simp [ownerOf, setPutawayClass, mode, inRange_iff.mpr ⟨h1, h4⟩]
    rfl
  case bridge =>
    have none : (s.links.any fun l => l.access.isSome) = false := by simpa using noAccess
    rw [exec_lineFree (kind := 0x1C) (tag := tag) rfl free ht]
    simp [ownerOf, setBridgeMode, mode, none]
    rfl
  case lane =>
    rw [exec_lineFree (kind := 0x1A) (tag := tag) rfl free ht]
    simp [ownerOf, setLane, mode, capacityFits, Nat.not_lt.mpr hn, inRange_iff.mpr ⟨h4, h48⟩]
    rfl
  case noLane =>
    rw [exec_lineFree (kind := 0x1A) (tag := tag) rfl free ht]
    simp [ownerOf, setLane, mode, capacityFits, Nat.not_lt.mpr hn]
    rfl
  case cal =>
    rw [exec_lineFree (kind := 0x4B) (tag := tag) rfl free ht]
    simp only [ownerOf, setCal]
    rw [if_neg (by simp [Nat.not_lt.mpr hw, Nat.not_lt.mpr hi, Nat.not_lt.mpr ht', inRange_iff.mpr ⟨h1, hk⟩])]
    rfl
  case getCal =>
    rw [exec_lineFree (kind := 0x4C) (tag := tag) rfl free ht]
    simp only [ownerOf, getCal]
    rw [if_neg (Nat.not_lt.mpr hw)]
    rfl

/-- A transfer record formed sets a deadline with the length in force (R136, R138). -/
theorem startTransfer_transfer (s : State) (w : Nat) (item : Item) :
    (s.startTransfer w item).merge.transfer = some
      { number := s.merge.nextNumber, window := w, item := item, attempt := 1, deadline := some s.transferDeadline,
        linkLost := false } := by
  simp [State.startTransfer, State.divert]

/-- Another attempt sets its deadline with the length in force (R142). -/
theorem expireAttempt_again {t : Transfer} (h : t.attempt < 3) (s : State) (cause : StopCause) :
    (s.expireAttempt cause t).merge.transfer = some
      { t with attempt := t.attempt + 1, deadline := some s.transferDeadline, linkLost := false } := by
  simp [State.expireAttempt, State.divert, h]

/-- The channel acknowledged starts the settle timer with the length in force (R151, R153). -/
theorem window_channelAcked {s : State} {w : Nat} {m : Measurement} (hw : w < s.windows.length)
    (hm : (s.window w).measurement = some m) (channel : m.phase = .channel) :
    ((s.channelAcked w m.position).window w).measurement = some { m with phase := .settle (s.now + ms s.settings.settleTime) } := by
  rw [State.channelAcked, State.onMeasurement, window_onWindow hw, if_pos rfl]
  simp [hm, channel]

/-- The settle timer expired starts the gate timer with the length in force (R151, R154). -/
theorem window_settleExpiry {s : State} {w : Nat} {m : Measurement} {e : Time} (hw : w < s.windows.length)
    (hm : (s.window w).measurement = some m) (settling : m.phase = .settle e) :
    ((s.settleExpiry w).window w).measurement =
      some { m with phase := .gate ((s.reachTime e).now + ms (s.reachTime e).settings.gateTime) } := by
  simp only [State.settleExpiry, hm, settling]
  rw [window_onWindow (by rwa [State.reachTime_windows]), if_pos rfl]

/-- Settles O26. -/
theorem timeSettingsAreClamped : Obligations.TimeSettingsAreClamped := by
  refine ⟨fun s tag v free ht => ⟨clamp 2000 30000 v, rfl, ?merge⟩,
    fun s tag v g free ht => ⟨clamp 50 1000 v, clamp 10 250 g, rfl, rfl, ?audit⟩⟩
  case merge =>
    intro u
    refine ⟨?_, rfl, fun w item => ?_, fun cause t again => ?_⟩
    · rw [exec_lineFree (kind := 0x42) (tag := tag) rfl free ht]
      rfl
    · rw [startTransfer_transfer]
      rfl
    · rw [expireAttempt_again again]
      rfl
  case audit =>
    intro u
    refine ⟨?_, rfl, fun w i m hw hm channel hi => ?_, fun w m e hw hm settling => ?_⟩
    · rw [exec_lineFree (kind := 0x4A) (tag := tag) rfl free ht]
      rfl
    · subst hi
      rw [window_channelAcked (s := u) hw hm channel]
    · rw [window_settleExpiry (s := u) hw hm settling, State.reachTime_settings]
      rfl

end Sys2Proof.Machine
end

section
/-! The records found by their tags after a change of one of them. -/

namespace Sys2Proof.Machine

/-- The records with a key rewritten keep their keys: each key finds its record, rewritten or as it was. -/
theorem find?_rewrite {α : Type} (key : α → Nat) {f : α → α} (keeps : ∀ x, key (f x) = key x) (k j : Nat) (xs : List α) :
    (xs.map fun x => if key x = k then f x else x).find? (fun x => key x == j) =
      (xs.find? fun x => key x == j).map fun x => if j = k then f x else x := by
  have same : ∀ x, key (if key x = k then f x else x) = key x := fun x => by
    split
    · exact keeps x
    · rfl
  rw [List.find?_map]
  simp only [Function.comp_def, same]
  cases h : xs.find? fun x => key x == j with
  | none => rfl
  | some x =>
    have e : key x = j := by simpa using List.find?_some h
    simp only [Option.map_some, e]

theorem order?_tag {s : State} {tag : Nat} {o : Order} (h : s.order? tag = some o) : o.tag = tag := by
  simpa using List.find?_some h

theorem order?_onOrder_eq (s : State) (tag : Nat) {f : Order → Order} (h : ∀ o, (f o).tag = o.tag) (tag' : Nat) :
    (s.onOrder tag f).order? tag' = (s.order? tag').map fun o => if tag' = tag then f o else o :=
  find?_rewrite Order.tag h tag tag' s.orders

theorem order?_onOrder_self {s : State} {tag : Nat} {o : Order} {f : Order → Order} (h : ∀ o, (f o).tag = o.tag)
    (ho : s.order? tag = some o) : (s.onOrder tag f).order? tag = some (f o) := by
  rw [order?_onOrder_eq s tag h, ho, Option.map_some, if_pos rfl]

theorem order?_onOrder_other (s : State) {tag tag' : Nat} (hne : tag' ≠ tag) {f : Order → Order} (h : ∀ o, (f o).tag = o.tag) :
    (s.onOrder tag f).order? tag' = s.order? tag' := by
  rw [order?_onOrder_eq s tag h]
  simp [hne]

theorem line?_of_order {s : State} {tag : Nat} {o : Order} (h : s.order? tag = some o) (i : Nat) : s.line? tag i = o.lines[i]? := by
  rw [State.line?, h]

theorem onLine_tag (o : Order) (i : Nat) (f : Line → Line) : (o.onLine i f).tag = o.tag := rfl

theorem modifyAt_getElem?_self {α : Type} {f : α → α} {i : Nat} {xs : List α} {x : α} (h : xs[i]? = some x) :
    (modifyAt f i xs)[i]? = some (f x) := by
  obtain ⟨hi, rfl⟩ := List.getElem?_eq_some_iff.mp h
  rw [modifyAt, h]
  exact List.getElem?_set_self hi

theorem modifyAt_getElem?_ne {α : Type} (f : α → α) {i j : Nat} (hne : j ≠ i) (xs : List α) :
    (modifyAt f i xs)[j]? = xs[j]? := by
  unfold modifyAt
  split
  · exact List.getElem?_set_ne hne.symm
  · rfl

theorem onLine_line_self {o : Order} {i : Nat} {l : Line} (h : o.lines[i]? = some l) (f : Line → Line) :
    (o.onLine i f).lines[i]? = some (f l) := modifyAt_getElem?_self h

/-- Two changes of the order with a tag are one. -/
theorem onOrder_onOrder (s : State) (tag : Nat) {f : Order → Order} (h : ∀ o, (f o).tag = o.tag) (g : Order → Order) :
    (s.onOrder tag f).onOrder tag g = s.onOrder tag fun o => g (f o) := by
  simp only [State.onOrder, List.map_map]
  congr 1
  refine List.map_congr_left fun o _ => ?_
  by_cases e : o.tag = tag <;> simp [e, h]

theorem task?_onTask_eq (s : State) (tag : Nat) {f : Task → Task} (h : ∀ t, (f t).tag = t.tag) (tag' : Nat) :
    (s.onTask tag f).task? tag' = (s.task? tag').map fun t => if tag' = tag then f t else t :=
  find?_rewrite Task.tag h tag tag' s.tasks

theorem task?_onTask_self {s : State} {tag : Nat} {t : Task} {f : Task → Task} (h : ∀ t, (f t).tag = t.tag)
    (ht : s.task? tag = some t) : (s.onTask tag f).task? tag = some (f t) := by
  rw [task?_onTask_eq s tag h, ht, Option.map_some, if_pos rfl]

end Sys2Proof.Machine
end

section
/-! Grants, deliveries, transfers and the ranks (R72, R73, R137 to R147). -/

namespace Sys2Proof.Machine

/-! ### The grant (R138) -/

theorem mem_configuredWindows {s : State} {w : Nat} : w ∈ s.configuredWindows ↔ w < 8 ∧ (s.window w).assigned.isSome = true := by
  simp [State.configuredWindows]

theorem mem_grantable {s : State} {w : Nat} :
    w ∈ s.configuredWindows.filter (fun w => decide (0 < s.itemsWaiting w)) ↔
      w < 8 ∧ (s.window w).assigned.isSome = true ∧ 0 < s.itemsWaiting w := by
  rw [List.mem_filter, mem_configuredWindows, decide_eq_true_iff, and_assoc]

theorem grantWindow_some {s : State} {w : Nat} (h : s.grantWindow = some w) :
    w < 8 ∧ (s.window w).assigned.isSome = true ∧ 0 < s.itemsWaiting w ∧
      ∀ v, v < 8 → (s.window v).assigned.isSome = true → 0 < s.itemsWaiting v → s.rankOf v ≤ s.rankOf w := by
  obtain ⟨least, -⟩ := leastBy_spec _ (fun a b c => by simpa using fun h1 h2 => Nat.lt_trans h2 h1)
    (fun a b c => by simpa using fun h => by omega) (fun a => by simp) h
  obtain ⟨hw, assigned, waits⟩ := mem_grantable.mp (leastBy_mem h)
  refine ⟨hw, assigned, waits, fun v hv ha hi => ?_⟩
  simpa using least v (mem_grantable.mpr ⟨hv, ha, hi⟩)

theorem grantWindow_none (s : State) :
    s.grantWindow = none ↔ ∀ v, v < 8 → (s.window v).assigned.isSome = true → s.itemsWaiting v = 0 := by
  rw [State.grantWindow, leastBy_eq_none, List.eq_nil_iff_forall_not_mem]
  simp only [mem_grantable, not_and, Nat.not_lt, Nat.le_zero]

theorem testGrant_grants {s : State} {w : Nat} {item : Item} {rest : List Item} (running : s.merge.state = .running)
    (free : s.merge.transfer = none) (locked : s.locked 4 = true) (grant : s.grantWindow = some w)
    (head : (s.window w).outfeed = item :: rest) : s.testGrant = s.startTransfer w item := by
  rw [State.testGrant, if_pos ⟨running, free, locked⟩]
  simp only [grant, head]

theorem testGrant_none {s : State}
    (h : s.merge.state ≠ .running ∨ s.merge.transfer ≠ none ∨ s.locked 4 = false ∨ s.grantWindow = none) : s.testGrant = s := by
  unfold State.testGrant
  split
  · next conditions =>
    obtain ⟨running, free, locked⟩ := conditions
    change s.locked 4 = true at locked
    have grant : s.grantWindow = none := by simpa [running, free, locked] using h
    simp only [grant]
  · rfl

/-! ### The ranks (R137) -/

theorem rank_changeRanks (s : State) (w v : Nat) :
    ((s.changeRanks w).windows[v]?.bind Window.rank) =
      (s.windows[v]?.bind Window.rank).map (rankAfter w (s.rankOf w) v) := by
  simp only [State.changeRanks, List.getElem?_mapIdx]
  cases s.windows[v]? <;> rfl

theorem rankOf_of {s : State} {w r : Nat} (h : (s.windows[w]?.bind Window.rank) = some r) : s.rankOf w = r := by
  obtain ⟨v, hv, hr⟩ := Option.bind_eq_some_iff.mp h
  simp [State.rankOf, State.window, List.getD_eq_getElem?_getD, hv, hr]

/-- Settles O45. -/
theorem theGrantAndTheRanks : Obligations.TheGrantAndTheRanks := by
  refine ⟨fun s => ⟨fun w h => grantWindow_some h, grantWindow_none s, fun w item rest running free locked grant head => ?grants,
    testGrant_none⟩, fun s w r hr => ?ranks⟩
  case grants =>
    rw [testGrant_grants running free locked grant head]
    rfl
  case ranks =>
    have after : ∀ v a, (s.windows[v]?.bind Window.rank) = some a →
        ((s.changeRanks w).windows[v]?.bind Window.rank) = some (if v = w then 0 else if a < r then a + 1 else a) :=
      fun v a h => by rw [rank_changeRanks, h, rankOf_of hr]; rfl
    refine ⟨by simpa using after w r hr, fun v a hv h => by simpa [hv] using after v a h, fun distinct u v a hne hu hv => ?_⟩
    rw [rank_changeRanks, rankOf_of hr] at hu hv
    obtain ⟨b, hb, eb⟩ := Option.map_eq_some_iff.mp hu
    obtain ⟨c, hc, ec⟩ := Option.map_eq_some_iff.mp hv
    have apart : b ≠ c := fun e => distinct u v b hne hb (e ▸ hc)
    have mine : u ≠ w → b ≠ r := fun hu e => distinct u w b hu hb (e ▸ hr)
    have yours : v ≠ w → c ≠ r := fun hv e => distinct v w c hv hc (e ▸ hr)
    unfold rankAfter at eb ec
    split_ifs at eb ec <;> omega

/-! ### Deliveries (R72, R73) -/

theorem notifyOrder_eq {s : State} {tag : Nat} {o : Order} (h : s.order? tag = some o) (occasion : Occasion) :
    s.notifyOrder tag occasion =
      s.notify (.orderState tag occasion o.lane o.requestedTotal o.pickedTotal o.deliveredTotal) := by
  rw [State.notifyOrder, h]

theorem order?_notify (s : State) (n : Notice) (tag : Nat) : (s.notify n).order? tag = s.order? tag := by
  rw [State.order?, State.notify_orders, State.order?]

/-- The order with one tyre more delivered on a line (R72). -/
def Order.delivery (o : Order) (i : Nat) : Order := o.onLine i fun l => { l with delivered := l.delivered + 1 }

/-- The part with a tyre of an order delivered on its line, before the order is judged (R72). -/
def State.countDelivery (item : Item) (s : State) : State := s.onOrder item.order fun o => o.delivery item.line

/-- The notice of an order with the counts of a record of it (R73). -/
def Order.stateNotice (tag : Nat) (occasion : Occasion) (o : Order) : Notice :=
  .orderState tag occasion o.lane o.requestedTotal o.pickedTotal o.deliveredTotal

theorem allDelivered_iff (o : Order) : o.allDelivered = true ↔ ∀ l ∈ o.lines, l.delivered = l.requested := by
  simp [Order.allDelivered]

section
variable {s : State} {item : Item} {o : Order} (ho : s.order? item.order = some o)
include ho

theorem order?_countDelivery : (s.countDelivery item).order? item.order = some (o.delivery item.line) :=
  order?_onOrder_self (fun _ => rfl) ho

/-- The order with its tyre counted decides what a delivery does (R72, R73). -/
theorem deliver_eq : s.deliver item =
    if o.state = .active ∧ (o.delivery item.line).allDelivered = true then
      ((s.countDelivery item).onOrder item.order fun x => { x with state := .assembled }).notify
        ((o.delivery item.line).stateNotice item.order .assembled)
    else if o.state = .cancelled ∧ (o.delivery item.line).onTheWay = 0 then
      (s.countDelivery item).notify ((o.delivery item.line).stateNotice item.order .drained)
    else s.countDelivery item := by
  have counted := order?_countDelivery ho
  have assembled := order?_onOrder_self (f := fun x => { x with state := .assembled }) (fun _ => rfl) counted
  have told := notifyOrder_eq assembled .assembled
  have drained := notifyOrder_eq counted .drained
  simp only [State.countDelivery, Order.delivery] at counted told drained
  simp only [State.deliver, counted, told, drained]
  rfl

theorem order?_deliver : (s.deliver item).order? item.order = some
    (if o.state = .active ∧ (o.delivery item.line).allDelivered = true then { o.delivery item.line with state := .assembled }
     else o.delivery item.line) := by
  have counted := order?_countDelivery ho
  rw [deliver_eq ho]
  split
  · exact (order?_notify ..).trans (order?_onOrder_self (f := fun x => { x with state := .assembled }) (fun _ => rfl) counted)
  · split
    · rw [order?_notify, counted]
    · exact counted

theorem order?_deliver_other {tag : Nat} (h : tag ≠ item.order) : (s.deliver item).order? tag = s.order? tag := by
  have counted : (s.countDelivery item).order? tag = s.order? tag := order?_onOrder_other s h fun _ => rfl
  rw [deliver_eq ho]
  split
  · exact (order?_notify ..).trans
      ((order?_onOrder_other _ h (f := fun x => { x with state := .assembled }) fun _ => rfl).trans counted)
  · split
    · rw [order?_notify, counted]
    · exact counted

/-- A delivery changes of what lasts only the orders. -/
theorem lasting_deliver : ({ (s.deliver item).lasting with orders := s.orders } : State) = s.lasting := by
  rw [deliver_eq ho]
  split
  · rw [lasting_notify]
    rfl
  · split
    · rw [lasting_notify]
      rfl
    · rfl

end

/-- Settles O46. -/
theorem aDeliveredTyreIsCounted : Obligations.ADeliveredTyreIsCounted := by
  intro s item o l ho hl
  refine ⟨order?_deliver ho, onLine_line_self hl _, lasting_deliver ho, fun tag h => order?_deliver_other ho h, ?_⟩
  intro counted told assembled drained
  refine ⟨fun h => ?assembled, fun h => ?drained, fun h1 h2 => ?neither⟩
  case assembled => exact (deliver_eq ho).trans (if_pos ⟨h.1, (allDelivered_iff _).mpr h.2⟩)
  case drained =>
    have inactive : o.state ≠ .active := fun active => by
      rw [h.1] at active
      cases active
    exact (deliver_eq ho).trans ((if_neg fun a => inactive a.1).trans (if_pos h))
  case neither =>
    exact (deliver_eq ho).trans ((if_neg fun a => h1 ⟨a.1, (allDelivered_iff _).mp a.2⟩).trans (if_neg h2))

/-! ### Transfers (R140 to R147) -/

theorem transferOf_some {s : State} {n : Nat} {t : Transfer} (locked : s.locked 4 = true) (flight : s.merge.transfer = some t)
    (number : t.number = n) : s.transferOf 4 n = some t := by
  rw [State.transferOf, if_pos ⟨rfl, locked⟩, flight]
  simp [number]

theorem transferOf_none {s : State} {st n : Nat}
    (h : st ≠ 4 ∨ s.locked 4 = false ∨ ∀ t, s.merge.transfer = some t → t.number ≠ n) : s.transferOf st n = none := by
  unfold State.transferOf
  split
  · next conditions =>
    have other : ∀ t, s.merge.transfer = some t → t.number ≠ n := by
      rcases h with station | unlocked | other
      · exact absurd conditions.1 station
      · exact absurd conditions.2 (by simp [laneModule, unlocked])
      · exact other
    cases flight : s.merge.transfer with
    | none => rfl
    | some t => simp [other t flight]
  · rfl

theorem notifyOrder_merge (s : State) (tag : Nat) (occasion : Occasion) : (s.notifyOrder tag occasion).merge = s.merge :=
  (congrArg State.merge (lasting_notifyOrder s tag occasion) :)

theorem deliver_merge (s : State) (item : Item) : (s.deliver item).merge = s.merge := by
  unfold State.deliver
  dsimp only
  split
  · split
    · exact notifyOrder_merge ..
    · split
      · exact notifyOrder_merge ..
      · rfl
  · rfl

theorem completeTransfer_eq (s : State) (t : Transfer) :
    s.completeTransfer t =
      ({ (((s.onWindow t.window fun v => { v with outfeed := v.outfeed.tail }).deliver t.item).onWindow t.window
          Window.releaseWaits).changeRanks t.window with merge := { s.merge with transfer := none } } : State).testGrant := by
  have merge := deliver_merge (s.onWindow t.window fun v => { v with outfeed := v.outfeed.tail }) t.item
  rw [State.completeTransfer]
  simp only [State.changeRanks, State.onWindow_merge, merge]

/-- Settles O47. -/
theorem transfersEndTryAgainOrStop : Obligations.TransfersEndTryAgainOrStop := by
  refine ⟨fun s n => ⟨fun t locked flight number => ?flight, fun st h => ?none⟩, fun s t d flight deadline running => ?deadline⟩
  case flight =>
    have named := transferOf_some locked flight number
    refine ⟨⟨?_, fun stopped => testGrant_none (.inl stopped)⟩, fun running => ?_, fun stopped => ?_⟩
    · show Host.Outcome.next (s.arrived 4 n).close = _
      simp only [State.arrived, named]
      rw [completeTransfer_eq]
      rfl
    · show Host.Outcome.next (s.jammed 4 n).close = _
      simp only [State.jammed, named, if_pos running, State.stopMerge]
    · show Host.Outcome.next (s.jammed 4 n).close = _
      simp only [State.jammed, named, if_neg stopped]
  case none =>
    have named := transferOf_none h
    constructor
    · show Host.Outcome.next (s.arrived st n).close = _
      simp only [State.arrived, named]
    · show Host.Outcome.next (s.jammed st n).close = _
      simp only [State.jammed, named]
  case deadline =>
    intro s1 t1
    have expiry : s.transferExpiry = s1.expireAttempt .timeout t := by
      simp only [State.transferExpiry, flight, deadline, if_pos running]
      rfl
    have merge : s1.merge = s.merge := State.reachTime_merge ..
    refine ⟨fun again => ?_, fun last => ?_⟩
    · show Host.Outcome.next s.transferExpiry.close = _
      rw [expiry, State.expireAttempt, if_pos again, State.transferDeadline, merge, State.reachTime_settings]
      rfl
    · show Host.Outcome.next s.transferExpiry.close = _
      rw [expiry, State.expireAttempt, if_neg (Nat.not_lt.mpr last), State.stopMerge, merge]

/-- MERGE_RESUME with its checks passed (R145). -/
theorem mergeResume_taken {s : State} (mode : s.mode ≠ .config) (stopped : s.merge.state ≠ .running) (locked : s.locked 4 = true) :
    mergeResume s = .reply s.resumeMerge.1 .ok (.mergeResumed s.resumeMerge.2) := by
  have module : s.locked laneModule = true := locked
  simp [mergeResume, mode, stopped, module]

/-- The items of a window that wait are those of its outfeed queue but the one in transfer (R138, R147). -/
theorem itemsWaiting_eq (s : State) (w : Nat) : s.itemsWaiting w =
    (s.window w).outfeed.length - if (s.merge.transfer.map Transfer.window) = some w then 1 else 0 := by
  unfold State.itemsWaiting
  cases s.merge.transfer with
  | none => rfl
  | some t => by_cases h : t.window = w <;> simp [h]

/-- Settles O48. -/
theorem mergeResumeRestartsAndGetMergeReports : Obligations.MergeResumeRestartsAndGetMergeReports := by
  intro s tag free ht
  refine ⟨fun t mode stopped locked flight => ?restarts, fun mode stopped locked flight => ?grants, ?reports⟩
  case restarts =>
    have restarts : (s.take 0x41 tag).resumeMerge =
        (State.startTransfer t.window t.item { s.take 0x41 tag with merge := { s.merge with state := .running } },
          some s.merge.nextNumber) := by
      simp only [State.resumeMerge, State.take_merge, flight]
    rw [exec_lineFree (kind := 0x41) (tag := tag) rfl free ht]
    simp only [ownerOf, mergeResume_taken (s := s.take 0x41 tag) mode stopped locked, restarts]
    rfl
  case grants =>
    have grants : (s.take 0x41 tag).resumeMerge =
        (State.testGrant { s.take 0x41 tag with merge := { s.merge with state := .running } }, none) := by
      simp only [State.resumeMerge, State.take_merge, flight]
    rw [exec_lineFree (kind := 0x41) (tag := tag) rfl free ht]
    simp only [ownerOf, mergeResume_taken (s := s.take 0x41 tag) mode stopped locked, grants]
    rfl
  case reports =>
    rw [exec_lineFree (kind := 0x43) (tag := tag) rfl free ht]
    simp only [ownerOf, getMerge, State.mergeReport, itemsWaiting_eq]
    rfl

end Sys2Proof.Machine
end

section
/-! What changes of one window, link or carousel leave of the units, and what the close of an event writes of them (R82, R85,
R117). -/

namespace Sys2Proof.Machine

/-! ### Windows -/

/-- A window that reads otherwise than one after reset has a place. -/
theorem window_lt {s : State} {w : Nat} (h : s.window w ≠ Window.afterReset) : w < s.windows.length := by
  by_contra hw
  exact h (by simp [State.window, List.getD_eq_getElem?_getD, List.getElem?_eq_none (Nat.not_lt.mp hw)])

theorem window_lt_of_assigned {s : State} {w : Nat} (h : (s.window w).assigned.isSome = true) : w < s.windows.length :=
  window_lt fun e => by simp [e, Window.afterReset] at h

theorem window_lt_of_carouselOf {s : State} {w k : Nat} (h : s.carouselOf w = some k) : w < s.windows.length := by
  obtain ⟨a, ha, -⟩ := Option.map_eq_some_iff.mp h
  exact window_lt_of_assigned (by rw [ha]; rfl)

theorem window_onWindow_self {s : State} {w : Nat} (h : w < s.windows.length) (f : Window → Window) :
    (s.onWindow w f).window w = f (s.window w) := by
  rw [window_onWindow h, if_pos rfl]

theorem window_onWindow_other (s : State) {w v : Nat} (h : v ≠ w) (f : Window → Window) :
    (s.onWindow w f).window v = s.window v := by
  simp [State.onWindow, State.window, List.getD_eq_getElem?_getD, h.symm]

/-- Two changes of one window are one change. -/
theorem onWindow_onWindow (s : State) (w : Nat) (f g : Window → Window) :
    (s.onWindow w f).onWindow w g = s.onWindow w fun v => g (f v) := by
  by_cases h : w < s.windows.length
  · have read := window_onWindow_self h f
    unfold State.onWindow at read ⊢
    rw [read]
    simp
  · simp [State.onWindow, List.set_eq_of_length_le (Nat.not_lt.mp h)]

/-- Changes that do the same to the window as it stands are the same. -/
theorem onWindow_congr {s : State} {w : Nat} {f g : Window → Window} (h : f (s.window w) = g (s.window w)) :
    s.onWindow w f = s.onWindow w g := by
  unfold State.onWindow
  rw [h]

/-- A change of what a property of windows does not see. -/
theorem onWindow_view {α : Type} {s : State} {w : Nat} {f : Window → Window} {view : Window → α} (h : ∀ v, view (f v) = view v)
    (v : Nat) : view ((s.onWindow w f).window v) = view (s.window v) := by
  by_cases e : v = w
  · subst e
    by_cases hw : v < s.windows.length
    · rw [window_onWindow_self hw, h]
    · simp [State.onWindow, State.window, List.set_eq_of_length_le (Nat.not_lt.mp hw)]
  · rw [window_onWindow_other s e]

/-! ### Links -/

theorem link_onLink_other (s : State) {st j : Nat} (h : j ≠ st) (f : Link → Link) : (s.onLink st f).link j = s.link j := by
  simp [State.onLink, State.link, List.getD_eq_getElem?_getD, h.symm]

theorem onLink_congr {s : State} {st : Nat} {f g : Link → Link} (h : f (s.link st) = g (s.link st)) :
    s.onLink st f = s.onLink st g := by
  unfold State.onLink
  rw [h]

/-! ### Carousels -/

theorem onCarousel_none {s : State} {k : Nat} (h : s.carousel? k = none) (f : Carousel → Carousel) : s.onCarousel k f = s := by
  simp [State.onCarousel, h]

theorem carousel?_onCarousel (s : State) (k : Nat) (f : Carousel → Carousel) (j : Nat) :
    (s.onCarousel k f).carousel? j = if j = k then (s.carousel? k).map f else s.carousel? j := by
  cases hc : s.carousel? k with
  | none =>
    rw [onCarousel_none hc]
    split
    · next e => rw [e, hc]; rfl
    · rfl
  | some c =>
    rw [State.onCarousel_eq hc]
    split
    · next e => rw [e, carousel?_set hc]; rfl
    · next e => rw [carousel?_setCarousel_other s e]

theorem window_onCarousel (s : State) (k w : Nat) (f : Carousel → Carousel) : (s.onCarousel k f).window w = s.window w := by
  unfold State.onCarousel
  split <;> rfl

/-- A change of what a property of carousels does not see. -/
theorem onCarousel_view {α : Type} (s : State) (k : Nat) {f : Carousel → Carousel} {view : Carousel → α}
    (h : ∀ c, view (f c) = view c) (j : Nat) : ((s.onCarousel k f).carousel? j).map view = (s.carousel? j).map view := by
  rw [carousel?_onCarousel]
  split
  · next e =>
    rw [e, Option.map_map]
    exact congrArg (fun g => Option.map g (s.carousel? k)) (funext h)
  · rfl

/-! ### The close of an event -/

/-- The record of a carousel but for what the close of an event writes of it (R82, R85). -/
def Carousel.bare (c : Carousel) : Carousel := { c with work := [], next := none }

theorem bare_refreshCarousel (s : State) (j k : Nat) :
    ((s.refreshCarousel j).carousel? k).map Carousel.bare = (s.carousel? k).map Carousel.bare := by
  unfold State.refreshCarousel
  split
  · next r hr =>
    by_cases e : k = j
    · subst e
      rw [carousel?_set hr, hr]
      rfl
    · rw [carousel?_setCarousel_other s e]
  · rfl

/-- What an operation preserves, its repetition over a list preserves. -/
theorem foldl_view {α β : Type} {f : State → α → State} {view : State → β} (h : ∀ s a, view (f s a) = view s) (xs : List α)
    (s : State) : view (xs.foldl f s) = view s := by
  induction xs generalizing s with
  | nil => rfl
  | cons x xs ih => rw [List.foldl_cons, ih, h]

theorem refreshCarousel_view {α : Type} {view : State → α} (h : ∀ s k c, view (s.setCarousel k c) = view s) (s : State) (k : Nat) :
    view (s.refreshCarousel k) = view s := by
  unfold State.refreshCarousel
  split
  · exact h ..
  · rfl

theorem refreshHeader_view {α : Type} {view : State → α} (h : ∀ s w f, view (s.onWindow w f) = view s) (s : State) (w : Nat) :
    view (s.refreshHeader w) = view s := by
  unfold State.refreshHeader
  split
  · exact h ..
  · rfl

/-- The close of an event writes of a carousel only its work summaries and its next target. -/
theorem bare_refresh (s : State) (k : Nat) : (s.refresh.carousel? k).map Carousel.bare = (s.carousel? k).map Carousel.bare := by
  unfold State.refresh
  rw [foldl_view (view := fun t : State => (t.carousel? k).map Carousel.bare) fun t w =>
      refreshHeader_view (view := fun t : State => (t.carousel? k).map Carousel.bare) (fun _ _ _ => rfl) t w,
    foldl_view (view := fun t : State => (t.carousel? k).map Carousel.bare) fun t j => bare_refreshCarousel t j k]

theorem refresh_view {α : Type} {view : State → α} (carousel : ∀ s k c, view (s.setCarousel k c) = view s)
    (window : ∀ s w f, view (s.onWindow w f) = view s) (s : State) : view s.refresh = view s := by
  unfold State.refresh
  rw [foldl_view (refreshHeader_view window), foldl_view (refreshCarousel_view carousel)]

theorem link_refresh (s : State) (st : Nat) : s.refresh.link st = s.link st :=
  refresh_view (view := fun t => t.link st) (fun _ _ _ => rfl) (fun _ _ _ => rfl) s

/-- What carousels show alike but for what the close of an event writes, any of their other parts shows alike. -/
theorem bare_read {s t : State} {k : Nat} (h : (t.carousel? k).map Carousel.bare = (s.carousel? k).map Carousel.bare) {c : Carousel}
    (hc : s.carousel? k = some c) : ∃ d, t.carousel? k = some d ∧ d.bare = c.bare := by
  rw [hc] at h
  exact Option.map_eq_some_iff.mp h

theorem view_of_bare {α : Type} {s t : State} {k : Nat}
    (h : (t.carousel? k).map Carousel.bare = (s.carousel? k).map Carousel.bare) {view : Carousel → α}
    (hv : ∀ c, view c.bare = view c) : (t.carousel? k).map view = (s.carousel? k).map view := by
  have shown : view ∘ Carousel.bare = view := funext hv
  have both := congrArg (Option.map view) h
  rwa [Option.map_map, Option.map_map, shown] at both

/-- A carousel after the close of an event: as it was, but for its work summaries and its next target. -/
theorem carousel?_refresh {s : State} {k : Nat} {c : Carousel} (hc : s.carousel? k = some c) :
    ∃ work next, s.refresh.carousel? k = some { c with work := work, next := next } := by
  obtain ⟨d, hd, e⟩ := bare_read (bare_refresh s k) hc
  refine ⟨d.work, d.next, hd.trans (congrArg some ?_)⟩
  simp only [Carousel.bare, Carousel.mk.injEq] at e
  cases d; cases c
  simp_all

/-! ### Headers (R117) -/

/-- The header of a window is of the mode, its assignment and count and presentation, and the carousels. -/
theorem headerOf_congr {s t : State} {w : Nat} (mode : t.mode = s.mode) (assigned : (t.window w).assigned = (s.window w).assigned)
    (presentation : (t.window w).presentation = (s.window w).presentation)
    (measurement : (t.window w).measurement = (s.window w).measurement)
    (carousels : ∀ k, (t.carousel? k).map Carousel.bare = (s.carousel? k).map Carousel.bare) : t.headerOf w = s.headerOf w := by
  have state : ∀ k, (t.carousel? k).map Carousel.state = (s.carousel? k).map Carousel.state := fun k =>
    view_of_bare (carousels k) fun _ => rfl
  have position : t.loopPosition w = s.loopPosition w := by simp only [State.loopPosition, assigned]
  have status : t.headerStatus w = s.headerStatus w := by
    simp only [State.headerStatus, mode, assigned, presentation, measurement, state]
  have carrier : t.headerCarrier w = s.headerCarrier w := by
    simp only [State.headerCarrier, assigned, presentation, measurement]
    split
    · rfl
    · rfl
    · split
      · next k _ _ =>
        have stands := view_of_bare (carousels k) (view := fun r => (r.known, t.standing r w)) fun _ => rfl
        cases hs : s.carousel? k with
        | none =>
          rw [hs] at stands
          rw [Option.map_eq_none_iff.mp stands]
        | some r =>
          rw [hs] at stands
          obtain ⟨q, hq, same⟩ := Option.map_eq_some_iff.mp stands
          simp only [Prod.mk.injEq, State.standing, position] at same
          obtain ⟨known, standing⟩ := same
          simp only [hq, State.standing, position, known, standing]
      · rfl
  rw [State.headerOf, State.headerOf, status, carrier]

theorem refreshHeader_window (s : State) (w v : Nat) : (s.refreshHeader w).window v =
    if v = w ∧ (s.window v).assigned.isSome = true then { s.window v with header := s.headerOf v } else s.window v := by
  unfold State.refreshHeader
  by_cases e : v = w
  · subst e
    split
    · next h => rw [window_onWindow_self (window_lt_of_assigned h), if_pos ⟨rfl, h⟩]
    · next h => rw [if_neg fun a => h a.2]
  · simp only [e, false_and, if_false]
    split
    · exact window_onWindow_other s e _
    · rfl

theorem refreshHeaders_window (s : State) (n v : Nat) : ((List.range n).foldl State.refreshHeader s).window v =
    if v < n ∧ (s.window v).assigned.isSome = true then { s.window v with header := s.headerOf v } else s.window v := by
  induction n with
  | zero => rfl
  | succ n ih =>
    have mode : ((List.range n).foldl State.refreshHeader s).mode = s.mode :=
      foldl_view (view := State.mode) (refreshHeader_view (view := State.mode) fun _ _ _ => rfl) _ s
    have carousels : ((List.range n).foldl State.refreshHeader s).carousels = s.carousels :=
      foldl_view (view := State.carousels) (refreshHeader_view (view := State.carousels) fun _ _ _ => rfl) _ s
    rw [List.range_succ, List.foldl_append, List.foldl_cons, List.foldl_nil, refreshHeader_window]
    by_cases e : v = n
    · subst e
      have before : ((List.range v).foldl State.refreshHeader s).window v = s.window v := by rw [ih, if_neg fun a => lt_irrefl v a.1]
      have header : ((List.range v).foldl State.refreshHeader s).headerOf v = s.headerOf v :=
        headerOf_congr mode (by rw [before]) (by rw [before]) (by rw [before]) fun k => by rw [State.carousel?, carousels, State.carousel?]
      rw [before, header]
      simp
    · have same : v < n + 1 ↔ v < n := by omega
      simp only [e, false_and, if_false, ih, same]

/-- The close of an event sets the headers of the configured windows, and changes nothing else of a window (R117). -/
theorem window_refresh (s : State) {w : Nat} (hw : w < 8) : s.refresh.window w =
    if (s.window w).assigned.isSome = true then { s.window w with header := s.headerOf w } else s.window w := by
  have mode : ((List.range 4).foldl State.refreshCarousel s).mode = s.mode :=
    foldl_view (view := State.mode) (refreshCarousel_view (view := State.mode) fun _ _ _ => rfl) _ s
  have windows : ∀ v, ((List.range 4).foldl State.refreshCarousel s).window v = s.window v := fun v =>
    foldl_view (view := fun t : State => t.window v) (refreshCarousel_view (view := fun t : State => t.window v) fun _ _ _ => rfl) _ s
  have header : ((List.range 4).foldl State.refreshCarousel s).headerOf w = s.headerOf w :=
    headerOf_congr mode (by rw [windows]) (by rw [windows]) (by rw [windows]) fun k =>
      foldl_view (view := fun t : State => (t.carousel? k).map Carousel.bare) (fun t j => bare_refreshCarousel t j k) _ s
  rw [State.refresh, refreshHeaders_window, windows, header]
  simp [hw]

theorem window_refresh_unassigned (s : State) {w : Nat} (h : (s.window w).assigned = none) : s.refresh.window w = s.window w := by
  have windows : ∀ v, ((List.range 4).foldl State.refreshCarousel s).window v = s.window v := fun v =>
    foldl_view (view := fun t : State => t.window v) (refreshCarousel_view (view := fun t : State => t.window v) fun _ _ _ => rfl) _ s
  rw [State.refresh, refreshHeaders_window, windows, h]
  simp

end Sys2Proof.Machine
end

section
/-! The sensor counter, the settle and gate timers, and the judgement of a count (R150, R154 to R156, R163 to R165). -/

namespace Sys2Proof.Machine

/-- The nearest tenfold: the quotient of a number rounded to the nearest, a half up (R155). -/
theorem rounded_bounds (x d : Nat) (hd : 0 < d) :
    2 * x < d * (2 * ((2 * x + d) / (2 * d)) + 1) ∧ d * (2 * ((2 * x + d) / (2 * d))) ≤ 2 * x + d := by
  have above := Nat.lt_mul_div_succ (2 * x + d) (show 0 < 2 * d by omega)
  have below := Nat.mul_div_le (2 * x + d) (2 * d)
  constructor
  · calc 2 * x < 2 * d * ((2 * x + d) / (2 * d) + 1) - d := by omega
      _ = d * (2 * ((2 * x + d) / (2 * d)) + 1) := by
        rw [Nat.sub_eq_of_eq_add]
        ring
  · calc d * (2 * ((2 * x + d) / (2 * d))) = 2 * d * ((2 * x + d) / (2 * d)) := by ring
      _ ≤ 2 * x + d := below

theorem measuredLoad_counted {c t k : Nat} (open_ : c ≠ 65535) (above : t < c) :
    measuredLoad c ⟨t, k⟩ = min (((c - t) * k + 512) / 1024) 9999 :=
  (if_neg open_).trans (if_neg (Nat.not_le.mpr above))

theorem estimateOf_le {load u : Nat} (hu : 40 ≤ u) (hl : load ≤ 9999) : (2 * load + u) / (2 * u) ≤ 250 :=
  Nat.le_of_lt_succ ((Nat.div_lt_iff_lt_mul (by omega)).mpr (by omega))

/-- Settles O52. -/
theorem loadEstimateAndJudgement : Obligations.LoadEstimateAndJudgement := by
  refine ⟨fun c t k _ => ⟨fun saturated => if_pos saturated, fun open_ below => ?tare, fun open_ above => ?counted⟩,
    fun load u hu hl => ?estimate, fun onHand c load e => rfl⟩
  case tare => exact (if_neg open_).trans (if_pos below)
  case counted =>
    rw [measuredLoad_counted open_ above]
    refine ⟨rfl, fun small => ?_⟩
    rw [Nat.mul_assoc]
    omega
  case estimate =>
    have small := estimateOf_le hu hl
    have value : estimateOf load u = (2 * load + u) / (2 * u) := min_eq_left (by omega)
    rw [value]
    exact ⟨rfl, small, rounded_bounds load u (by omega)⟩

/-! ### The counter and the tare count (R154, R164, R165) -/

theorem window_reachTime (s : State) (e : Time) (w : Nat) : (s.reachTime e).window w = s.window w := by
  rw [State.window, State.reachTime_windows, State.window]

theorem settleExpiry_eq {s : State} {w : Nat} {m : Measurement} {e : Time} (hm : (s.window w).measurement = some m)
    (settling : m.phase = .settle e) :
    s.settleExpiry w = (s.reachTime e).onWindow w fun v =>
      { v with counter := 0, counterOpen := true,
               measurement := some { m with phase := .gate ((s.reachTime e).now + ms s.settings.gateTime) } } := by
  simp only [State.settleExpiry, hm, settling, State.reachTime_settings]

/-- The window at the close of a gate: its counter is closed (R154). -/
def State.gateClosed (s : State) (w : Nat) (e : Time) : State := (s.reachTime e).onWindow w fun v => { v with counterOpen := false }

theorem window_gateClosed {s : State} {w : Nat} (hw : w < s.windows.length) (e : Time) :
    (s.gateClosed w e).window w = { s.window w with counterOpen := false } := by
  rw [State.gateClosed, window_onWindow_self (by rwa [State.reachTime_windows]), window_reachTime]

theorem gateExpiry_measure {s : State} {w k : Nat} {m : Measurement} {e : Time} (hk : s.carouselOf w = some k)
    (hm : (s.window w).measurement = some m) (gate : m.phase = .gate e) (purpose : m.purpose = .measure) :
    s.gateExpiry w = (s.gateClosed w e).gateMeasure k w m := by
  simp only [State.gateExpiry, hm, hk, gate, purpose]
  rfl

theorem gateExpiry_tare {s : State} {w k : Nat} {m : Measurement} {e : Time} (hk : s.carouselOf w = some k)
    (hm : (s.window w).measurement = some m) (gate : m.phase = .gate e) (purpose : m.purpose = .tare) :
    s.gateExpiry w = (s.gateClosed w e).gateTare k w m := by
  simp only [State.gateExpiry, hm, hk, gate, purpose]
  rfl

theorem lasting_finishCount (s : State) (k w c : Nat) : (s.finishCount k w c).lasting = s.lasting := by
  rw [State.finishCount, lasting_testWindows, lasting_endMeasurement_openAt]

/-- The close of the gate of a tare count (R164, R165). -/
theorem gateTare_eq {s : State} {w k : Nat} {m : Measurement} {e : Time} {cal : Calibration} (hw : w < s.windows.length)
    (hc : (s.window w).calibrations[m.position]? = some cal) :
    (s.gateClosed w e).gateTare k w m = State.finishCount k w m.carrier
      (((s.reachTime e).onWindow w fun v =>
        { v with counterOpen := false, calibrations := v.calibrations.set m.position ⟨(s.window w).counter, cal.slope⟩ }).notify
          (.tared w m.position m.carrier (some (s.window w).counter))) := by
  rw [State.gateTare, window_gateClosed hw, State.gateClosed, onWindow_onWindow]
  refine congrArg (fun t : State => State.finishCount k w m.carrier (t.notify _)) (onWindow_congr ?_)
  simp only [window_reachTime, modifyAt, hc]

/-- Settles O51. -/
theorem theCounterAndTheTareCount : Obligations.TheCounterAndTheTareCount := by
  refine ⟨fun s w => ⟨fun open_ => ?counts, fun closed => ?keeps, fun m e hm settling => ?settled⟩,
    fun s w k m e cal hk hm gate purpose hc => ?tare⟩
  case counts => exact congrArg Host.Outcome.next (if_pos open_)
  case keeps => exact congrArg Host.Outcome.next (if_neg (by simp [closed]))
  case settled => exact congrArg Host.Outcome.next (settleExpiry_eq hm settling)
  case tare =>
    intro stored u
    constructor
    · show Host.Outcome.next (s.gateExpiry w).close = _
      rw [gateExpiry_tare hk hm gate purpose, gateTare_eq (window_lt_of_carouselOf hk) hc]
      rfl
    · show (State.refresh _).lasting = _
      rw [lasting_refresh, lasting_finishCount, lasting_notify]
      have opened : stored = ((s.reachTime e).onWindow w fun v => { v with
          calibrations := v.calibrations.set m.position ⟨(s.window w).counter, cal.slope⟩ }).onWindow w fun v =>
            { v with counterOpen := false } := by
        rw [onWindow_onWindow]
      rw [opened]
      exact lasting_onWindow _ _ _ fun _ => rfl

end Sys2Proof.Machine
end

section
/-! The keys and the display of a panel (R116 to R121), and SET_WINDOW and GET_WINDOW (R108, R109, R128, R137). -/

namespace Sys2Proof.Machine

/-! ### The keys (R118, R119) -/

theorem sample_eq (k : KeyState) :
    k.sample true = (if k = .up then .downOnce else .down) ∧ k.sample false = if k = .down then .upOnce else .up := by
  cases k <;> exact ⟨rfl, rfl⟩

theorem pressed_iff (k : KeyState) (down : Bool) : k.pressed down = true ↔ k = .downOnce ∧ down = true := by
  simp [KeyState.pressed]

theorem minus_mem_press (k : Keys) (down : Bool × Bool) (i j : Nat) : Press.minus i ∈ k.press down j ↔
    i = j ∧ k.minus.pressed down.1 = true ∧ ¬k.confirm.pressed down.2 = true := by
  unfold Keys.press
  cases k.minus.pressed down.1 <;> cases k.confirm.pressed down.2 <;> simp

theorem confirm_mem_press (k : Keys) (down : Bool × Bool) (i j : Nat) : Press.confirm i ∈ k.press down j ↔
    i = j ∧ k.confirm.pressed down.2 = true ∧ ¬k.minus.pressed down.1 = true := by
  unfold Keys.press
  cases k.minus.pressed down.1 <;> cases k.confirm.pressed down.2 <;> simp

/-- The presses taken at one sampling of the first `n` groups (R119). -/
def pressesOf (keys : List Keys) (n : Nat) (down : List (Bool × Bool)) : List Press :=
  (keys.take n).zipIdx.flatMap fun q => q.1.press (down.getD q.2 (false, false)) q.2

theorem mem_pressesOf (keys : List Keys) (n : Nat) (down : List (Bool × Bool)) (p : Press) : p ∈ pressesOf keys n down ↔
    ∃ i k, keys[i]? = some k ∧ i < n ∧ p ∈ k.press (down.getD i (false, false)) i := by
  simp only [pressesOf, List.mem_flatMap, Prod.exists, List.mem_zipIdx_iff_getElem?, List.getElem?_take]
  constructor
  · rintro ⟨k, i, hk, hp⟩
    split at hk
    · next hi => exact ⟨i, k, hk, hi, hp⟩
    · cases hk
  · rintro ⟨i, k, hk, hi, hp⟩
    exact ⟨k, i, by rw [if_pos hi, hk], hp⟩

theorem minus_mem_pressesOf (keys : List Keys) (n : Nat) (down : List (Bool × Bool)) (i : Nat) :
    Press.minus i ∈ pressesOf keys n down ↔ ∃ k, keys[i]? = some k ∧ i < n ∧ k.minus = .downOnce ∧
      (down.getD i (false, false)).1 = true ∧ ¬(k.confirm = .downOnce ∧ (down.getD i (false, false)).2 = true) := by
  rw [mem_pressesOf]
  simp only [minus_mem_press, pressed_iff, and_assoc]
  constructor
  · rintro ⟨j, k, hk, hj, rfl, press⟩
    exact ⟨k, hk, hj, press⟩
  · rintro ⟨k, hk, hi, press⟩
    exact ⟨i, k, hk, hi, rfl, press⟩

theorem confirm_mem_pressesOf (keys : List Keys) (n : Nat) (down : List (Bool × Bool)) (i : Nat) :
    Press.confirm i ∈ pressesOf keys n down ↔ ∃ k, keys[i]? = some k ∧ i < n ∧ k.confirm = .downOnce ∧
      (down.getD i (false, false)).2 = true ∧ ¬(k.minus = .downOnce ∧ (down.getD i (false, false)).1 = true) := by
  rw [mem_pressesOf]
  simp only [confirm_mem_press, pressed_iff, and_assoc]
  constructor
  · rintro ⟨j, k, hk, hj, rfl, press⟩
    exact ⟨k, hk, hj, press⟩
  · rintro ⟨k, hk, hi, press⟩
    exact ⟨i, k, hk, hi, rfl, press⟩

theorem scan_keys {v : Window} {n i : Nat} {k : Keys} (down : List (Bool × Bool)) (hi : i < n) (hk : v.keys[i]? = some k) :
    (v.scan n down).keys[i]? = some ⟨k.minus.sample (down.getD i (false, false)).1, k.confirm.sample (down.getD i (false, false)).2⟩ := by
  simp only [Window.scan, List.getElem?_mapIdx, hk, Option.map_some, if_pos hi]
  rfl

/-- A record with blink is dark in the cycles after lit ones (R118). -/
theorem scan_shown (v : Window) (n : Nat) (down : List (Bool × Bool)) : (v.scan n down).shown = some {
    groups := (v.displays.take n).map fun d => if d.blink = true ∧ v.blinkLit = true then none else some d,
    header := v.header } := by
  have lit : ∀ d : Display, d.lit (!v.blinkLit) = if d.blink = true ∧ v.blinkLit = true then none else some d := fun d => by
    simp [Display.lit]
  simp only [Window.scan, lit]

/-! ### Displays and headers (R116, R117, R120) -/

theorem lower_eq (d : Display) : d.lower = if d.mode = .put ∨ d.mode = .pick then { d with quantity := d.quantity - 1 } else d := by
  unfold Display.lower
  cases d.mode <;> simp

theorem displayOf_pick {s : State} {n : Nat} {p : Pick} {o : Order} (hp : s.pick? n = some p) (ho : s.order? p.order = some o) (q : Nat)
    (rest : List Entry) :
    s.displayOf (.pick n q :: rest) = { mode := .pick, quantity := q, lane := o.lane, blink := o.priority / 16 == 3 } := by
  simp only [State.displayOf, hp, ho]
  rfl

theorem headerCarrier_measured {s : State} {w : Nat} {m : Measurement} (hm : (s.window w).measurement = some m) :
    s.headerCarrier w = some m.carrier := by
  simp only [State.headerCarrier, hm]

theorem headerCarrier_presented {s : State} {w : Nat} {p : Presentation} (hm : (s.window w).measurement = none)
    (hp : (s.window w).presentation = some p) : s.headerCarrier w = some p.carrier := by
  simp only [State.headerCarrier, hm, hp]

section
variable {s : State} {w k pos : Nat} (ha : (s.window w).assigned = some (k, pos))
include ha

theorem standing_of_assigned (r : Carousel) : s.standing r w = (pos + r.p) % r.geometry.n := by
  simp only [State.standing, State.loopPosition, ha]

theorem headerStatus_eq : s.headerStatus w =
    let state := (s.carousel? k).map fun r => r.state
    if s.mode = .config then .blank
    else if (s.window w).measurement ≠ none then .measure
    else if (s.window w).presentation ≠ none then .opened
    else if state = some .fault then .fault
    else if s.mode = .hold ∨ state = some .stopping ∨ state = some .held then .held
    else .blank := by
  simp only [State.headerStatus, ha, Option.isSome_iff_ne_none]

theorem headerCarrier_standing {r : Carousel} (hm : (s.window w).measurement = none) (hp : (s.window w).presentation = none)
    (hr : s.carousel? k = some r) : s.headerCarrier w = if r.known then some ((pos + r.p) % r.geometry.n) else none := by
  simp only [State.headerCarrier, hm, hp, ha, hr, standing_of_assigned ha]

theorem headerCarrier_none (hm : (s.window w).measurement = none) (hp : (s.window w).presentation = none)
    (hr : s.carousel? k = none) : s.headerCarrier w = none := by
  simp only [State.headerCarrier, hm, hp, ha, hr]

end

/-- Settles O42. -/
theorem keysAreDebouncedAndMinusLowers : Obligations.KeysAreDebouncedAndMinusLowers := by
  refine ⟨⟨fun s w down assigned => ?scan, sample_eq⟩, fun s w i d hd => ?minus,
    fun s rest n q => ⟨rfl, rfl, fun x o hp ho => displayOf_pick hp ho q rest⟩,
    fun s w => ⟨fun none => by rw [window_refresh_unassigned s none], fun k pos hw ha => ?header⟩⟩
  case scan =>
    refine ⟨(s.window w).scan (s.positionsAt w) down, congrArg Host.Outcome.next (if_pos assigned), rfl, rfl, scan_shown .., ?_,
      pressesOf (s.window w).keys (s.positionsAt w) down, rfl, ?_⟩
    · exact fun i k hi hk => scan_keys down hi hk
    · exact fun i => ⟨minus_mem_pressesOf .., confirm_mem_pressesOf ..⟩
  case minus =>
    refine congrArg Host.Outcome.next (onWindow_congr ?_)
    simp only [Window.usePress, modifyAt, hd, lower_eq]
  case header =>
    have assigned : (s.window w).assigned.isSome = true := by rw [ha]; rfl
    rw [window_refresh s hw, if_pos assigned]
    refine congrArg₂ Header.mk ?_ (headerStatus_eq ha)
    cases hm : (s.window w).measurement with
    | some m => exact headerCarrier_measured hm
    | none =>
      cases hp : (s.window w).presentation with
      | some p => exact headerCarrier_presented hm hp
      | none =>
        cases hr : s.carousel? k with
        | some r => exact headerCarrier_standing ha hm hp hr
        | none => exact headerCarrier_none ha hm hp hr

/-! ### SET_WINDOW and GET_WINDOW (R108, R109, R128) -/

theorem setWindow_none {s : State} {w pos : Nat} (mode : s.mode = .config) (hw : w ≤ 7) (hp : pos ≤ 47) :
    setWindow w none pos s = .reply (s.onWindow w fun v => v.setTo none none).refresh .ok (.window w none) := by
  simp [setWindow, mode, Nat.not_lt.mpr hw, Nat.not_lt.mpr hp]

theorem setWindow_assigned {s : State} {w k pos : Nat} (mode : s.mode = .config) (hw : w ≤ 7) (hp : pos ≤ 47) (hk : k ≤ 3)
    (room : s.carouselFull k w = false) :
    setWindow w (some k) pos s = .reply (s.assignWindow w (k, pos)).refresh .ok (.window w (some (k, pos))) := by
  simp [setWindow, mode, Nat.not_lt.mpr hw, Nat.not_lt.mpr hp, Nat.not_lt.mpr hk, room]

theorem assignWindow_ranked {s : State} {w r : Nat} (hr : (s.window w).rank = some r) (a : Nat × Nat) :
    s.assignWindow w a = s.onWindow w fun v => v.setTo (some a) (some r) := by
  simp only [State.assignWindow, hr]

theorem assignWindow_new {s : State} {w : Nat} (hr : (s.window w).rank = none) (a : Nat × Nat) :
    s.assignWindow w a = State.onWindow { s with draws := s.draws + 1 } w fun v => v.setTo (some a) (some (s.drawRank w)) := by
  simp only [State.assignWindow, hr]

theorem getWindow_reports {s : State} {w : Nat} {a : Nat × Nat} (hw : w ≤ 7) (ha : (s.window w).assigned = some a) :
    getWindow w s = .reply s .ok (.windowReport (s.windowReport w a)) := by
  simp [getWindow, Nat.not_lt.mpr hw, ha]

theorem getWindow_unassigned {s : State} {w : Nat} (hw : w ≤ 7) (ha : (s.window w).assigned = none) :
    getWindow w s = s.refuse .notFound := by
  simp [getWindow, Nat.not_lt.mpr hw, ha]

theorem positionsAt_assigned {s : State} {w : Nat} {a : Nat × Nat} (ha : (s.window w).assigned = some a) :
    s.positionsAt w = ((s.carousel? a.1).map fun c => c.geometry.s).getD 0 := by
  simp only [State.positionsAt, State.carouselOf, ha, Option.map_some, Option.bind_some]
  cases s.carousel? a.1 <;> rfl

/-- Settles O41. -/
theorem setWindowAssignsAndGetWindowReports : Obligations.SetWindowAssignsAndGetWindowReports := by
  intro s tag w free ht hw
  refine ⟨fun pos mode hp => ⟨?none, fun k hk room => ?assigned⟩, fun a ha => ?reports, fun ha => ?unassigned⟩
  case none =>
    rw [exec_lineFree (kind := 0x19) (tag := tag) rfl free ht]
    simp only [ownerOf]
    rw [setWindow_none (s := s.take 0x19 tag) mode hw hp]
    rfl
  case assigned =>
    have full : (s.take 0x19 tag).carouselFull k w = false := decide_eq_false (Nat.not_le.mpr room)
    have answer := setWindow_assigned (s := s.take 0x19 tag) mode hw hp hk full
    refine ⟨fun r hr => ?_, fun hr => ⟨s.drawRank w, (drawRank_spec s (by omega)).1, (drawRank_spec s (by omega)).2, ?_⟩⟩
    · rw [exec_lineFree (kind := 0x19) (tag := tag) rfl free ht]
      simp only [ownerOf]
      rw [answer, assignWindow_ranked (s := s.take 0x19 tag) hr]
      rfl
    · rw [exec_lineFree (kind := 0x19) (tag := tag) rfl free ht]
      simp only [ownerOf]
      rw [answer, assignWindow_new (s := s.take 0x19 tag) hr]
      rfl
  case reports =>
    rw [exec_lineFree (kind := 0x3A) (tag := tag) rfl free ht]
    simp only [ownerOf]
    rw [getWindow_reports (s := s.take 0x3A tag) hw ha, State.windowReport,
      positionsAt_assigned (s := s.take 0x3A tag) ha]
    cases hc : s.carousel? a.1 <;> simp only [State.carousel?, State.take_carousels] at hc ⊢ <;> simp only [hc] <;> rfl
  case unassigned =>
    rw [exec_lineFree (kind := 0x3A) (tag := tag) rfl free ht]
    simp only [ownerOf]
    rw [getWindow_unassigned (s := s.take 0x3A tag) hw ha, refuse_take_outcome]

end Sys2Proof.Machine
end

section
/-! START and STOP, HOLD and RESUME (R97, R99, R106, R193 to R195). -/

namespace Sys2Proof.Machine

/-! ### Operations that go through the carousels -/

/-- What the motion controller of a carousel sees and writes: its record, its link, the mode and the time. -/
def State.unit (k : Nat) (s : State) : Option Carousel × Link × Mode × Time := (s.carousel? k, s.link k, s.mode, s.now)

/-- An operation on one carousel, repeated over the carousels, does to each what it does to it alone, if it leaves the others and
sees only its own. -/
theorem foldl_unit {f : State → Nat → State} (other : ∀ s j k, j ≠ k → (f s j).unit k = s.unit k)
    (own : ∀ s t k, s.unit k = t.unit k → (f s k).unit k = (f t k).unit k) {n k : Nat} (hk : k < n) (s : State) :
    ((List.range n).foldl f s).unit k = (f s k).unit k := by
  have before : ∀ m, m ≤ k → ((List.range m).foldl f s).unit k = s.unit k := fun m => by
    induction m with
    | zero => exact fun _ => rfl
    | succ m ih =>
      intro hm
      rw [List.range_succ, List.foldl_append, List.foldl_cons, List.foldl_nil, other _ _ _ (by omega), ih (by omega)]
  induction n with
  | zero => omega
  | succ n ih =>
    rw [List.range_succ, List.foldl_append, List.foldl_cons, List.foldl_nil]
    rcases Nat.lt_succ_iff_lt_or_eq.mp hk with later | rfl
    · rw [other _ _ _ (by omega), ih later]
    · exact own _ _ _ (before k (le_refl k))

theorem unit_onCarousel (s : State) (j k : Nat) (f : Carousel → Carousel) :
    (s.onCarousel j f).unit k = (if k = j then (s.carousel? k).map f else s.carousel? k, s.link k, s.mode, s.now) := by
  have rest : (s.onCarousel j f).link k = s.link k ∧ (s.onCarousel j f).mode = s.mode ∧ (s.onCarousel j f).now = s.now := by
    unfold State.onCarousel
    split <;> exact ⟨rfl, rfl, rfl⟩
  simp only [State.unit, carousel?_onCarousel, rest.1, rest.2.1, rest.2.2]
  split
  · next e => rw [e]
  · rfl

/-- A change of a link that leaves one DOWN and empty as it is, is seen also where no link is. -/
theorem link_onLink_of (s : State) (st : Nat) {f : Link → Link} (h : f (Link.afterReset false) = Link.afterReset false) (k : Nat) :
    (s.onLink st f).link k = if k = st then f (s.link k) else s.link k := by
  split
  · next e =>
    subst e
    by_cases hl : k < s.links.length
    · exact link_onLink hl f
    · have absent : s.link k = Link.afterReset false := by
        simp [State.link, List.getD_eq_getElem?_getD, List.getElem?_eq_none (Nat.not_lt.mp hl)]
      have none : (s.onLink k f).link k = s.link k := by
        rw [State.onLink, List.set_eq_of_length_le (Nat.not_lt.mp hl)]
      rw [none, absent, h]
  · next e => exact link_onLink_other s e f

theorem link_handOver (s : State) (st : Nat) (c : Command) (k : Nat) :
    (s.handOver st c).link k = if k = st then (s.link k).handOver s.now c else s.link k := link_onLink_of s st rfl k

theorem link_abandonQuery (s : State) (st k : Nat) :
    (s.onLink st Link.abandonQuery).link k = if k = st then (s.link k).abandonQuery else s.link k := link_onLink_of s st rfl k

/-- A link that is not LOCKED discards what is handed over (R170). -/
theorem handOver_unlocked {l : Link} (h : l.state ≠ .locked) (now : Time) (c : Command) : l.handOver now c = l := if_neg h

/-- States alike in all but carousels, with carousels that last alike, last alike. -/
theorem lasting_of_carousels {s t : State}
    (rest : ({ t.lasting with carousels := [] } : State) = { s.lasting with carousels := [] })
    (length : t.carousels.length = s.carousels.length)
    (each : ∀ k, k < s.carousels.length → (t.carousel? k).map Carousel.lasting = (s.carousel? k).map Carousel.lasting) :
    t.lasting = s.lasting := by
  have carousels : t.lasting.carousels = s.lasting.carousels := by
    refine List.ext_getElem (by simp [State.lasting, length]) fun k hk hk' => ?_
    have hs : k < s.carousels.length := by simpa [State.lasting] using hk'
    have ht : k < t.carousels.length := by omega
    have h := each k hs
    simpa [State.carousel?, State.lasting, hs, ht] using h
  calc t.lasting = { ({ t.lasting with carousels := [] } : State) with carousels := t.lasting.carousels } := rfl
    _ = { ({ s.lasting with carousels := [] } : State) with carousels := s.lasting.carousels } := by rw [rest, carousels]
    _ = s.lasting := rfl

/-! ### START (R193, R106, R108, R135) -/

theorem mem_windowsOf {s : State} {k w : Nat} : w ∈ s.windowsOf k ↔ w < 8 ∧ s.carouselOf w = some k := by
  simp only [State.windowsOf, List.mem_filter, List.mem_range, State.carouselOf]
  cases (s.window w).assigned <;> simp

theorem windowCheck_none {s : State} (ready : s.readyToStart) {w : Nat} (hw : w < 8) : s.windowCheck w = none := by
  obtain ⟨-, places, apart, -, -⟩ := ready
  cases ha : (s.window w).assigned with
  | none => simp [State.windowCheck, State.carouselOf, ha]
  | some a =>
    obtain ⟨k, pos⟩ := a
    obtain ⟨c, hc, hpos⟩ := places w k pos hw ha
    have alone : ((s.windowsOf k).any fun v => decide (v < w) && s.loopPosition v == s.loopPosition w) = false := by
      rw [List.any_eq_false]
      intro v hv same
      obtain ⟨hv8, hk⟩ := mem_windowsOf.mp hv
      simp only [Bool.and_eq_true, decide_eq_true_eq, beq_iff_eq, State.loopPosition, ha] at same
      obtain ⟨⟨k', pos'⟩, hb, rfl⟩ := Option.map_eq_some_iff.mp hk
      simp only [hb] at same
      exact apart w v _ hw hv8 (by omega) ha (same.2 ▸ hb)
    have below : ¬c.geometry.n ≤ s.loopPosition w := by simpa [State.loopPosition, ha] using hpos
    simp [State.windowCheck, State.carouselOf, ha, hc, below, alone]

theorem startCheck_none {s : State} (ready : s.readyToStart) : s.startCheck = none := by
  have carousels : (s.configuredCarousels.find? fun k => (s.windowsOf k).isEmpty) = none := by
    refine List.find?_eq_none.mpr fun k hk => ?_
    obtain ⟨c, hc⟩ := Option.isSome_iff_exists.mp (List.mem_filter.mp hk).2
    obtain ⟨w, hw, at_⟩ := ready.1 k c hc
    simpa using List.ne_nil_of_mem (mem_windowsOf.mpr ⟨hw, at_⟩)
  have windows : s.configuredWindows.findSome? s.windowCheck = none :=
    List.findSome?_eq_none_iff.mpr fun w hw => windowCheck_none ready (mem_configuredWindows.mp hw).1
  obtain ⟨-, -, -, ⟨w, hw, assigned⟩, l, hl⟩ := ready
  have window : s.configuredWindows.isEmpty = false := by
    simpa using List.ne_nil_of_mem (mem_configuredWindows.mpr ⟨hw, assigned⟩)
  have lane : s.lanes.all Option.isNone = false := by
    rw [List.all_eq_false]
    exact ⟨some l, hl, by simp⟩
  simp only [State.startCheck, carousels, windows, window, lane, Bool.false_eq_true, if_false]

/-- What START does to one carousel (R106). -/
def State.startCarousel (s : State) (k : Nat) : State := (s.onCarousel k Carousel.atStart).learnPosition k

/-- What learning its position makes of a carousel and its link (R102, R106). -/
def learned (u : Option Carousel × Link × Mode × Time) : Option Carousel × Link × Mode × Time :=
  match u with
  | (some r, l, mode, now) =>
    if mode ≠ .config ∧ r.state = .offline ∧ r.query = none ∧ l.state = .locked then
      (some { r with query := some (if r.known then .return else .start) }, l.handOver now (.position true), mode, now)
    else u
  | _ => u

theorem unit_sendPosition (s : State) (j : Nat) (p : Purpose) (k : Nat) : (s.sendPosition j p).unit k =
    if k = j then ((s.carousel? k).map fun r => { r with query := some p }, (s.link k).handOver s.now (.position true), s.mode, s.now)
    else s.unit k := by
  have set := unit_onCarousel s j k fun r => { r with query := some p }
  simp only [State.unit, Prod.mk.injEq] at set
  obtain ⟨carousel, link, mode, now⟩ := set
  have handed := link_handOver (s.onCarousel j fun r => { r with query := some p }) j (.position true) k
  simp only [State.sendPosition, State.unit]
  rw [handed, link, now]
  show (State.carousel? (s.onCarousel j _) k, _, (s.onCarousel j _).mode, (s.onCarousel j _).now) = _
  rw [carousel, mode, now]
  split <;> rfl

theorem unit_learnPosition (s : State) (j k : Nat) :
    (s.learnPosition j).unit k = if k = j then learned (s.unit k) else s.unit k := by
  unfold State.learnPosition
  by_cases e : k = j
  · subst e
    rw [if_pos rfl]
    cases hc : s.carousel? k with
    | none => simp only [State.unit, hc, learned]
    | some r =>
      simp only [State.unit, hc, learned]
      by_cases ready : s.mode ≠ .config ∧ r.state = .offline ∧ r.query = none ∧ s.locked k = true
      · have locked : s.mode ≠ .config ∧ r.state = .offline ∧ r.query = none ∧ (s.link k).state = .locked := by
          simpa [State.locked] using ready
        have sent := unit_sendPosition s k (if r.known = true then .return else .start) k
        rw [if_pos rfl, hc, State.unit] at sent
        rw [if_pos ready, if_pos locked]
        exact sent
      · have idle : ¬(s.mode ≠ .config ∧ r.state = .offline ∧ r.query = none ∧ (s.link k).state = .locked) := by
          simpa [State.locked] using ready
        rw [if_neg ready, if_neg idle, hc]
  · rw [if_neg e]
    split
    · split
      · rw [unit_sendPosition, if_neg e]
      · rfl
    · rfl

theorem unit_startCarousel (s : State) (j k : Nat) : (s.startCarousel j).unit k =
    if k = j then learned ((s.carousel? k).map Carousel.atStart, s.link k, s.mode, s.now) else s.unit k := by
  rw [State.startCarousel, unit_learnPosition, unit_onCarousel]
  split <;> rfl

theorem unit_of {s : State} {k : Nat} {r : Option Carousel × Link × Mode × Time} (h : s.unit k = r) :
    s.carousel? k = r.1 ∧ s.link k = r.2.1 ∧ s.mode = r.2.2.1 := by
  subst h
  exact ⟨rfl, rfl, rfl⟩

/-- What a change of its own does to each carousel, a run through the carousels does. -/
theorem unit_foldl {f : State → Nat → State} {g : Option Carousel × Link × Mode × Time → Option Carousel × Link × Mode × Time}
    (h : ∀ s j k, (f s j).unit k = if k = j then g (s.unit k) else s.unit k) {n k : Nat} (hk : k < n) (s : State) :
    ((List.range n).foldl f s).unit k = g (s.unit k) := by
  rw [foldl_unit (fun s j k hne => by rw [h, if_neg hne.symm]) (fun s t k e => by rw [h, h, if_pos rfl, if_pos rfl, e]) hk, h,
    if_pos rfl]

/-- Running through the carousels leaves what each change of one leaves. -/
theorem lasting_carousels_foldl {f : State → Nat → State}
    (h : ∀ s k, ({ (f s k).lasting with carousels := [] } : State) = { s.lasting with carousels := [] }) (n : Nat) (s : State) :
    ({ ((List.range n).foldl f s).lasting with carousels := [] } : State) = { s.lasting with carousels := [] } :=
  foldl_view (view := fun t : State => ({ t.lasting with carousels := [] } : State)) h _ s

theorem lasting_onCarousel_rest (s : State) (k : Nat) (f : Carousel → Carousel) :
    ({ (s.onCarousel k f).lasting with carousels := [] } : State) = { s.lasting with carousels := [] } := by
  unfold State.onCarousel
  split <;> rfl

theorem mode_lasting (s : State) : s.lasting.mode = s.mode := rfl

theorem window_of_windows {s t : State} (h : t.windows = s.windows) (w : Nat) : t.window w = s.window w := by
  rw [State.window, h, State.window]

/-- The part in RUN mode with its panels set for work, before its carousels learn their positions (R193). -/
def State.startPanels (s : State) : State :=
  { s with mode := .run, merge := { s.merge with state := .running }, windows := s.windows.mapIdx Window.atStart }

theorem start_eq (s : State) : s.start = (List.range 4).foldl State.startCarousel s.startPanels := rfl

theorem learnPosition_windows (s : State) (k : Nat) : (s.learnPosition k).windows = s.windows := by
  unfold State.learnPosition
  split
  · split
    · exact State.onCarousel_windows ..
    · rfl
  · rfl

theorem startCarousel_windows (s : State) (k : Nat) : (s.startCarousel k).windows = s.windows := by
  rw [State.startCarousel, learnPosition_windows, State.onCarousel_windows]

theorem carousels_length_of_lasting {s t : State} (h : t.lasting = s.lasting) : t.carousels.length = s.carousels.length := by
  have carousels := congrArg (fun u : State => u.carousels.length) h
  simpa [State.lasting] using carousels

theorem onCarousel_carousels_length (s : State) (k : Nat) (f : Carousel → Carousel) :
    (s.onCarousel k f).carousels.length = s.carousels.length := by
  unfold State.onCarousel
  split
  · exact List.length_set
  · rfl

theorem startCarousel_carousels_length (s : State) (k : Nat) : (s.startCarousel k).carousels.length = s.carousels.length := by
  rw [State.startCarousel, carousels_length_of_lasting (lasting_learnPosition ..), onCarousel_carousels_length]

theorem window_start (s : State) (w : Nat) : s.start.window w = (s.window w).atStart w := by
  rw [start_eq, window_of_windows (foldl_view (view := State.windows) startCarousel_windows _ _)]
  exact window_mapIdx s Window.atStart (fun _ => rfl) w

/-- A carousel after START (R106). -/
def Carousel.started (c : Carousel) (locked : Bool) : Carousel :=
  { c.atStart with query := if c.query = none ∧ locked = true then some .start else c.query }

theorem unit_start {s : State} {k : Nat} (hk : k < 4) :
    s.start.unit k = learned ((s.carousel? k).map Carousel.atStart, s.link k, .run, s.now) :=
  unit_foldl (g := fun u => learned (u.1.map Carousel.atStart, u.2)) unit_startCarousel hk s.startPanels

theorem carousel?_start_none {s : State} {k : Nat} (hk : k < 4) (hc : s.carousel? k = none) : s.start.carousel? k = none := by
  have run := unit_start (s := s) hk
  rw [hc] at run
  exact (unit_of run).1

theorem carousel?_start {s : State} {k : Nat} {c : Carousel} (hk : k < 4) (hc : s.carousel? k = some c) :
    s.start.carousel? k = some (c.started (s.locked k)) ∧
      s.start.link k = if c.query = none then (s.link k).handOver s.now (.position true) else s.link k := by
  have run := unit_start (s := s) hk
  rw [hc] at run
  obtain ⟨carousel, link, -⟩ := unit_of run
  rw [carousel, link]
  simp only [Option.map_some, learned, Carousel.atStart]
  by_cases asks : c.query = none ∧ (s.link k).state = .locked
  · have locked : s.locked k = true := by simpa [State.locked] using asks.2
    simp [Carousel.started, Carousel.atStart, asks.1, asks.2, locked]
  · by_cases query : c.query = none
    · have unlocked : (s.link k).state ≠ .locked := fun l => asks ⟨query, l⟩
      have closed : s.locked k = false := by simpa [State.locked] using unlocked
      simp [Carousel.started, Carousel.atStart, query, unlocked, closed, handOver_unlocked unlocked]
    · simp [Carousel.started, Carousel.atStart, query]

theorem carousel?_known (s : State) (k : Nat) :
    State.carousel? { s with carousels := s.carousels.map fun c => c.map fun c => { c with known := false } } k =
      (s.carousel? k).map fun c => { c with known := false } := by
  simp only [State.carousel?, List.getD_eq_getElem?_getD, List.getElem?_map]
  cases s.carousels[k]? <;> rfl

@[simp] theorem State.take_window (s : State) (kind tag w : Nat) : (s.take kind tag).window w = s.window w := rfl

theorem start_taken {s : State} (mode : s.mode = .config) (ready : s.readyToStart) :
    start s = .reply s.start.refresh .ok .none := by
  simp [start, mode, startCheck_none ready]

/-- The carousels after START as they last: their positions are not known (R106). -/
theorem lasting_start {s : State} (shaped : s.shaped) : s.start.lasting =
    ({ s with
      mode := .run, merge := { s.merge with state := .running },
      carousels := s.carousels.map fun c => c.map fun c => { c with known := false },
      windows := s.windows.mapIdx fun w v =>
        if v.assigned.isSome then
          { v with rank := some w, keys := List.replicate 6 { minus := .up, confirm := .up }, presses := [] }
        else v } : State).lasting := by
  obtain ⟨carousels, -, -, -⟩ := shaped
  have length : s.start.carousels.length = s.carousels.length :=
    foldl_view (view := fun t : State => t.carousels.length) startCarousel_carousels_length _ s.startPanels
  have panels : (s.windows.mapIdx Window.atStart).map Window.lasting = (s.windows.mapIdx fun w v =>
      if v.assigned.isSome then
        { v with rank := some w, keys := List.replicate 6 { minus := .up, confirm := .up }, presses := [] }
      else v).map Window.lasting := by
    refine List.ext_getElem? fun w => ?_
    simp only [List.getElem?_map, List.getElem?_mapIdx, Option.map_map]
    refine congrArg (Option.map · s.windows[w]?) (funext fun v => ?_)
    simp only [Function.comp_apply, Window.atStart]
    split <;> rfl
  refine lasting_of_carousels ?rest (by simpa using length) fun k hk => ?each
  case rest =>
    rw [start_eq, lasting_carousels_foldl fun t k => by
      rw [State.startCarousel, lasting_learnPosition, lasting_onCarousel_rest]]
    exact congrArg (fun ws => ({ s.startPanels.lasting with carousels := [], windows := ws } : State)) panels
  case each =>
    have configured : k < 4 := by simpa [carousels] using hk
    refine Eq.trans ?_ (congrArg (Option.map Carousel.lasting) (carousel?_known s k)).symm
    cases hc : s.carousel? k with
    | none => rw [carousel?_start_none configured hc]; rfl
    | some c =>
      rw [(carousel?_start configured hc).1]
      rfl

/-- Where nothing is presented or counted and no position is known, a header has no carrier number (R117). -/
theorem headerCarrier_unknown {s : State} {w : Nat} (hp : (s.window w).presentation = none) (hm : (s.window w).measurement = none)
    (unknown : ∀ k c, s.carousel? k = some c → c.known = false) : s.headerCarrier w = none := by
  cases ha : (s.window w).assigned with
  | none => simp only [State.headerCarrier, hp, hm, ha]
  | some a =>
    obtain ⟨k, pos⟩ := a
    cases hc : s.carousel? k with
    | none => exact headerCarrier_none ha hm hp hc
    | some c => rw [headerCarrier_standing ha hm hp hc, unknown k c hc]; rfl

theorem carousel?_lt_four {s : State} (shaped : s.shaped) {k : Nat} {c : Carousel} (hc : s.carousel? k = some c) : k < 4 :=
  shaped.1 ▸ carousel?_lt hc

theorem start_unconfigured {s : State} (shaped : s.shaped) {k : Nat} {d : Carousel} (hd : s.start.carousel? k = some d) :
    ∃ c, s.carousel? k = some c ∧ d = c.started (s.locked k) := by
  have hk : k < 4 := by
    have lasts := carousels_length_of_lasting (lasting_start shaped)
    have place := carousel?_lt hd
    rw [lasts, List.length_map, shaped.1] at place
    exact place
  cases hc : s.carousel? k with
  | none => rw [carousel?_start_none hk hc] at hd; cases hd
  | some c =>
    rw [(carousel?_start hk hc).1] at hd
    exact ⟨c, rfl, (Option.some.inj hd).symm⟩

/-- The header of a panel after START (R117): with nothing presented or counted it is BLANK, without carrier number. -/
theorem headerOf_start {s : State} (shaped : s.shaped) {w : Nat} (hp : (s.window w).presentation = none)
    (hm : (s.window w).measurement = none) : s.start.headerOf w = { carrier := none, status := .blank } := by
  have window := window_start s w
  have kept : ((s.window w).atStart w).presentation = (s.window w).presentation ∧
      ((s.window w).atStart w).measurement = (s.window w).measurement := by
    unfold Window.atStart
    split <;> exact ⟨rfl, rfl⟩
  have hp' : (s.start.window w).presentation = none := by rw [window, kept.1, hp]
  have hm' : (s.start.window w).measurement = none := by rw [window, kept.2, hm]
  have mode : s.start.mode = .run := by
    rw [← mode_lasting s.start, lasting_start shaped]
    rfl
  have offline : ∀ k st, st ≠ .offline → (s.start.carousel? k).map (fun r => r.state) ≠ some st := fun k st hst h => by
    obtain ⟨d, hd, rfl⟩ := Option.map_eq_some_iff.mp h
    obtain ⟨c, -, rfl⟩ := start_unconfigured shaped hd
    exact hst rfl
  have status : s.start.headerStatus w = .blank := by
    cases ha : (s.start.window w).assigned with
    | none => simp [State.headerStatus, ha, hm', hp', mode]
    | some a =>
      obtain ⟨k, pos⟩ := a
      rw [headerStatus_eq ha]
      have free := offline k .fault (by decide)
      have moving := offline k .stopping (by decide)
      have held := offline k .held (by decide)
      simp [mode, hm', hp', free, moving, held]
  have carrier := headerCarrier_unknown hp' hm' fun k d hd => by
    obtain ⟨c, -, rfl⟩ := start_unconfigured shaped hd
    rfl
  rw [State.headerOf, status, carrier]

/-! ### STOP (R194, R106) -/

/-- A carousel after STOP (R106). -/
def Carousel.stopped (c : Carousel) : Carousel := { c with state := .offline, resume := some .idle, known := false, query := none }

/-- What STOP does to one carousel (R106). -/
def State.stopCarousel (s : State) (k : Nat) : State :=
  match s.carousel? k with
  | some _ => (s.abandonQuery k).onCarousel k fun r => { r with state := .offline, resume := some .idle, known := false }
  | none => s

theorem stop_eq (s : State) : s.stop = (List.range 4).foldl State.stopCarousel { s with mode := .config } := rfl

/-- What STOP makes of a carousel and its link (R106). -/
def unitStopped (u : Option Carousel × Link × Mode × Time) : Option Carousel × Link × Mode × Time :=
  match u with
  | (some r, l, rest) => (some r.stopped, l.abandonQuery, rest)
  | _ => u

theorem stopCarousel_configured {s : State} {k : Nat} {c : Carousel} (hc : s.carousel? k = some c) :
    s.stopCarousel k = (s.setCarousel k c.stopped).onLink k Link.abandonQuery := by
  have queried : (s.abandonQuery k) = (s.setCarousel k { c with query := none }).onLink k Link.abandonQuery := by
    rw [State.abandonQuery, State.onCarousel_eq hc]
  have read : (s.abandonQuery k).carousel? k = some { c with query := none } := by
    rw [queried]
    exact carousel?_set hc _
  simp only [State.stopCarousel, hc]
  rw [State.onCarousel_eq read, queried]
  exact congrArg (fun t : State => t.onLink k Link.abandonQuery)
    (State.setCarousel_setCarousel s k { c with query := none } c.stopped)

theorem stopCarousel_none {s : State} {k : Nat} (hc : s.carousel? k = none) : s.stopCarousel k = s := by
  simp only [State.stopCarousel, hc]

theorem unit_stopCarousel (s : State) (j k : Nat) :
    (s.stopCarousel j).unit k = if k = j then unitStopped (s.unit k) else s.unit k := by
  cases hc : s.carousel? j with
  | none =>
    rw [stopCarousel_none hc]
    split
    · next e => subst e; simp only [State.unit, hc, unitStopped]
    · rfl
  | some c =>
    rw [stopCarousel_configured hc]
    have link := link_abandonQuery (s.setCarousel j c.stopped) j k
    have carousel : ((s.setCarousel j c.stopped).onLink j Link.abandonQuery).carousel? k =
        if k = j then some c.stopped else s.carousel? k := by
      split
      · next e => exact e ▸ carousel?_set hc _
      · next e => exact carousel?_setCarousel_other s e _
    simp only [State.unit, link, carousel]
    split
    · next e => subst e; rw [hc]; rfl
    · rfl

theorem unit_stop {s : State} {k : Nat} (hk : k < 4) : s.stop.unit k = unitStopped (s.carousel? k, s.link k, .config, s.now) :=
  unit_foldl unit_stopCarousel hk _

theorem carousel?_stop {s : State} {k : Nat} (hk : k < 4) : s.stop.carousel? k = (s.carousel? k).map Carousel.stopped := by
  have run := unit_stop (s := s) hk
  cases hc : s.carousel? k <;> rw [hc] at run <;> exact (unit_of run).1

theorem stopCarousel_rest (s : State) (k : Nat) :
    (s.stopCarousel k).windows = s.windows ∧ (s.stopCarousel k).carousels.length = s.carousels.length ∧
      ({ (s.stopCarousel k).lasting with carousels := [] } : State) = { s.lasting with carousels := [] } := by
  cases hc : s.carousel? k with
  | none => rw [stopCarousel_none hc]; exact ⟨rfl, rfl, rfl⟩
  | some c =>
    rw [stopCarousel_configured hc]
    have lasts := lasting_onLink (s.setCarousel k c.stopped) k Link.abandonQuery fun _ => rfl
    exact ⟨rfl, List.length_set, (congrArg (fun t : State => ({ t with carousels := [] } : State)) lasts).trans rfl⟩

theorem stop_windows (s : State) : s.stop.windows = s.windows :=
  foldl_view (view := State.windows) (fun t k => (stopCarousel_rest t k).1) _ _

theorem lasting_stop {s : State} (shaped : s.shaped) : s.stop.lasting = ({ s with
    mode := .config, carousels := s.carousels.map fun c => c.map fun c => { c with known := false } } : State).lasting := by
  have length : s.stop.carousels.length = s.carousels.length :=
    foldl_view (view := fun t : State => t.carousels.length) (fun t k => (stopCarousel_rest t k).2.1) _ _
  refine lasting_of_carousels ?rest (by simpa using length) fun k hk => ?each
  case rest => exact lasting_carousels_foldl (fun t k => (stopCarousel_rest t k).2.2) 4 _
  case each =>
    rw [carousel?_stop (by simpa [shaped.1] using hk)]
    refine Eq.trans ?_ (congrArg (Option.map Carousel.lasting) (carousel?_known s k)).symm
    cases s.carousel? k <;> rfl

/-- The header of a panel after STOP (R117). -/
theorem headerOf_stop {s : State} (shaped : s.shaped) (w : Nat) : (s.stop.headerOf w).status = .blank ∧
    ((s.window w).presentation = none → (s.window w).measurement = none →
      s.stop.headerOf w = { carrier := none, status := .blank }) := by
  have mode : s.stop.mode = .config := by
    rw [← mode_lasting s.stop, lasting_stop shaped]
    rfl
  have status : s.stop.headerStatus w = .blank := by simp only [State.headerStatus, mode, if_true]
  have window := window_of_windows (stop_windows s) w
  refine ⟨status, fun hp hm => ?_⟩
  have carrier : s.stop.headerCarrier w = none := headerCarrier_unknown (window ▸ hp) (window ▸ hm) fun k d hd => by
    have hk : k < 4 := by
      have place := carousel?_lt hd
      rwa [carousels_length_of_lasting (lasting_stop shaped), List.length_map, shaped.1] at place
    rw [carousel?_stop hk] at hd
    obtain ⟨c, -, rfl⟩ := Option.map_eq_some_iff.mp hd
    rfl
  rw [State.headerOf, status, carrier]

theorem stopRefusal_none {s : State} (orders : s.orders = []) (tasks : s.tasks = [])
    (still : ∀ k c, s.carousel? k = some c → c.state = .idle ∨ c.state = .offline) : s.stopRefusal = none := by
  have busy : s.busyCarousels = [] := by
    refine List.filter_eq_nil_iff.mpr fun k hk => ?_
    obtain ⟨c, hc⟩ := Option.isSome_iff_exists.mp (List.mem_filter.mp hk).2
    rcases still k c hc with h | h <;> simp [State.carouselState, hc, h]
  simp [State.stopRefusal, orders, tasks, busy]

theorem stop_taken {s : State} (mode : s.mode ≠ .config) (none : s.stopRefusal = none) :
    stop s = .reply s.stop.refresh .ok .none := by
  simp [stop, mode, none]

/-! ### The statement on START and STOP -/

/-- Settles O14. -/
theorem startAndStopChangeTheMode : Obligations.StartAndStopChangeTheMode := by
  refine ⟨fun s tag free ht shaped mode ready => ?start, fun s tag free ht shaped mode orders tasks still => ?stop⟩
  case start =>
    refine ⟨(s.take 0x03 tag).start.refresh, ?_, fun k c hc => ?_, fun w hw assigned => ?_, ?_⟩
    · rw [exec_lineFree (kind := 0x03) (tag := tag) rfl free ht]
      simp only [ownerOf]
      rw [start_taken (s := s.take 0x03 tag) mode ready]
      rfl
    · obtain ⟨carousel, link⟩ := carousel?_start (s := s.take 0x03 tag) (carousel?_lt_four shaped hc) hc
      obtain ⟨work, next, shown⟩ := carousel?_refresh carousel
      exact ⟨_, shown, rfl, rfl, rfl, rfl, (link_refresh ..).trans link⟩
    · have at_ : ((s.window w).atStart w).assigned.isSome = true ∧
          ((s.window w).atStart w).displays = List.replicate 6 Display.blank := by
        rw [Window.atStart, if_pos assigned]
        exact ⟨assigned, rfl⟩
      rw [window_refresh _ hw, window_start, State.take_window, if_pos at_.1]
      exact ⟨at_.2, fun hp hm => headerOf_start (s := s.take 0x03 tag) shaped hp hm⟩
    · rw [lasting_refresh, lasting_start (s := s.take 0x03 tag) shaped]
      rfl
  case stop =>
    refine ⟨(s.take 0x04 tag).stop.refresh, ?_, fun k c hc => ?_, fun w hw assigned => ?_, ?_⟩
    · rw [exec_lineFree (kind := 0x04) (tag := tag) rfl free ht]
      simp only [ownerOf]
      rw [stop_taken (s := s.take 0x04 tag) mode (stopRefusal_none orders tasks still)]
      rfl
    · have carousel : (s.take 0x04 tag).stop.carousel? k = some c.stopped := by
        rw [carousel?_stop (carousel?_lt_four shaped hc)]
        exact congrArg (Option.map Carousel.stopped) hc
      obtain ⟨work, next, shown⟩ := carousel?_refresh carousel
      exact ⟨_, shown, rfl, rfl, rfl⟩
    · have window := window_of_windows (stop_windows (s.take 0x04 tag)) w
      rw [State.take_window] at window
      rw [window_refresh _ hw, window, if_pos assigned]
      exact headerOf_stop (s := s.take 0x04 tag) shaped w
    · rw [lasting_refresh, lasting_stop (s := s.take 0x04 tag) shaped]
      rfl

end Sys2Proof.Machine
end

section
/-! HOLD and RESUME, and the act of an IDLE carousel on its next target (R84, R87, R88, R97, R99, R195). -/

namespace Sys2Proof.Machine

/-! ### HOLD (R97, R195) -/

/-- A carousel that HOLD stops (R97). -/
def Carousel.stopping (now : Time) (c : Carousel) : Carousel :=
  { c with state := .stopping, restart := none,
           move := c.move.map fun m => { m with deadline := some (now + ms (2 * c.stepTime + 2000)) } }

/-- What HOLD makes of a carousel and its link (R97). -/
def unitHeld (u : Option Carousel × Link × Mode × Time) : Option Carousel × Link × Mode × Time :=
  match u with
  | (some c, l, mode, now) =>
    if c.state = .moving ∨ c.state = .suspended then (some (c.stopping now), l.handOver now .halt, mode, now) else u
  | _ => u

theorem holdCarousel_stops {s : State} {k : Nat} {c : Carousel} (hc : s.carousel? k = some c)
    (h : c.state = .moving ∨ c.state = .suspended) : s.holdCarousel k = s.beginStop k := by
  rcases h with h | h <;> simp [State.holdCarousel, State.carouselState, hc, h]

theorem holdCarousel_none {s : State} {k : Nat} (h : s.carousel? k = none) : s.holdCarousel k = s := by
  simp [State.holdCarousel, State.carouselState, h]

theorem holdCarousel_keeps {s : State} {k : Nat} {c : Carousel} (hc : s.carousel? k = some c)
    (h : ¬(c.state = .moving ∨ c.state = .suspended)) : s.holdCarousel k = s := by
  unfold State.holdCarousel State.carouselState
  rw [hc]
  cases hs : c.state <;> simp_all

theorem unit_beginStop {s : State} {j : Nat} {c : Carousel} (hc : s.carousel? j = some c) (k : Nat) :
    (s.beginStop j).unit k = if k = j then (some (c.stopping s.now), (s.link k).handOver s.now .halt, s.mode, s.now) else s.unit k := by
  have set : s.beginStop j = (s.setCarousel j (c.stopping s.now)).handOver j .halt := by
    rw [State.beginStop, State.onCarousel_eq hc]
    rfl
  have link := link_handOver (s.setCarousel j (c.stopping s.now)) j .halt k
  have carousel : ((s.setCarousel j (c.stopping s.now)).handOver j .halt).carousel? k =
      if k = j then some (c.stopping s.now) else s.carousel? k := by
    split
    · next e => exact e ▸ carousel?_set hc _
    · next e => exact carousel?_setCarousel_other s e _
  simp only [set, State.unit, link, carousel]
  split <;> rfl

theorem unit_holdCarousel (s : State) (j k : Nat) :
    (s.holdCarousel j).unit k = if k = j then unitHeld (s.unit k) else s.unit k := by
  cases hc : s.carousel? j with
  | none =>
    rw [holdCarousel_none hc]
    split
    · next e => subst e; simp only [State.unit, hc, unitHeld]
    · rfl
  | some c =>
    by_cases h : c.state = .moving ∨ c.state = .suspended
    · rw [holdCarousel_stops hc h, unit_beginStop hc]
      split
      · next e => subst e; simp only [State.unit, hc, unitHeld, if_pos h]
      · rfl
    · rw [holdCarousel_keeps hc h]
      split
      · next e => subst e; simp only [State.unit, hc, unitHeld, if_neg h]
      · rfl

/-- HOLD with its check passed: the carousels stop (R97). -/
def State.held (s : State) : State := (List.range 4).foldl State.holdCarousel { s with mode := .hold }

theorem unit_held {s : State} {k : Nat} (hk : k < 4) : s.held.unit k = unitHeld (s.carousel? k, s.link k, .hold, s.now) :=
  unit_foldl unit_holdCarousel hk _

theorem lasting_holdCarousel (s : State) (k : Nat) : (s.holdCarousel k).lasting = s.lasting := by
  unfold State.holdCarousel
  split
  · exact lasting_beginStop ..
  · exact lasting_beginStop ..
  · rfl

theorem lasting_held (s : State) : s.held.lasting = ({ s with mode := .hold } : State).lasting :=
  lasting_foldl State.holdCarousel lasting_holdCarousel _ _

theorem hold_taken {s : State} (mode : s.mode = .run) : hold s = .reply s.held.refresh .ok .none := by
  simp [hold, mode, State.held]

/-! ### RESUME (R99, R195) -/

theorem resume_taken {s : State} (mode : s.mode = .hold) :
    resume s = .reply ((List.range 4).foldl State.resumeCarousel { s with mode := .run }).refresh .ok .none := by
  simp [resume, mode]

theorem resumeCarousel_held {s : State} {k : Nat} {c : Carousel} (hc : s.carousel? k = some c) (h : c.state = .held) :
    s.resumeCarousel k = s.resumeHeld k := by
  simp [State.resumeCarousel, State.carouselState, hc, h]

theorem resumeCarousel_idle {s : State} {k : Nat} {c : Carousel} (hc : s.carousel? k = some c) (h : c.state = .idle) :
    s.resumeCarousel k = s.recompute k := by
  simp [State.resumeCarousel, State.carouselState, hc, h]

/-- A carousel neither HELD nor IDLE does not react to RESUME, nor does one not configured (R99). -/
theorem resumeCarousel_keeps {s : State} {k : Nat} (h : ∀ c, s.carousel? k = some c → c.state ≠ .held ∧ c.state ≠ .idle) :
    s.resumeCarousel k = s := by
  unfold State.resumeCarousel State.carouselState
  cases hc : s.carousel? k with
  | none => rfl
  | some c =>
    obtain ⟨held, idle⟩ := h c hc
    cases hs : c.state <;> simp_all

theorem lasting_resumeCarousel (s : State) (k : Nat) : (s.resumeCarousel k).lasting = s.lasting := by
  unfold State.resumeCarousel
  split
  · exact lasting_resumeHeld ..
  · exact lasting_recompute ..
  · rfl

/-! ### Acting on the next target (R84, R87, R88) -/

/-- The passed-over counts of a carousel after a choice (R84). -/
def State.raised (s : State) (k x cls : Nat) (c : Carousel) : List Nat :=
  (List.range c.passed.length).map fun i =>
    if i ≠ x ∧ s.carrierClass k i = some cls ∧ c.passed.getD i 0 < 7 then c.passed.getD i 0 + 1 else c.passed.getD i 0

section
variable {s : State} {k : Nat} {c : Carousel} (hc : s.carousel? k = some c)
include hc

theorem raisePassed_eq (x cls : Nat) : s.raisePassed k x cls = s.setCarousel k { c with passed := s.raised k x cls c } := by
  rw [State.raisePassed, State.onCarousel_eq hc]
  refine congrArg (fun ps => s.setCarousel k { c with passed := ps }) (List.map_congr_left fun i _ => ?_)
  by_cases rival : i ≠ x ∧ s.carrierClass k i = some cls
  · by_cases low : c.passed.getD i 0 < 7
    · rw [if_pos rival, if_pos ⟨rival.1, rival.2, low⟩, countUp, if_pos low]
    · rw [if_pos rival, if_neg fun h => low h.2.2, countUp, if_neg low]
  · rw [if_neg rival, if_neg fun h => rival ⟨h.1, h.2.1⟩]

theorem act_none (idle : c.state = .idle) (none : s.nextTarget k = none) (fuel : Nat) : s.act k (fuel + 1) = s := by
  simp [State.act, State.carouselState, hc, idle, State.actOnce, none]

theorem act_some (idle : c.state = .idle) {once : State × Bool} (ho : s.actOnce k = once) (fuel : Nat) :
    s.act k (fuel + 1) = if once.2 = true then (once.1.become k .idle).act k fuel else once.1 := by
  obtain ⟨t, again⟩ := once
  simp only [State.act, State.carouselState, hc, Option.map_some, idle, if_true, ho]
  cases again <;> rfl

/-- The carousel with presentations opened for a carrier that needs no step (R88). -/
def State.opened (s : State) (k x cls : Nat) (c : Carousel) : State :=
  (s.setCarousel k { c with passed := s.raised k x cls c, state := .presenting }).openStanding k

variable {x cls : Nat} {plan : Plan} (next : s.nextTarget k = some (x, cls, plan))
include next

theorem actOnce_stands (steps : plan.steps = 0) :
    s.actOnce k = (s.opened k x cls c, !(s.opened k x cls c).anyInUse k) := by
  have raised := carousel?_set hc { c with passed := s.raised k x cls c }
  simp only [State.actOnce, next, if_pos steps, raisePassed_eq hc, State.become_eq raised, State.setCarousel_setCarousel]
  rfl

omit hc in
theorem actOnce_waits (steps : plan.steps ≠ 0) (mode : s.mode = .hold) : s.actOnce k = (s, false) := by
  simp only [State.actOnce, next, if_neg steps, if_pos mode]

theorem actOnce_suspends (steps : plan.steps ≠ 0) (mode : s.mode ≠ .hold) (guarded : s.anyGuardOpen k = true) :
    s.actOnce k = (s.setCarousel k
      { c with passed := s.raised k x cls c, state := .suspended, restart := none,
               move := some { carrier := x, plan := plan, speed := none, deadline := none } }, false) := by
  have raised := carousel?_set hc { c with passed := s.raised k x cls c }
  simp only [State.actOnce, next, if_neg steps, if_neg mode, if_pos guarded, raisePassed_eq hc, State.suspendMove,
    State.onCarousel_eq raised, State.setCarousel_setCarousel]

theorem actOnce_sends (steps : plan.steps ≠ 0) (mode : s.mode ≠ .hold) (shut : ¬s.anyGuardOpen k = true) :
    s.actOnce k = ((s.setCarousel k
      { c with passed := s.raised k x cls c, state := .moving, restart := none,
               move := some { carrier := x, plan := plan, speed := some c.figures.speed,
                              deadline := some (s.now + ms (moveTime c.stepTime plan.steps c.figures.speed)) } }).handOver k
        (.move plan.targetP plan.direction c.figures.speed), false) := by
  have raised := carousel?_set hc { c with passed := s.raised k x cls c }
  simp only [State.actOnce, next, if_neg steps, if_neg mode, if_neg shut, raisePassed_eq hc, State.sendMove, raised,
    State.setCarousel_setCarousel]
  rfl

end

theorem anyGuardOpen_iff (s : State) (k : Nat) :
    s.anyGuardOpen k = true ↔ ∃ w ∈ s.windowsOf k, (s.window w).guard = .opened := by
  simp [State.anyGuardOpen]

/-- The length of a move (R87): at CREEP a step takes twice as long. -/
theorem moveTime_eq (stepTime steps : Nat) (speed : Speed) :
    moveTime stepTime steps speed = steps * stepTime * (if speed = .creep then 2 else 1) + 2000 := by
  cases speed
  · exact congrArg (· + 2000) (Nat.mul_one _).symm
  · rfl

/-- Settles O15. -/
theorem holdAndResumeChangeTheMode : Obligations.HoldAndResumeChangeTheMode := by
  refine ⟨fun s tag free ht shaped mode => ⟨(s.take 0x05 tag).held.refresh, ?hold, fun k c hc => ?stops, ?lasts⟩,
    fun s tag free ht mode => ⟨?resume, ?resumed, fun still => ?still⟩,
    fun s k c hc => ⟨fun held used => ?inUse, fun held unused => ?unused, fun idle => resumeCarousel_idle hc idle,
      fun held idle => resumeCarousel_keeps fun d hd => ?other⟩,
    fun s k => rfl, fun s k fuel c hc idle => ⟨fun none => act_none hc idle none fuel, fun x cls plan next => ?act⟩⟩
  case hold =>
    rw [exec_lineFree (kind := 0x05) (tag := tag) rfl free ht]
    simp only [ownerOf]
    rw [hold_taken (s := s.take 0x05 tag) mode]
    rfl
  case stops =>
    have run := unit_held (s := s.take 0x05 tag) (carousel?_lt_four shaped hc)
    have read : (s.take 0x05 tag).carousel? k = some c := hc
    rw [read] at run
    by_cases h : c.state = .moving ∨ c.state = .suspended
    · simp only [unitHeld, if_pos h] at run
      obtain ⟨carousel, link, -⟩ := unit_of run
      obtain ⟨work, next, shown⟩ := carousel?_refresh carousel
      refine ⟨_, shown, ?_⟩
      rw [if_pos h]
      exact ⟨rfl, rfl, rfl, (link_refresh ..).trans link⟩
    · simp only [unitHeld, if_neg h] at run
      obtain ⟨carousel, link, -⟩ := unit_of run
      obtain ⟨work, next, shown⟩ := carousel?_refresh carousel
      refine ⟨_, shown, ?_⟩
      rw [if_neg h]
      exact ⟨rfl, rfl, rfl, (link_refresh ..).trans link⟩
  case lasts => exact (lasting_refresh _).trans (lasting_held _)
  case resume =>
    rw [exec_lineFree (kind := 0x06) (tag := tag) rfl free ht]
    simp only [ownerOf]
    rw [resume_taken (s := s.take 0x06 tag) mode]
    rfl
  case resumed => exact (lasting_refresh _).trans (lasting_foldl State.resumeCarousel lasting_resumeCarousel _ _)
  case still =>
    have keeps : ∀ k, State.resumeCarousel { s.take 0x06 tag with mode := .run } k = { s.take 0x06 tag with mode := .run } :=
      fun k => resumeCarousel_keeps (still k)
    simp only [List.foldl_cons, List.foldl_nil, keeps]
  case inUse => rw [resumeCarousel_held hc held, resumeHeld_eq hc, if_pos ((anyInUse_iff s k).mpr used)]
  case unused => rw [resumeCarousel_held hc held, resumeHeld_eq hc, if_neg fun h => unused ((anyInUse_iff s k).mp h)]
  case other =>
    cases hc.symm.trans hd
    exact ⟨held, idle⟩
  case act =>
    intro raised opened used guarded
    refine ⟨fun steps inUse => ?_, fun steps unused => ?_, fun steps mode => ?_, fun steps mode open_ => ?_,
      fun steps mode shut => ?_⟩
    · have busy : (s.opened k x cls c).anyInUse k = true := (anyInUse_iff ..).mpr inUse
      rw [act_some hc idle (actOnce_stands hc next steps), busy]
      rfl
    · have free : ¬(s.opened k x cls c).anyInUse k = true := fun h => unused ((anyInUse_iff ..).mp h)
      rw [act_some hc idle (actOnce_stands hc next steps), if_pos (by simp [free])]
      rfl
    · rw [act_some hc idle (actOnce_waits next steps mode)]
      rfl
    · rw [act_some hc idle (actOnce_suspends hc next steps mode ((anyGuardOpen_iff s k).mpr open_))]
      rfl
    · rw [act_some hc idle (actOnce_sends hc next steps mode fun h => shut ((anyGuardOpen_iff s k).mp h)), moveTime_eq]
      rfl

end Sys2Proof.Machine
end

section
/-! What openings, presentations and measurements leave of a carousel, and how parks and stops last (R88 to R91, R98, R114, R152,
R159). -/

namespace Sys2Proof.Machine

/-! ### What openings leave of a carousel -/

/-- What openings and measurements leave of a carousel: all but its becoming PRESENTING from IDLE, its passed-over counts and
its audit list. -/
def Carousel.stance (c : Carousel) : Carousel :=
  { c with state := if c.state = .idle then .presenting else c.state, passed := [], auditList := [] }

/-- What openings leave of carousel `k`. -/
def State.stance (k : Nat) (s : State) : Option Carousel := (s.carousel? k).map Carousel.stance

theorem stance_of_carousels {s t : State} (h : t.carousels = s.carousels) (k : Nat) : t.stance k = s.stance k := by
  rw [State.stance, State.carousel?, h, State.stance, State.carousel?]

theorem stance_onCarousel (s : State) (j : Nat) {f : Carousel → Carousel} (h : ∀ c, (f c).stance = c.stance) (k : Nat) :
    (s.onCarousel j f).stance k = s.stance k := onCarousel_view s j h k

theorem stance_notify (s : State) (n : Notice) (k : Nat) : (s.notify n).stance k = s.stance k :=
  stance_of_carousels (State.notify_carousels ..) k

theorem stance_fillPresentation (s : State) (j w c k : Nat) : (s.fillPresentation j w c).stance k = s.stance k := by
  unfold State.fillPresentation
  refine (stance_onCarousel _ j (fun r => ?_) k).trans rfl
  simp only [Carousel.stance]
  cases hr : r.state <;> simp

theorem stance_seek (j w c left i : Nat) (s : State) (k : Nat) : (s.seek j w c left i).1.stance k = s.stance k := by
  induction left generalizing i s with
  | zero => rfl
  | succ left ih =>
    unfold State.seek
    split
    · split
      · exact (ih ..).trans (stance_notify ..)
      · rfl
    · rfl

theorem stance_startMeasurement (s : State) (j w c k : Nat) : (s.startMeasurement j w c).1.stance k = s.stance k := by
  unfold State.startMeasurement State.seekFrom
  have unlisted := stance_onCarousel s j (f := fun r => { r with auditList := r.auditList.filter fun x => decide (x ≠ c) })
    (fun _ => rfl) k
  split
  · exact (stance_seek ..).trans unlisted
  · exact unlisted

section
variable {opening : State → State} (h : ∀ (s : State) (k : Nat), (opening s).stance k = s.stance k)
include h

theorem stance_endMeasurement (s : State) (j w c k : Nat) : (s.endMeasurement j w c opening).stance k = s.stance k := by
  unfold State.endMeasurement
  dsimp only
  split
  · split
    · exact h ..
    · rfl
  · rfl

theorem stance_endPresentation (s : State) (j w c k : Nat) : (s.endPresentation j w c opening).stance k = s.stance k := by
  unfold State.endPresentation
  dsimp only
  have started := stance_startMeasurement (s.dropPresentation w) j w c k
  split
  · split
    · split
      · next e => exact (stance_endMeasurement h ..).trans ((congrArg (fun q => q.1.stance k) e).symm.trans started)
      · next e => exact (congrArg (fun q => q.1.stance k) e).symm.trans started
    · rfl
  · rfl

end

theorem stance_openAt (j w c fuel : Nat) (s : State) (k : Nat) : (s.openAt j w c fuel).stance k = s.stance k := by
  induction fuel generalizing s k with
  | zero => rfl
  | succ fuel ih =>
    unfold State.openAt
    dsimp only
    split
    · exact (stance_endPresentation (fun t k => ih t k) ..).trans (stance_fillPresentation ..)
    · exact stance_fillPresentation ..

theorem stance_openWindow (s : State) (j w k : Nat) : (s.openWindow j w).stance k = s.stance k := by
  unfold State.openWindow
  split
  · split
    · rfl
    · exact stance_openAt ..
  · rfl

theorem stance_openStanding (s : State) (j k : Nat) : (s.openStanding j).stance k = s.stance k :=
  foldl_view (view := State.stance k) (fun t w => stance_openWindow t j w k) _ s

/-- A carousel that is not IDLE keeps its state while presentations open. -/
theorem carousel?_of_stance {s t : State} {k : Nat} {c : Carousel} (h : t.stance k = s.stance k) (hc : s.carousel? k = some c)
    (busy : c.state ≠ .idle) : ∃ d, t.carousel? k = some d ∧ d.stance = c.stance ∧ (c.state ≠ .presenting → d.state = c.state) := by
  rw [State.stance, State.stance, hc] at h
  obtain ⟨d, hd, e⟩ := Option.map_eq_some_iff.mp h
  refine ⟨d, hd, e, fun other => ?_⟩
  have state := congrArg Carousel.state e
  simp only [Carousel.stance, if_neg busy] at state
  split at state
  · exact absurd state.symm other
  · exact state

/-! ### How a carousel set lasts -/

theorem lasting_setCarousel_eq (s : State) (k : Nat) (c : Carousel) :
    (s.setCarousel k c).lasting = s.lasting.setCarousel k c.lasting := by
  simp [State.setCarousel, State.lasting, List.map_set]

theorem lasting_setCarousel_congr {s t : State} (h : t.lasting = s.lasting) (k : Nat) {c d : Carousel}
    (hd : d.lasting = c.lasting) : (t.setCarousel k d).lasting = (s.setCarousel k c).lasting := by
  rw [lasting_setCarousel_eq, lasting_setCarousel_eq, h, hd]

theorem lasting_onCarousel_congr {s t : State} (h : t.lasting = s.lasting) {k : Nat} (hk : t.carousel? k = s.carousel? k)
    {f g : Carousel → Carousel} (hf : ∀ c, (f c).lasting = (g c).lasting) :
    (t.onCarousel k f).lasting = (s.onCarousel k g).lasting := by
  cases hc : s.carousel? k with
  | none => rw [onCarousel_none hc, onCarousel_none (hk.trans hc), h]
  | some c =>
    rw [State.onCarousel_eq hc, State.onCarousel_eq (hk.trans hc)]
    exact lasting_setCarousel_congr h k (hf c)

/-- A carousel that stands elsewhere lasts with that position (R91, R98). -/
theorem lasting_standAt (s : State) (k p : Nat) : (s.standAt k p).lasting = (s.onCarousel k fun r => { r with p := p }).lasting :=
  lasting_onCarousel_congr rfl rfl fun _ => rfl

theorem lasting_park (s : State) (k p : Nat) : (s.park k p).lasting = (s.onCarousel k fun r => { r with p := p }).lasting := by
  rw [State.park, lasting_testWindows, lasting_openStanding, lasting_become, lasting_standAt]

theorem lasting_endStop (s : State) (k p : Nat) :
    (s.endStop k p).lasting = (s.onCarousel k fun r => { r with p := p }).lasting := by
  unfold State.endStop
  split
  · rw [lasting_enterHeld, lasting_standAt]
  · rw [lasting_resumeHeld, lasting_standAt]

/-! ### Parks and stops (R91, R98, R100) -/

section
variable {s : State} {k : Nat} {c : Carousel} (hc : s.carousel? k = some c)
include hc

theorem become_standAt (p : Nat) (st : CarouselState) :
    (s.standAt k p).become k st = s.setCarousel k { c with p := p, move := none, restart := none, state := st } := by
  have stands : s.standAt k p = s.setCarousel k { c with p := p, move := none, restart := none } := State.onCarousel_eq hc _
  rw [stands, State.become_eq (carousel?_set hc _), State.setCarousel_setCarousel]

theorem park_eq (p : Nat) : s.park k p = State.testWindows k
    ((s.setCarousel k { c with p := p, move := none, restart := none, state := .presenting }).openStanding k) := by
  rw [State.park, become_standAt hc]

theorem endStop_hold (p : Nat) (mode : s.mode = .hold) :
    s.endStop k p = (s.setCarousel k { c with p := p, move := none, restart := none, state := .held }).openStanding k := by
  rw [State.endStop, if_pos mode, State.enterHeld, become_standAt hc]

theorem endStop_run (p : Nat) (mode : s.mode ≠ .hold) : s.endStop k p =
    if s.anyInUse k then s.setCarousel k { c with p := p, move := none, restart := none, state := .presenting }
    else (s.setCarousel k { c with p := p, move := none, restart := none, state := .idle }).recompute k := by
  have stands : s.standAt k p = s.setCarousel k { c with p := p, move := none, restart := none } := State.onCarousel_eq hc _
  rw [State.endStop, if_neg mode, stands, resumeHeld_eq (carousel?_set hc _), State.anyInUse_setCarousel,
    State.setCarousel_setCarousel, State.setCarousel_setCarousel]

theorem testWindows_keeps (h : c.state ≠ .presenting ∨ s.anyInUse k = true) : s.testWindows k = s := by
  refine if_neg fun both => ?_
  have presenting : c.state = .presenting := by simpa [State.carouselState, hc] using both.1
  rcases h with other | used
  · exact other presenting
  · simp [used] at both

end

end Sys2Proof.Machine
end

section
/-! The reports and timers of the motion controller, and the answers to its position queries (R91 to R99, R102 to R107, R174). -/

namespace Sys2Proof.Machine

/-! ### Reports (R174) -/

section
variable {s : State} {st p : Nat} {c : Carousel} (hc : s.carousel? st = some c)
include hc

theorem reportTo_some (locked : s.locked st = true) (module : st < 4) (place : p < c.geometry.n) : s.reportTo st p = some c := by
  rw [State.reportTo, if_pos ⟨locked, module⟩]
  simp only [hc, if_pos place]

/-- A report that is taken is from the LOCKED link of a bay module, and of a position of its carousel. -/
theorem reportTo_eq : s.reportTo st p = none ∨ s.reportTo st p = some c := by
  unfold State.reportTo
  split
  · simp only [hc]
    split
    · exact .inr rfl
    · exact .inl rfl
  · exact .inl rfl

omit hc in
theorem moveDone_parks (taken : s.reportTo st p = some c) (h : c.state = .moving ∨ c.state = .suspended) :
    s.moveDone st p = s.park st p := by
  rcases h with h | h <;> simp [State.moveDone, taken, h]

omit hc in
theorem moveDone_stops (taken : s.reportTo st p = some c) (h : c.state = .stopping) : s.moveDone st p = s.endStop st p := by
  simp [State.moveDone, taken, h]

omit hc in
theorem stopped_stops (taken : s.reportTo st p = some c) (h : c.state = .stopping) : s.stopped st p = s.endStop st p := by
  simp [State.stopped, taken, h]

theorem moveDone_keeps (h : s.reportTo st p = none ∨ (c.state ≠ .moving ∧ c.state ≠ .suspended ∧ c.state ≠ .stopping)) :
    s.moveDone st p = s := by
  rcases reportTo_eq hc (p := p) with none | some
  · simp [State.moveDone, none]
  · obtain ⟨moving, suspended, stopping⟩ := h.resolve_left (by simp [some])
    unfold State.moveDone
    rw [some]
    cases hs : c.state <;> simp_all

theorem stopped_keeps (h : s.reportTo st p = none ∨ c.state ≠ .stopping) : s.stopped st p = s := by
  refine if_neg fun e => ?_
  rcases reportTo_eq hc (p := p) with none | some
  · simp [none] at e
  · exact h.resolve_left (by simp [some]) (by simpa [some] using e)

end

theorem reportTo_none {s : State} {st p : Nat} (h : s.locked st = false ∨ 4 ≤ st ∨ s.carousel? st = none ∨
    ∃ c, s.carousel? st = some c ∧ c.geometry.n ≤ p) : s.reportTo st p = none := by
  unfold State.reportTo
  split
  · next taken =>
    rcases h with unlocked | station | absent | ⟨c, hc, outside⟩
    · simp [unlocked] at taken
    · omega
    · simp only [absent]
    · simp only [hc, if_neg (Nat.not_lt.mpr outside)]
  · rfl

/-- A move that ends in FAULT at a position reported (R92, R104). -/
theorem enterFault_at {s : State} {st : Nat} {c : Carousel} (hc : s.carousel? st = some c) (p : Nat) (cause : MoveFaultReason) :
    (s.onCarousel st fun c => { c with p := p }).enterFault st cause =
      (s.setCarousel st { c with state := .fault, p := p, move := none, restart := none }).notify
      (.moveFault st cause p (c.move.map fun m => m.carrier) (c.move.map fun m => m.plan.targetP)) := by
  have stands : (s.onCarousel st fun c => { c with p := p }) = s.setCarousel st { c with p := p } := State.onCarousel_eq hc _
  rw [stands, State.enterFault]
  simp only [carousel?_set hc, State.setCarousel_setCarousel]

/-- Settles O38. -/
theorem reportsOfTheMoveEndItOrFault : Obligations.ReportsOfTheMoveEndItOrFault := by
  refine ⟨fun s st p c hc => ?done, fun s k c hc => ⟨fun presenting unused => ?idles, fun h => ?keeps⟩,
    fun s st p reason c hc locked module place => ⟨fun moves => ?fails, fun moving stopping suspended => ?ignores⟩⟩
  case done =>
    intro stands used
    have taken := fun locked module place => reportTo_some (p := p) hc locked module place
    refine ⟨fun locked module place moves => ?_, fun locked module place moves => ?_, fun locked module place stops => ?_,
      fun h => ?_, fun h => ?_, fun h => ?_⟩
    · show Host.Outcome.next (s.moveDone st p).close = _
      rw [moveDone_parks (taken locked module place) moves, park_eq hc]
    · refine ⟨(s.moveDone st p).refresh, rfl, ?_⟩
      rw [lasting_refresh, ← State.onCarousel_eq hc fun r => { r with p := p }]
      rcases moves with moving | suspended | stopping
      · rw [moveDone_parks (taken locked module place) (.inl moving), lasting_park]
      · rw [moveDone_parks (taken locked module place) (.inr suspended), lasting_park]
      · rw [moveDone_stops (taken locked module place) stopping, lasting_endStop]
    · have ended := stopped_stops (taken locked module place) stops
      have done := moveDone_stops (taken locked module place) stops
      refine ⟨?_, fun mode => ?_, fun mode => ?_, fun mode inUse => ?_, fun mode unused => ?_⟩
      · show Host.Outcome.next (s.stopped st p).close = Host.Outcome.next (s.moveDone st p).close
        rw [ended, done]
      · show Host.Outcome.next (s.stopped st p).close = _
        rw [ended, endStop_hold hc p mode]
      · have held := carousel?_of_stance (stance_openStanding _ st st)
          (carousel?_set hc { c with p := p, move := none, restart := none, state := .held }) (by simp)
        obtain ⟨d, hd, stance, state⟩ := held
        obtain ⟨work, next, shown⟩ := carousel?_refresh hd
        refine ⟨(s.stopped st p).refresh, { d with work := work, next := next }, rfl, ?_, state (by simp), (congrArg Carousel.p stance :),
          (congrArg Carousel.move stance :)⟩
        rw [ended, endStop_hold hc p mode]
        exact shown
      · show Host.Outcome.next (s.stopped st p).close = _
        rw [ended, endStop_run hc p mode, if_pos ((anyInUse_iff s st).mpr inUse)]
      · show Host.Outcome.next (s.stopped st p).close = _
        rw [ended, endStop_run hc p mode, if_neg fun h => unused ((anyInUse_iff s st).mp h)]
    · have still : s.reportTo st p = none ∨ (c.state ≠ .moving ∧ c.state ≠ .suspended ∧ c.state ≠ .stopping) := by
        rcases h with unlocked | state
        · exact .inl (reportTo_none (.inl unlocked))
        · right
          rcases state with h | h | h | h | h <;> simp [h]
      refine ⟨?_, ?_⟩
      · show Host.Outcome.next (s.moveDone st p).close = _
        rw [moveDone_keeps hc still]
      · show Host.Outcome.next (s.stopped st p).close = _
        rw [stopped_keeps hc (still.imp_right fun h => h.2.2)]
    · show Host.Outcome.next (s.stopped st p).close = _
      rw [stopped_keeps hc (.inr (by rcases h with h | h <;> simp [h]))]
    · have none : s.reportTo st p = none := reportTo_none (.inr (h.elim (fun h => .inr (.inr ⟨c, hc, h⟩)) .inl))
      refine ⟨?_, ?_⟩
      · show Host.Outcome.next (s.moveDone st p).close = _
        rw [moveDone_keeps hc (.inl none)]
      · show Host.Outcome.next (s.stopped st p).close = _
        rw [stopped_keeps hc (.inl none)]
  case idles =>
    have free : s.anyInUse k = false := by
      rw [Bool.eq_false_iff]
      exact fun h => unused ((anyInUse_iff s k).mp h)
    exact testWindows_idle hc presenting free
  case keeps => exact testWindows_keeps hc (h.imp_right (anyInUse_iff s k).mpr)
  case fails =>
    have taken := reportTo_some (p := p) hc locked module place
    have inMotion : c.state.inMotion = true := by rcases moves with h | h | h <;> rw [h] <;> rfl
    show Host.Outcome.next (s.moveFail st reason p).close = _
    cases reason <;> simp only [State.moveFail, taken, if_pos inMotion, enterFault_at hc]
  case ignores =>
    have taken := reportTo_some (p := p) hc locked module place
    have still : ¬c.state.inMotion = true := by cases hs : c.state <;> simp_all [CarouselState.inMotion]
    show Host.Outcome.next (s.moveFail st reason p).close = _
    simp only [State.moveFail, taken, if_neg still]

/-! ### Guards (R94) -/

theorem guardReport_ignored {s : State} {st w p : Nat} (g : Guard)
    (h : s.carouselOf w ≠ some st ∨ s.reportTo st p = none) : s.guardReport st w g p = s := by
  unfold State.guardReport
  split
  · next taken =>
    rw [if_neg (h.resolve_right (by simp [taken]))]
  · rfl

/-- Settles O39. -/
theorem guardReportsSuspendAndResume : Obligations.GuardReportsSuspendAndResume := by
  refine ⟨fun s st w p g h => ?ignored, fun s st w p g c hc locked module place at_ => ?taken⟩
  case ignored =>
    refine congrArg (fun t : State => Host.Outcome.next t.close) (guardReport_ignored g ?_)
    exact h.imp_right reportTo_none
  case taken =>
    intro s1
    have taken := reportTo_some (p := p) hc locked module place
    have written : s.guardReport st w g p = s1.guardActs st g p := by
      simp only [State.guardReport, taken, if_pos at_]
      rfl
    have read : s1.carousel? st = some c := hc
    have state : s1.carouselState st = some c.state := by rw [State.carouselState, read]; rfl
    refine ⟨fun moving open_ => ?_, fun suspended open_ => ?_, fun suspended closed => ?_, fun h => ?_⟩
    · show Host.Outcome.next (s.guardReport st w g p).close = _
      subst open_
      simp only [written, State.guardActs, state, moving, State.onCarousel_eq read]
    · show Host.Outcome.next (s.guardReport st w g p).close = _
      subst open_
      simp only [written, State.guardActs, state, suspended, State.onCarousel_eq read]
    · show Host.Outcome.next (s.guardReport st w g p).close = _
      subst closed
      simp only [written, State.guardActs, state, suspended, State.onCarousel_eq read]
      rfl
    · show Host.Outcome.next (s.guardReport st w g p).close = _
      rw [written]
      unfold State.guardActs
      rw [state]
      rcases h with ⟨moving, rfl⟩ | ⟨moving, suspended⟩
      · simp only [moving]
      · cases hs : c.state <;> cases g <;> simp_all

/-! ### Timers (R93, R95, R97) -/

theorem carousel?_reachTime (s : State) (e : Time) (k : Nat) : (s.reachTime e).carousel? k = s.carousel? k := by
  rw [State.carousel?, State.reachTime_carousels, State.carousel?]

theorem plan_reachTime (s : State) (e : Time) (k c : Nat) : (s.reachTime e).plan k c = s.plan k c := by
  unfold State.reachTime
  split <;> rfl

theorem enterFault_eq {s : State} {k : Nat} {c : Carousel} (hc : s.carousel? k = some c) (reason : MoveFaultReason) :
    s.enterFault k reason = (s.setCarousel k { c with state := .fault, move := none, restart := none }).notify
      (.moveFault k reason c.p (c.move.map fun m => m.carrier) (c.move.map fun m => m.plan.targetP)) := by
  simp only [State.enterFault, hc]

theorem sendMove_eq {s : State} {k : Nat} {c : Carousel} (hc : s.carousel? k = some c) (x : Nat) (plan : Plan) :
    s.sendMove k x plan = (s.setCarousel k
      { c with state := .moving, restart := none,
               move := some { carrier := x, plan := plan, speed := some c.figures.speed,
                              deadline := some (s.now + ms (plan.steps * c.stepTime *
                                (if c.figures.speed = .creep then 2 else 1) + 2000)) } }).onLink k
        (Link.handOver s.now (.move plan.targetP plan.direction c.figures.speed)) := by
  simp only [State.sendMove, hc, moveTime_eq]
  rfl

/-- Settles O40. -/
theorem motionTimersFaultOrRestart : Obligations.MotionTimersFaultOrRestart := by
  intro s k c m d hc hm
  have reached : (s.reachTime d).carousel? k = some c := (carousel?_reachTime ..).trans hc
  refine ⟨fun moving deadline => ?deadline, fun stopping deadline => ?stop, fun plan suspended restart planned => ?restart⟩
  case deadline =>
    have expiry : s.moveDeadline k = ((s.reachTime d).handOver k .halt).enterFault k .timeout := by
      simp only [State.moveDeadline, hc, hm, Option.bind_some, deadline, if_pos moving]
    have halted : ((s.reachTime d).handOver k .halt).carousel? k = some c := reached
    show Host.Outcome.next (s.moveDeadline k).close = _
    rw [expiry, enterFault_eq halted, hm]
    rfl
  case stop =>
    have expiry : s.stopDeadline k = (s.reachTime d).enterFault k .stopTimeout := by
      simp only [State.stopDeadline, hc, hm, Option.bind_some, deadline, if_pos stopping]
    show Host.Outcome.next (s.stopDeadline k).close = _
    rw [expiry, enterFault_eq reached, hm]
    rfl
  case restart =>
    have expiry : s.restartDelay k =
        if plan.steps = 0 then (s.reachTime d).park k c.p else (s.reachTime d).sendMove k m.carrier plan := by
      simp only [State.restartDelay, hc, restart, if_pos suspended, State.resumeMove, reached, hm, plan_reachTime, planned]
    refine ⟨fun steps => ?_, fun steps => ⟨(s.restartDelay k).refresh, rfl, ?_⟩, fun steps => ?_⟩
    · show Host.Outcome.next (s.restartDelay k).close = _
      rw [expiry, if_pos steps, park_eq reached]
    · rw [lasting_refresh, expiry, if_pos steps, lasting_park, State.onCarousel_eq reached]
      exact lasting_setCarousel reached rfl
    · show Host.Outcome.next (s.restartDelay k).close = _
      rw [expiry, if_neg steps, sendMove_eq reached]

/-! ### RECOVER and GET_CAROUSEL (R105, R107) -/

theorem recover_asks {s : State} {k : Nat} {c : Carousel} (hc : s.carousel? k = some c) (mode : s.mode ≠ .config)
    (fault : c.state = .fault) (query : c.query = none) (locked : s.locked k = true) :
    recover k s = .reply (s.sendPosition k .recover) .ok .none := by
  simp [recover, mode, hc, fault, query, locked]

theorem getCarousel_reports {s : State} {k : Nat} {c : Carousel} (hc : s.carousel? k = some c) :
    getCarousel k s = .reply s .ok (.carousel (s.carouselReport k c)) := by
  simp only [getCarousel, hc]

/-! ### Position replies (R102, R103) -/

theorem positionReply_live {s : State} {st number p : Nat} {c : Carousel} (hc : s.carousel? st = some c)
    (answers : s.answers st number = some (.position true)) (place : p < c.geometry.n) (guards : List (Nat × Guard)) :
    s.positionReply st number p guards = ((s.takeReply st).writeGuards st guards).positionAnswer st p c := by
  simp only [State.positionReply, answers, hc, if_neg (Nat.not_le.mpr place), if_true]

theorem writeGuards_carousels (s : State) (k : Nat) (guards : List (Nat × Guard)) : (s.writeGuards k guards).carousels = s.carousels :=
  foldl_view (f := fun (s : State) (g : Nat × Guard) => if s.carouselOf g.1 = some k then s.onWindow g.1 fun v => { v with guard := g.2 } else s)
    (view := State.carousels) (fun t g => by split <;> rfl) guards s

theorem writeGuards_links (guards : List (Nat × Guard)) (s : State) (k : Nat) (ls : List Link) :
    State.writeGuards k guards { s with links := ls } = { s.writeGuards k guards with links := ls } := by
  induction guards generalizing s with
  | nil => rfl
  | cons g gs ih =>
    unfold State.writeGuards at ih ⊢
    rw [List.foldl_cons, List.foldl_cons, ← ih]
    congr 1
    by_cases h : s.carouselOf g.1 = some k
    · have h' : State.carouselOf { s with links := ls } g.1 = some k := h
      rw [if_pos h, if_pos h']
      rfl
    · have h' : ¬State.carouselOf { s with links := ls } g.1 = some k := h
      rw [if_neg h, if_neg h']

/-- An answer taken at a link lasts in nothing (R172). -/
theorem lasting_writeGuards_takeReply (s : State) (st k : Nat) (guards : List (Nat × Guard)) :
    ((s.takeReply st).writeGuards k guards).lasting = (s.writeGuards k guards).lasting := by
  have answered := lasting_takeReply s st
  have links : (s.takeReply st).links.map Link.lasting = s.links.map Link.lasting := (congrArg State.links answered :)
  show (State.writeGuards k guards { s with links := (s.takeReply st).links }).lasting = _
  rw [writeGuards_links]
  have same : ∀ (t : State) (ls : List Link), ls.map Link.lasting = t.links.map Link.lasting →
      ({ t with links := ls } : State).lasting = t.lasting := fun t ls h => by
    simp only [State.lasting, h]
  refine same _ _ (links.trans ?_)
  have kept : (s.writeGuards k guards).links = s.links :=
    foldl_view (f := fun (s : State) (g : Nat × Guard) => if s.carouselOf g.1 = some k then s.onWindow g.1 fun v => { v with guard := g.2 } else s)
      (view := State.links) (fun t g => by split <;> rfl) guards s
  rw [kept]

/-- The record of a carousel that has learned where it stands (R102). -/
def Carousel.learned (c : Carousel) (p : Nat) : Carousel := { c with p := p, known := true, query := none, resume := none }

/-- It has learned that it stands at `p`, and is in a state (R102). -/
def Carousel.learnedAs (c : Carousel) (p : Nat) (st : CarouselState) : Carousel := { c.learned p with state := st }

theorem cancelPresentation_carousels (s : State) (w : Nat) : (s.cancelPresentation w).carousels = s.carousels := by
  unfold State.cancelPresentation
  split <;> rfl

/-- The part with the presentations of a carousel cancelled, its position learned and the change reported (R103). -/
def State.told (s : State) (k p : Nat) (c : Carousel) : State :=
  ((((s.presentingWindows k).foldl (fun s w => s.cancelPresentation w) s).setCarousel k (c.learned p)).notify
    (.positionChanged k c.p p (s.presentingWindows k).length (total ((s.presentingWindows k).map fun w => (s.window w).pickEntries))))

section
variable {s : State} {k : Nat} {c : Carousel} (hc : s.carousel? k = some c) (p : Nat)
include hc

theorem learned_eq : s.learned k p = s.setCarousel k (c.learned p) := State.onCarousel_eq hc _

theorem become_learned (st : CarouselState) : (s.learned k p).become k st = s.setCarousel k (c.learnedAs p st) := by
  rw [learned_eq hc, State.become_eq (carousel?_set hc _), State.setCarousel_setCarousel]
  rfl

theorem idleAndAct_learned : (s.learned k p).idleAndAct k = (s.setCarousel k (c.learnedAs p .idle)).recompute k := by
  rw [State.idleAndAct, become_learned hc]
  rfl

theorem enterHeld_learned : (s.learned k p).enterHeld k = (s.setCarousel k (c.learnedAs p .held)).openStanding k := by
  rw [State.enterHeld, become_learned hc]

theorem resumeHeld_learned : (s.learned k p).resumeHeld k =
    if s.anyInUse k then s.setCarousel k (c.learnedAs p .presenting)
    else (s.setCarousel k (c.learnedAs p .idle)).recompute k := by
  rw [learned_eq hc, resumeHeld_eq (carousel?_set hc _), State.anyInUse_setCarousel, State.setCarousel_setCarousel,
    State.setCarousel_setCarousel]
  rfl

theorem cancelled_learned :
    ((s.presentingWindows k).foldl (fun s w => s.cancelPresentation w) s).learned k p =
      ((s.presentingWindows k).foldl (fun s w => s.cancelPresentation w) s).setCarousel k (c.learned p) := by
  refine learned_eq ?_ p
  rw [State.carousel?, foldl_view (view := State.carousels) cancelPresentation_carousels]
  exact hc

theorem changePosition_held (held : c.resume = some .held ∧ s.mode = .hold) :
    s.changePosition k p c = ((s.told k p c).become k .held).openStanding k := by
  simp only [State.changePosition, cancelled_learned hc, if_pos held]
  rfl

theorem changePosition_acts (other : ¬(c.resume = some .held ∧ s.mode = .hold)) {d : Carousel}
    (hd : ((s.told k p c).idleAndAct k).carousel? k = some d) : s.changePosition k p c =
      if d.state.opensPresentations = true then (((s.told k p c).idleAndAct k).openStanding k).testWindows k
      else (s.told k p c).idleAndAct k := by
  have opens : (((s.told k p c).idleAndAct k).carousel? k).map (fun r => r.state.opensPresentations) = some d.state.opensPresentations := by
    rw [hd]
    rfl
  simp only [State.changePosition, cancelled_learned hc, if_neg other]
  split
  · next yes => rw [if_pos (Option.some.inj (opens.symm.trans yes))]; rfl
  · next no => rw [if_neg fun yes => no (opens.trans (congrArg some yes))]; rfl

theorem lasting_learned : (s.learned k p).lasting = (s.setCarousel k { c with p := p, known := true }).lasting := by
  rw [learned_eq hc]
  exact lasting_setCarousel_congr rfl k rfl

theorem lasting_changePosition : (s.changePosition k p c).lasting = (s.setCarousel k { c with p := p, known := true }).lasting := by
  have cancelled : ((s.presentingWindows k).foldl (fun s w => s.cancelPresentation w) s).lasting = s.lasting :=
    lasting_foldl _ lasting_cancelPresentation _ _
  unfold State.changePosition
  dsimp only
  rw [cancelled_learned hc]
  (repeat' split) <;> simp <;> exact lasting_setCarousel_congr cancelled k rfl

theorem lasting_positionAnswer (h : c.state = .offline ∨ c.state = .fault) :
    (s.positionAnswer k p c).lasting = (s.setCarousel k { c with p := p, known := true }).lasting := by
  unfold State.positionAnswer
  split
  · rw [lasting_idleAndAct, lasting_learned hc]
  · next fault =>
    rw [if_neg (not_not.mpr (h.resolve_right fault))]
    split
    · rw [lasting_idleAndAct, lasting_learned hc]
    · split
      · split
        · rw [lasting_enterHeld, lasting_learned hc]
        · rw [lasting_resumeHeld, lasting_learned hc]
      · exact lasting_changePosition hc p

end

theorem positionAnswer_known {s : State} {k p : Nat} {c : Carousel} (offline : c.state = .offline) (known : c.known = true) :
    s.positionAnswer k p c =
      if p = c.p then
        if c.resume = some .held ∧ s.mode = .hold then (s.learned k p).enterHeld k else (s.learned k p).resumeHeld k
      else s.changePosition k p c := by
  simp only [State.positionAnswer, offline, known, reduceCtorEq, ne_eq, not_true_eq_false, if_false, Bool.not_true, Bool.false_eq_true]

theorem opensPresentations_iff (st : CarouselState) : st.opensPresentations = true ↔ st = .idle ∨ st = .presenting ∨ st = .held := by
  cases st <;> simp [CarouselState.opensPresentations]

/-- Settles O37. -/
theorem positionsAreAskedForAndRecorded : Obligations.PositionsAreAskedForAndRecorded := by
  refine ⟨fun s tag k c free ht hc => ⟨fun mode fault query locked => ?recovers, ?reports⟩,
    fun s st number p guards c hc answers place => ⟨?answered, fun h => ?lasts⟩, fun s k p c hc => ?goesOn⟩
  case recovers =>
    refine (exec_lineFree (kind := 0x38) (tag := tag) rfl free ht).trans ?_
    simp only [ownerOf]
    rw [recover_asks (s := s.take 0x38 tag) hc mode fault query locked, State.sendPosition, State.onCarousel_eq (s := s.take 0x38 tag) hc]
    rfl
  case reports =>
    refine (exec_lineFree (kind := 0x39) (tag := tag) rfl free ht).trans ?_
    simp only [ownerOf]
    rw [getCarousel_reports (s := s.take 0x39 tag) hc]
    rfl
  case answered =>
    show Host.Outcome.next (s.positionReply st number p guards).close = _
    rw [positionReply_live hc answers place]
    rfl
  case lasts =>
    have written : ((s.takeReply st).writeGuards st guards).carousel? st = some c := by
      rw [State.carousel?, writeGuards_carousels]
      exact hc
    refine ⟨(s.positionReply st number p guards).refresh, rfl, ?_⟩
    rw [lasting_refresh, positionReply_live hc answers place, lasting_positionAnswer written p h]
    exact lasting_setCarousel_congr (lasting_writeGuards_takeReply ..) st rfl
  case goesOn =>
    intro learned idle used
    refine ⟨fun fault => ?_, fun offline unknown => ?_, fun offline known same held => ?_, fun offline known same other => ?_,
      fun offline known moved => ?_, fun offline fault => ?_⟩
    · simp only [State.positionAnswer, if_pos fault]
      exact idleAndAct_learned hc p
    · simp only [State.positionAnswer, offline, unknown, reduceCtorEq, if_false, Bool.not_false, if_true]
      exact idleAndAct_learned hc p
    · rw [positionAnswer_known offline known, if_pos same, if_pos held]
      exact enterHeld_learned hc p
    · rw [positionAnswer_known offline known, if_pos same, if_neg other, resumeHeld_learned hc]
      exact ⟨fun inUse => if_pos ((anyInUse_iff s k).mpr inUse), fun unused => if_neg fun h => unused ((anyInUse_iff s k).mp h)⟩
    · intro ws told
      rw [positionAnswer_known offline known, if_neg moved]
      refine ⟨changePosition_held hc p, fun other => ?_⟩
      intro acted d hd
      have acts := changePosition_acts hc p other (d := d) hd
      refine ⟨fun opens => acts.trans (if_pos ((opensPresentations_iff _).mpr opens)), fun idle presenting held => acts.trans (if_neg fun opens => ?_)⟩
      rcases (opensPresentations_iff _).mp opens with h | h | h
      exacts [idle h, presenting h, held h]
    · simp only [State.positionAnswer, if_neg fault, if_pos offline]
      exact State.onCarousel_eq hc _

end Sys2Proof.Machine
end

section
/-! PROOFS. Bridged accesses (O54): the request hands over, and its answer ends the access. -/

namespace Sys2Proof.Machine

/-! ### The end of a station exchange (R176, R179, R182) -/

theorem endExchange_waiting {s : State} {e : Exchange} {p : Progress} (hp : s.line.progress = some p) (he : p.exchange = some e)
    (r : Result) (b : ReplyBody) :
    s.endExchange e r b = { s with line := { s.line with
      reply := some { kind := p.kind, tag := p.tag, result := r, body := b }, progress := some { p with exchange := none } } } := by
  simp only [State.endExchange, hp, if_pos he, State.formReply]

theorem endExchange_other {s : State} {e : Exchange} (h : ∀ p, s.line.progress = some p → p.exchange ≠ some e) (r : Result)
    (b : ReplyBody) : s.endExchange e r b = s := by
  unfold State.endExchange
  split
  · next p hp => rw [if_neg (h p hp)]
  · rfl

/-! ### Bridged accesses -/

theorem stationAccess_taken {s : State} {st item value : Nat} {dir : AccessDir} (hst : st ≤ 4) (hitem : item ≤ 255)
    (hvalue : value ≤ 65535) (locked : s.locked st = true) (free : (s.link st).access = none) :
    stationAccess st item (some dir) value s = s.takeAccess st item dir value := by
  have fields : ¬(4 < st ∨ 255 < item ∨ 65535 < value) := by omega
  simp only [stationAccess, if_neg fields, locked, free, Bool.not_true, Bool.false_eq_true, if_false, Option.isSome_none]

/-- How a bridged access ends with the value of a station's reply (R175). -/
def AccessResult.replied : Option Nat → AccessResult
  | some v => .done v
  | none => .refused

theorem accessReply_taken {s : State} {st number item v : Nat} {dir : AccessDir}
    (answers : s.answers st number = some (.access item dir v)) (value : Option Nat) :
    s.accessReply st number value = (s.takeReply st).endAccess st (AccessResult.replied value) := by
  simp only [State.accessReply, answers]
  rfl

theorem link_sendHead_access (now : Time) (l : Link) : (l.sendHead now).access = l.access :=
  (congrArg Link.access (lasting_link_sendHead now l) :)

theorem access_takeReply {s : State} {st : Nat} (h : st < s.links.length) :
    ((s.takeReply st).link st).access = (s.link st).access := by
  rw [State.takeReply, link_onLink h]
  exact link_sendHead_access ..

section
variable {s : State} {st : Nat} {a : Access} (ha : (s.link st).access = some a) (result : AccessResult)
include ha

theorem endAccess_ticket {t : Nat} (ticket : a.ticket = some t) : s.endAccess st result =
    (s.onLink st fun l => { l with access := none }).notify (.bridgeResult t st a.item a.dir result) := by
  simp only [State.endAccess, ha, ticket]

theorem endAccess_held (ticket : a.ticket = none) : s.endAccess st result =
    (s.onLink st fun l => { l with access := none }).endExchange (.access st) .ok (.access st a.item a.dir result) := by
  simp only [State.endAccess, ha, ticket]

end

/-- Settles O54. -/
theorem bridgedAccessesAreHandedOverAndEnd : Obligations.BridgedAccessesAreHandedOverAndEnd := by
  refine ⟨fun s tag st item value dir free ht hst hitem hvalue locked unused => ⟨fun mode => ?held, fun mode => ?deferred⟩,
    fun s st number item dir v value a hst answers flight => ⟨fun t ticket => ?notice, fun p ticket hp he => ?reply⟩⟩
  case held =>
    refine (exec_lineFree (kind := 0x50) (tag := tag) rfl free ht).trans ?_
    simp only [ownerOf]
    rw [stationAccess_taken (s := s.take 0x50 tag) hst hitem hvalue locked unused, State.takeAccess, State.take_settings, mode]
    rfl
  case deferred =>
    refine (exec_lineFree (kind := 0x50) (tag := tag) rfl free ht).trans ?_
    simp only [ownerOf]
    rw [stationAccess_taken (s := s.take 0x50 tag) hst hitem hvalue locked unused, State.takeAccess, State.take_settings, mode]
    rfl
  case notice =>
    show Host.Outcome.next (s.accessReply st number value).close = _
    rw [accessReply_taken answers, endAccess_ticket ((access_takeReply hst).trans flight) _ ticket]
    rfl
  case reply =>
    show Host.Outcome.next (s.accessReply st number value).close = _
    rw [accessReply_taken answers, endAccess_held ((access_takeReply hst).trans flight) _ ticket]
    exact congrArg (fun t : State => Host.Outcome.next t.close) (endExchange_waiting
      (s := (s.takeReply st).onLink st fun l => { l with access := none }) (p := p) hp he ..)

end Sys2Proof.Machine
end

section
/-! PROOFS. Changes of link state (R169, R170): what a link keeps when it leaves LOCKED, and what the blocks told do of it. -/

namespace Sys2Proof.Machine

theorem link_of_links {s t : State} (h : t.links = s.links) (st : Nat) : t.link st = s.link st := by
  rw [State.link, h, State.link]

@[simp] theorem link_notify (s : State) (n : Notice) (st : Nat) : (s.notify n).link st = s.link st :=
  link_of_links (State.notify_links ..) st

theorem onLink_same {s : State} {st : Nat} {f : Link → Link} (h : f (s.link st) = s.link st) : s.onLink st f = s := by
  have kept : s.links.set st (f (s.link st)) = s.links := by
    rw [h, State.link]
    refine List.ext_getElem (by simp) fun i _ hi => ?_
    rw [List.getElem_set]
    split
    · next same => subst same; simp [hi]
    · rfl
  unfold State.onLink
  rw [kept]

theorem lasting_onLink_congr (s : State) (st : Nat) {f g : Link → Link} (h : (f (s.link st)).lasting = (g (s.link st)).lasting) :
    (s.onLink st f).lasting = (s.onLink st g).lasting := by
  simp only [State.lasting, State.onLink, List.map_set, h]

/-! ### A change of state -/

theorem changeLink_onLink {s : State} {st : Nat} (h : st < s.links.length) (f : Link → Link) (new : LinkState) (cause : LinkCause) :
    (s.onLink st f).changeLink st new cause =
      (s.onLink st fun l => { f l with state := new, settle := none }).notify (.linkState st (f (s.link st)).state new cause) := by
  rw [State.changeLink, onLink_onLink h, link_onLink h]

/-- The link takes a new state, its settle, its reply timer and its traffic gone, with the notice (R169, R170). -/
def State.cut (st : Nat) (new : LinkState) (cause : LinkCause) (s : State) : State :=
  (s.onLink st fun l => { l with state := new, settle := none, queue := [], outstanding := none }).notify
    (.linkState st (s.link st).state new cause)

section
variable {s : State} {st : Nat} (h : st < s.links.length) (new : LinkState) (cause : LinkCause)
include h

theorem link_cut : (s.cut st new cause).link st = { s.link st with state := new, settle := none, queue := [], outstanding := none } := by
  rw [State.cut, link_notify, link_onLink h]

theorem leaveLocked_eq (result : AccessResult) :
    s.leaveLocked st new cause result = ((s.cut st new cause).endAccess st result).tellLost st := by
  have cut : (s.changeLink st new cause).onLink st Link.clearTraffic = s.cut st new cause := by
    rw [State.changeLink, notify_onLink, onLink_onLink h]
    rfl
  rw [State.leaveLocked, cut]

/-! ### The end of a bridged access -/

omit h in
theorem endAccess_none (result : AccessResult) (free : (s.link st).access = none) : s.endAccess st result = s := by
  simp only [State.endAccess, free]

omit h in
theorem endAccess_links (result : AccessResult) : (s.endAccess st result).links = (s.onLink st fun l => { l with access := none }).links := by
  cases ha : (s.link st).access with
  | none =>
    rw [endAccess_none result ha, onLink_same]
    exact congrArg (fun a => { s.link st with access := a }) ha.symm
  | some a =>
    cases ht : a.ticket with
    | none => rw [endAccess_held ha result ht, State.endExchange_links]
    | some t => rw [endAccess_ticket ha result ht, State.notify_links]

theorem link_endAccess (result : AccessResult) : (s.endAccess st result).link st = { s.link st with access := none } := by
  rw [link_of_links (endAccess_links result), link_onLink h]

end

theorem lasting_endExchange (s : State) (e : Exchange) (r : Result) (b : ReplyBody) (line : HostLine) :
    ({ (s.endExchange e r b).lasting with line := line } : State) = { s.lasting with line := line } := by
  unfold State.endExchange State.formReply
  (repeat' split) <;> rfl

/-- Of what lasts, the end of an access changes the link and a reply (R175 to R177). -/
theorem lasting_endAccess (s : State) (st : Nat) (result : AccessResult) (line : HostLine) :
    ({ (s.endAccess st result).lasting with line := line } : State) =
      { (s.onLink st fun l => { l with access := none }).lasting with line := line } := by
  cases ha : (s.link st).access with
  | none =>
    rw [endAccess_none result ha, onLink_same]
    exact congrArg (fun a => { s.link st with access := a }) ha.symm
  | some a =>
    cases ht : a.ticket with
    | none => rw [endAccess_held ha result ht, lasting_endExchange]
    | some t => rw [endAccess_ticket ha result ht, lasting_notify]

/-! ### The blocks told of the loss -/

theorem interrupt_links (s : State) (k w : Nat) : (s.interrupt k w).links = s.links := by
  unfold State.interrupt State.joinAudit
  split
  · split <;> simp
  · rfl

theorem goOffline_links (s : State) (k : Nat) (f : Carousel → Carousel) :
    ((s.windowsOf k).foldl (fun s w => s.interrupt k w) (s.onCarousel k f)).links = s.links := by
  rw [foldl_view (view := State.links) fun t w => interrupt_links t k w, State.onCarousel_links]

theorem enterFault_links (s : State) (k : Nat) (reason : MoveFaultReason) : (s.enterFault k reason).links = s.links := by
  unfold State.enterFault
  split <;> simp

/-- A query is abandoned where no traffic waits: the link stays as it is (R101). -/
theorem abandonQuery_eq {s : State} {k : Nat} (queue : (s.link k).queue = []) (outstanding : (s.link k).outstanding = none) :
    s.abandonQuery k = s.onCarousel k fun c => { c with query := none } := by
  refine onLink_same ?_
  rw [link_of_links (State.onCarousel_links ..), Link.abandonQuery, queue, outstanding]
  exact congr (congrArg (fun q o => { s.link k with queue := q, outstanding := o }) queue.symm) outstanding.symm

theorem carouselLinkLost_links {s : State} {k : Nat} (queue : (s.link k).queue = []) (outstanding : (s.link k).outstanding = none) :
    (s.carouselLinkLost k).links = s.links := by
  have abandoned : (s.abandonQuery k).links = s.links := by rw [abandonQuery_eq queue outstanding, State.onCarousel_links]
  unfold State.carouselLinkLost
  split <;> simp only [enterFault_links, goOffline_links, abandoned]

theorem mergeLinkLost_links (s : State) : s.mergeLinkLost.links = s.links := by
  unfold State.mergeLinkLost
  (repeat' split) <;> rfl

theorem link_tellLost {s : State} {st : Nat} (queue : (s.link st).queue = []) (outstanding : (s.link st).outstanding = none) :
    (s.tellLost st).link st = s.link st := by
  unfold State.tellLost
  split
  · exact link_of_links (mergeLinkLost_links s) st
  · exact link_of_links (carouselLinkLost_links queue outstanding) st

theorem lasting_mergeLinkLost (s : State) (m : Merge) :
    ({ s.mergeLinkLost.lasting with merge := m } : State) = { s.lasting with merge := m } := by
  unfold State.mergeLinkLost
  (repeat' split) <;> rfl

theorem lasting_tellLost (s : State) (st : Nat) (m : Merge) :
    ({ (s.tellLost st).lasting with merge := m } : State) = { s.lasting with merge := m } := by
  unfold State.tellLost
  split
  · exact lasting_mergeLinkLost s m
  · rw [lasting_carouselLinkLost]

/-! ### The loss of LOCKED -/

section
variable {s : State} {st : Nat} (h : st < s.links.length) (new : LinkState) (cause : LinkCause) (result : AccessResult)
include h

theorem link_leaveLocked : (s.leaveLocked st new cause result).link st =
    { s.link st with state := new, settle := none, queue := [], outstanding := none, access := none } := by
  have cut : st < (s.cut st new cause).links.length := by simp [State.cut, h]
  have ended : ((s.cut st new cause).endAccess st result).link st =
      { s.link st with state := new, settle := none, queue := [], outstanding := none, access := none } := by
    rw [link_endAccess cut, link_cut h]
  rw [leaveLocked_eq h, link_tellLost (by rw [ended]) (by rw [ended]), ended]

/-- Of what lasts beside the link, its loss changes the line and the merge record (R170). -/
theorem lasting_leaveLocked (line : HostLine) (m : Merge) :
    ({ (s.leaveLocked st new cause result).lasting with merge := m, line := line } : State) =
      { (s.onLink st fun l => { l with state := new, settle := none, access := none }).lasting with merge := m, line := line } := by
  have told := congrArg (fun t : State => { t with line := line })
    (lasting_tellLost ((s.cut st new cause).endAccess st result) st m)
  have ended := congrArg (fun t : State => { t with merge := m }) (lasting_endAccess (s.cut st new cause) st result line)
  have cut : ((s.cut st new cause).onLink st fun l => { l with access := none }).lasting =
      (s.onLink st fun l => { l with state := new, settle := none, access := none }).lasting := by
    rw [State.cut, notify_onLink, onLink_onLink h, lasting_notify]
    exact lasting_onLink_congr s st rfl
  rw [cut] at ended
  rw [leaveLocked_eq h]
  exact told.trans ended

end

end Sys2Proof.Machine
end

section
/-! PROOFS. The reply timer and the loss of LOCKED (O57). -/

namespace Sys2Proof.Machine

/-! ### The reply timer (R172) -/

/-- The end of a pattern test at a link, its record ended by `f` (R182). -/
theorem endTest_eq {s : State} {st : Nat} (h : st < s.links.length) (f : TestRecord → TestRecord) :
    s.endTest st f = (s.onLink st fun l => { l with
      state := .training, settle := none, queue := [], outstanding := none,
      test := l.test.map fun t => f { t with running := false, failUntil := none, wordExpiry := none } }).notify
        (.linkState st (s.link st).state .training .testEnd) := by
  rw [State.endTest, State.onTest, onLink_onLink h, changeLink_onLink h]
  rfl

theorem noAnswer_eq (t : TestRecord) : t.noAnswer = { t with result := if t.dir = .outbound then .noResponse else t.result } := by
  unfold TestRecord.noAnswer
  split <;> rfl

section
variable {s : State} {st : Nat} {o : Outstanding} (ho : (s.link st).outstanding = some o)
include ho

theorem replyExpiry_again (few : o.sends < 3) : s.replyExpiry st = (s.reachTime o.expiry).sendAgain st o := by
  simp only [State.replyExpiry, ho]
  exact if_pos few

theorem replyExpiry_third (third : 3 ≤ o.sends) : s.replyExpiry st = (s.reachTime o.expiry).thirdUnanswered st o := by
  simp only [State.replyExpiry, ho]
  exact if_neg (Nat.not_lt.mpr third)

theorem answers_self : s.answers st o.number = some o.command := by
  simp only [State.answers, ho, if_true]

theorem answers_other {n : Nat} (hn : n ≠ o.number) : s.answers st n = none := by
  simp only [State.answers, ho]
  exact if_neg hn.symm

end

theorem acked_none {s : State} {st n : Nat} (h : s.answers st n = none) : s.acked st n = s := by
  simp only [State.acked, h]

theorem acked_plain {s : State} {st n : Nat} {c : Command} (h : s.answers st n = some c)
    (plain : (∃ p d v, c = .move p d v) ∨ c = .halt ∨ ∃ t w n, c = .divert t w n) : s.acked st n = s.takeReply st := by
  rcases plain with ⟨p, d, v, rfl⟩ | rfl | ⟨t, w, n, rfl⟩ <;> simp only [State.acked, h]

/-! ### What the motion controller and the merge arbiter do of a lost link (R101, R146) -/

section
variable {s : State} {k : Nat} {c : Carousel} (hc : s.carousel? k = some c)
include hc

theorem carouselState_eq : s.carouselState k = some c.state := by rw [State.carouselState, hc, Option.map_some]

theorem carouselLinkLost_moving (moves : c.state = .moving ∨ c.state = .stopping ∨ c.state = .suspended) :
    s.carouselLinkLost k = s.enterFault k .link := by
  unfold State.carouselLinkLost
  rw [carouselState_eq hc]
  rcases moves with h | h | h <;> rw [h]

theorem carouselLinkLost_standing {r : Resume} (stands : (c.state = .idle ∧ r = .idle) ∨ (c.state = .presenting ∧ r = .presenting) ∨
    (c.state = .held ∧ r = .held)) : s.carouselLinkLost k =
      (s.windowsOf k).foldl (fun s w => s.interrupt k w) (s.setCarousel k { c with state := .offline, resume := some r }) := by
  unfold State.carouselLinkLost
  rw [carouselState_eq hc]
  rcases stands with ⟨h, rfl⟩ | ⟨h, rfl⟩ | ⟨h, rfl⟩ <;> simp only [h, State.onCarousel_eq hc]

theorem carouselLinkLost_out (out : c.state = .offline ∨ c.state = .fault) : s.carouselLinkLost k = s.abandonQuery k := by
  unfold State.carouselLinkLost
  rw [carouselState_eq hc]
  rcases out with h | h <;> rw [h]

end

theorem mergeLinkLost_flight {s : State} {t : Transfer} (ht : s.merge.transfer = some t) (running : s.merge.state = .running) :
    s.mergeLinkLost = { s with merge := { s.merge with transfer := some { t with deadline := none, linkLost := true } } } := by
  simp only [State.mergeLinkLost, ht, if_pos running]

theorem mergeLinkLost_keeps {s : State} (h : s.merge.transfer = none ∨ s.merge.state ≠ .running) : s.mergeLinkLost = s := by
  unfold State.mergeLinkLost
  split
  · next t ht => rw [if_neg (h.resolve_left (by simp [ht]))]
  · rfl

/-- Settles O57. -/
theorem commandsAreSentThriceAndALossClearsTheLink : Obligations.CommandsAreSentThriceAndALossClearsTheLink := by
  refine ⟨fun s st o hst ho => ⟨fun few => ?again, fun third notStart notStop => ?lost, ⟨fun d third start => ?started, fun third stop => ?stopped⟩,
    fun plain => ?acked, fun n hn => ?ignored⟩, fun s st new cause result hst => ?leaves, fun s k c hc => ⟨fun moves => ?moving, fun stands => ?standing,
    fun out => carouselLinkLost_out hc out⟩, fun s => ⟨fun t ht running => mergeLinkLost_flight ht running, mergeLinkLost_keeps⟩⟩
  case again =>
    show Host.Outcome.next (s.replyExpiry st).close = _
    rw [replyExpiry_again ho few]
    rfl
  case lost =>
    show Host.Outcome.next (s.replyExpiry st).close = _
    rw [replyExpiry_third ho third, State.thirdUnanswered]
    cases hcmd : o.command with
    | testStart d => exact absurd hcmd (notStart d)
    | testStop => exact absurd hcmd notStop
    | _ => rfl
  case started =>
    show Host.Outcome.next (s.replyExpiry st).close = _
    have reached : st < (s.reachTime o.expiry).links.length := by rw [State.reachTime_links_length]; exact hst
    rw [replyExpiry_third ho third, State.thirdUnanswered, start]
    simp only [State.testStartUnanswered, endTest_eq reached, reachTime_link_state, noAnswer_eq, Bool.or_true]
  case stopped =>
    show Host.Outcome.next (s.replyExpiry st).close = _
    have reached : st < (s.reachTime o.expiry).links.length := by rw [State.reachTime_links_length]; exact hst
    rw [replyExpiry_third ho third, State.thirdUnanswered, stop]
    simp only [endTest_eq reached, reachTime_link_state, Bool.or_false]
    simp only [noAnswer_eq]
  case acked =>
    show Host.Outcome.next (s.acked st o.number).close = _
    rw [acked_plain (answers_self ho) plain]
    rfl
  case ignored =>
    show Host.Outcome.next (s.acked st n).close = _
    rw [acked_none (answers_other ho hn)]
  case leaves =>
    have link := link_leaveLocked hst new cause result
    refine ⟨by rw [link], by rw [link], by rw [link], by rw [link], by rw [link], by rw [link], ?_, ?_⟩
    · exact lasting_leaveLocked hst new cause result s.lasting.line s.merge
    · exact leaveLocked_eq hst new cause result
  case moving =>
    rw [carouselLinkLost_moving hc moves, enterFault_eq hc]
  case standing =>
    refine carouselLinkLost_standing hc ?_
    rcases stands with h | h | h <;> simp [h]

end Sys2Proof.Machine
end

section
/-! PROOFS. The presence lines, the lock reports and the link settle (O56). -/

namespace Sys2Proof.Machine

/-! ### What is left of a link at the close of an event -/

theorem link_close (s : State) (st : Nat) : s.close.link st = s.link st := by
  rw [State.close, link_of_links (State.transmit_links ..), link_refresh]

/-! ### Presence (R169, R182) -/

section
variable {s : State} {st : Nat} (h : st < s.links.length)
include h

theorem presenceActive_down (down : (s.link st).state = .down) : s.presenceActive st =
    (s.onLink st fun l => { l with present := true, state := .training, settle := none }).notify
      (.linkState st .down .training .presence) := by
  rw [State.presenceActive, link_onLink h, if_pos down, changeLink_onLink h, down]

theorem presenceActive_up (up : (s.link st).state ≠ .down) : s.presenceActive st = s.onLink st fun l => { l with present := true } := by
  rw [State.presenceActive, link_onLink h, if_neg up]

theorem presenceInactive_down (down : (s.link st).state = .down) :
    s.presenceInactive st = s.onLink st fun l => { l with present := false } := by
  simp only [State.presenceInactive, link_onLink h, down]

theorem presenceInactive_training (training : (s.link st).state = .training) : s.presenceInactive st =
    (s.onLink st fun l => { l with present := false, state := .down, settle := none }).notify
      (.linkState st .training .down .presence) := by
  simp only [State.presenceInactive, link_onLink h, training]
  rw [changeLink_onLink h, training]

theorem presenceInactive_locked (locked : (s.link st).state = .locked) : s.presenceInactive st =
    (s.onLink st fun l => { l with present := false }).leaveLocked st .down .presence .linkLost := by
  simp only [State.presenceInactive, link_onLink h, locked]

/-- The link of an aborted test (R182). -/
def State.aborted (st : Nat) (s : State) : State :=
  (s.onLink st fun l => { l with
    present := false, state := .down, settle := none, queue := [], outstanding := none,
    test := l.test.map fun t => { t with
      running := false, failUntil := none, wordExpiry := none, aborted := true,
      result := if t.dir = .outbound then .noResponse else t.result } }).notify
    (.linkState st .testing .down .presence)

theorem presenceInactive_testing (testing : (s.link st).state = .testing) : s.presenceInactive st =
    ((s.aborted st).endExchange (.testStart st) .linkDown .none).replyTestStop st := by
  simp only [State.presenceInactive, link_onLink h, testing, State.abortTest]
  rw [State.onTest, onLink_onLink h, onLink_onLink h, changeLink_onLink h]
  simp only [Link.clearTraffic, testing, TestRecord.halt, noAnswer_eq]
  rfl

/-- Whatever state the link was in, it is DOWN with its line inactive (R169). -/
theorem link_presenceInactive : ((s.presenceInactive st).link st).present = false ∧ ((s.presenceInactive st).link st).state = .down := by
  have off : st < (s.onLink st fun l => { l with present := false }).links.length := by simp [h]
  cases state : (s.link st).state with
  | down =>
    rw [presenceInactive_down h state, link_onLink h]
    exact ⟨rfl, state⟩
  | training =>
    rw [presenceInactive_training h state, link_notify, link_onLink h]
    exact ⟨rfl, rfl⟩
  | locked =>
    rw [presenceInactive_locked h state, link_leaveLocked off, link_onLink h]
    exact ⟨rfl, rfl⟩
  | testing =>
    have kept : (s.presenceInactive st).links = (s.aborted st).links := by
      rw [presenceInactive_testing h state, State.replyTestStop, State.endExchange_links, State.endExchange_links]
    rw [link_of_links kept, State.aborted, link_notify, link_onLink h]
    exact ⟨rfl, rfl⟩

/-! ### LOCK (R169, R170) -/

/-- The link of a lock report taken: LOCKED, its settle running (R169, R171). -/
def State.lockedLink (st : Nat) (s : State) : State := s.onLink st fun l => { l with state := .locked, settle := some (s.now + ms 100) }

theorem lockReport_training (training : (s.link st).state = .training) : s.lockReport st =
    ((s.lockedLink st).notify (.linkState st .training .locked .lock)).tellLocked st := by
  rw [State.lockReport, if_pos training, State.changeLink, notify_onLink, onLink_onLink h, training]
  rfl

omit h in
theorem lockReport_other (other : (s.link st).state ≠ .training) : s.lockReport st = s := if_neg other

end

theorem lasting_expireAttempt (s : State) (cause : StopCause) (t : Transfer) (m : Merge) :
    ({ (s.expireAttempt cause t).lasting with merge := m } : State) = { s.lasting with merge := m } := by
  unfold State.expireAttempt State.divert State.stopMerge
  split
  · rw [lasting_handOver]
    rfl
  · rw [lasting_notify]
    rfl

theorem lasting_mergeLinkRegained (s : State) (m : Merge) :
    ({ s.mergeLinkRegained.lasting with merge := m } : State) = { s.lasting with merge := m } := by
  unfold State.mergeLinkRegained
  (repeat' split)
  · exact lasting_expireAttempt s _ _ m
  · exact lasting_testGrant s m
  · exact lasting_testGrant s m

theorem lasting_tellLocked (s : State) (st : Nat) (m : Merge) :
    ({ (s.tellLocked st).lasting with merge := m } : State) = { s.lasting with merge := m } := by
  unfold State.tellLocked
  split
  · exact lasting_mergeLinkRegained s m
  · rw [lasting_learnPosition]

theorem merge_lasting (s : State) : s.lasting.merge = s.merge := rfl

theorem merge_of_lasting {s t : State} (h : t.lasting = s.lasting) : t.merge = s.merge := by
  rw [← merge_lasting, h, merge_lasting]

/-! ### What the blocks told do of it (R102, R146) -/

section
variable {s : State} {k : Nat} {c : Carousel} (hc : s.carousel? k = some c)
include hc

theorem learnPosition_asks (mode : s.mode ≠ .config) (offline : c.state = .offline) (query : c.query = none)
    (locked : s.locked k = true) : s.learnPosition k =
      (s.setCarousel k { c with query := some (if c.known then .return else .start) }).onLink k (Link.handOver s.now (.position true)) := by
  simp only [State.learnPosition, hc, if_pos (show s.mode ≠ .config ∧ c.state = .offline ∧ c.query = none ∧ s.locked k = true from
    ⟨mode, offline, query, locked⟩), State.sendPosition, State.onCarousel_eq hc]
  rfl

theorem learnPosition_keeps (h : s.mode = .config ∨ c.state ≠ .offline ∨ c.query ≠ none ∨ s.locked k = false) :
    s.learnPosition k = s := by
  have idle : ¬(s.mode ≠ .config ∧ c.state = .offline ∧ c.query = none ∧ s.locked k = true) := by
    rintro ⟨mode, offline, query, locked⟩
    rcases h with h | h | h | h
    · exact mode h
    · exact h offline
    · exact h query
    · simp [h] at locked
  simp only [State.learnPosition, hc, if_neg idle]

end

theorem mergeLinkRegained_struck {s : State} {t : Transfer} (ht : s.merge.transfer = some t) (lost : t.linkLost = true) :
    s.mergeLinkRegained = s.expireAttempt .link t := by
  simp only [State.mergeLinkRegained, ht, lost, if_true]

theorem mergeLinkRegained_tests {s : State} (h : ∀ t, s.merge.transfer = some t → t.linkLost = false) :
    s.mergeLinkRegained = s.testGrant := by
  unfold State.mergeLinkRegained
  split
  · next t ht => rw [h t ht]; rfl
  · rfl

/-- Settles O56. -/
theorem presenceAndLockChangeTheLink : Obligations.PresenceAndLockChangeTheLink := by
  refine ⟨fun s st station h => ⟨fun down => ?rises, fun up => ?present, fun down => ?absent, fun training => ?falls, fun locked => ?unlocks,
    fun testing => ?aborts, ?gone⟩, fun s st station h => ⟨?locks, fun training => ?lasts, fun other => ?ignored, fun e settle => ?settles⟩,
    fun s k c hc => ⟨learnPosition_asks hc, learnPosition_keeps hc⟩, fun s => ⟨fun t => mergeLinkRegained_struck, mergeLinkRegained_tests⟩⟩
  case rises =>
    refine congrArg Host.Outcome.next ((if_pos station).trans ?_)
    rw [presenceActive_down h down]
  case present =>
    refine congrArg Host.Outcome.next ((if_pos station).trans ?_)
    rw [presenceActive_up h up]
  case absent =>
    refine congrArg Host.Outcome.next ((if_pos station).trans ?_)
    rw [presenceInactive_down h down]
  case falls =>
    refine congrArg Host.Outcome.next ((if_pos station).trans ?_)
    rw [presenceInactive_training h training]
  case unlocks =>
    refine congrArg Host.Outcome.next ((if_pos station).trans ?_)
    rw [presenceInactive_locked h locked]
  case aborts =>
    refine congrArg Host.Outcome.next ((if_pos station).trans ?_)
    rw [presenceInactive_testing h testing]
    rfl
  case gone =>
    refine ⟨_, congrArg Host.Outcome.next (if_pos station), ?_⟩
    rw [link_close]
    exact link_presenceInactive h
  case locks =>
    intro training s1
    refine congrArg Host.Outcome.next ((if_pos station).trans ?_)
    rw [lockReport_training h training]
    rfl
  case lasts =>
    refine ⟨(s.lockReport st).refresh, congrArg Host.Outcome.next (if_pos station), ?_, fun other => ?_⟩
    · rw [lasting_refresh, lockReport_training h training, lasting_tellLocked, lasting_notify]
      rfl
    · rw [merge_of_lasting (lasting_refresh _), lockReport_training h training, State.tellLocked]
      refine (congrArg State.merge (if_neg other)).trans ?_
      rw [merge_of_lasting (lasting_learnPosition ..), State.notify_merge]
      rfl
  case ignored =>
    refine congrArg Host.Outcome.next ((if_pos station).trans ?_)
    rw [lockReport_other other]
  case settles =>
    refine congrArg Host.Outcome.next ?_
    simp only [State.linkSettled, settle]

end Sys2Proof.Machine
end

section
/-! PROOFS. Answers of stations and the words of a pattern test (O58). -/

namespace Sys2Proof.Machine

theorem onLink_test_congr {s : State} {st : Nat} {f g : TestRecord → TestRecord}
    (h : (s.link st).test.map f = (s.link st).test.map g) : s.onTest st f = s.onTest st g :=
  onLink_congr (congrArg (fun t => { s.link st with test := t }) h)

theorem onTest_of_test {s : State} {st : Nat} {t : TestRecord} (ht : (s.link st).test = some t) (f : TestRecord → TestRecord) :
    s.onTest st f = s.onLink st fun l => { l with test := some (f t) } :=
  onLink_congr (congrArg (fun t => { s.link st with test := t }) (by rw [ht, Option.map_some]))

theorem test_takeReply {s : State} {st : Nat} (h : st < s.links.length) : ((s.takeReply st).link st).test = (s.link st).test := by
  rw [State.takeReply, link_onLink h]
  exact (congrArg Link.test (lasting_link_sendHead s.now { s.link st with outstanding := none }) :)

/-! ### ACK and the replies to TEST_STOP (R154, R179, R182) -/

theorem begin_eq (now : Time) (t : TestRecord) : t.begin now =
    { t with starting := false, running := true, wordExpiry := if t.dir = .inbound then some (now + ms 100) else none } := by
  unfold TestRecord.begin
  cases t.dir <;> rfl

theorem answered_eq (v : TestVerdict) (errors : Nat) (t : TestRecord) : t.answered v errors =
    { t with errors := errors, result := if v = .pass then .pass else .fail } := by
  cases v <;> rfl

section
variable {s : State} {st number : Nat} {t : TestRecord}

theorem acked_channel {w i : Nat} (answers : s.answers st number = some (.channel w i)) :
    s.acked st number = (s.takeReply st).channelAcked w i := by
  simp only [State.acked, answers]

/-- The settle timer starts at the acknowledged channel (R154). -/
theorem channelAcked_eq {s : State} {w i : Nat} {m : Measurement} (hm : (s.window w).measurement = some m) (channel : m.phase = .channel)
    (hi : m.position = i) : s.channelAcked w i = s.onWindow w fun v =>
      { v with measurement := some { m with phase := .settle (s.now + ms s.settings.settleTime) } } := by
  rw [State.channelAcked, State.onMeasurement]
  refine onWindow_congr ?_
  rw [hm, Option.map_some, if_pos ⟨channel, hi⟩]

theorem acked_testStart {d : TestDir} (answers : s.answers st number = some (.testStart d)) : s.acked st number =
    ((s.takeReply st).onTest st (TestRecord.begin s.now)).endExchange (.testStart st) .ok .none := by
  simp only [State.acked, answers]

variable (answers : s.answers st number = some .testStop) (ht : (s.link st).test = some t)
include answers ht

theorem acked_testStop (inbound : t.dir = .inbound) : s.acked st number = (s.endTest st id).replyTestStop st := by
  have dir : s.testDir st = some .inbound := by rw [State.testDir, ht, Option.map_some, inbound]
  simp only [State.acked, answers, if_pos dir]

theorem testStopReply_inbound (inbound : t.dir = .inbound) : s.testStopReply st number none = (s.endTest st id).replyTestStop st := by
  have dir : s.testDir st = some .inbound := by rw [State.testDir, ht, Option.map_some, inbound]
  simp only [State.testStopReply, answers, dir]

theorem testStopReply_outbound (outbound : t.dir = .outbound) (v : TestVerdict) (errors : Nat) :
    s.testStopReply st number (some (v, errors)) = (s.endTest st (TestRecord.answered v errors)).replyTestStop st := by
  have dir : s.testDir st = some .outbound := by rw [State.testDir, ht, Option.map_some, outbound]
  simp only [State.testStopReply, answers, dir]

end

/-- The link of an ended test at the close of the event that ends it (R182). -/
theorem link_endTest_close {s : State} {st : Nat} (h : st < s.links.length) (f : TestRecord → TestRecord) :
    ((s.endTest st f).replyTestStop st).close.link st = { s.link st with
      state := .training, settle := none, queue := [], outstanding := none,
      test := (s.link st).test.map fun t => f { t with running := false, failUntil := none, wordExpiry := none } } := by
  rw [link_close, State.replyTestStop, link_of_links (State.endExchange_links ..), endTest_eq h, link_notify, link_onLink h]

/-! ### The pattern (R180) -/

theorem countError_eq (now : Time) (t : TestRecord) : t.countError now =
    { t with errors := if t.errors < 65535 then t.errors + 1 else t.errors, result := .fail,
             failUntil := if t.latch = .live then some (now + ms 100) else none } := by
  unfold TestRecord.countError
  cases t.latch <;> rfl

theorem receive_eq {t : TestRecord} (running : t.running = true) (inbound : t.dir = .inbound) (now : Time) (word : Nat) :
    t.receive now word =
      if word = Config.testWord t.wordIndex then { t with wordExpiry := some (now + ms 100), wordIndex := t.wordIndex + 1 }
      else TestRecord.countError now { t with wordExpiry := some (now + ms 100), wordIndex := t.wordIndex + 1 } := by
  rw [TestRecord.receive, if_pos ⟨running, inbound⟩]
  rfl

theorem onTest_testing {s : State} {st : Nat} {t : TestRecord} (ht : (s.link st).test = some t) (running : t.running = true)
    (inbound : t.dir = .inbound) (word : Nat) : s.onTest st (TestRecord.receive s.now word) = s.onLink st fun l => { l with
      test := some (if word = Config.testWord t.wordIndex then { t with wordExpiry := some (s.now + ms 100), wordIndex := t.wordIndex + 1 }
        else TestRecord.countError s.now { t with wordExpiry := some (s.now + ms 100), wordIndex := t.wordIndex + 1 }) } := by
  rw [onTest_of_test ht, receive_eq running inbound]

/-- Time alone changes the result of a LIVE test and its return to PASS (R180). -/
theorem test_reachTime {s : State} {st : Nat} {t : TestRecord} (ht : (s.link st).test = some t) (e : Time) :
    ∃ r f, ((s.reachTime e).link st).test = some { t with result := r, failUntil := f } := by
  have later : ∃ r f, TestRecord.atTime e t = { t with result := r, failUntil := f } := by
    unfold TestRecord.atTime
    (repeat' split) <;> exact ⟨_, _, rfl⟩
  unfold State.reachTime
  split
  · exact ⟨_, _, ht⟩
  · obtain ⟨r, f, at_⟩ := later
    refine ⟨r, f, ?_⟩
    have read : ((s.atTime e).link st).test = (s.link st).test.map (TestRecord.atTime e) := by
      unfold State.atTime State.link
      simp only [List.getD_eq_getElem?_getD, List.getElem?_map]
      cases s.links[st]? <;> rfl
    rw [read, ht, Option.map_some, at_]

theorem testSilence_eq {s : State} {st : Nat} {t : TestRecord} (ht : (s.link st).test = some t) {e : Time}
    (awaits : t.wordExpiry = some e) : s.testSilence st = (s.reachTime e).onLink st fun l => { l with
      test := some (TestRecord.countError (s.reachTime e).now { t with wordExpiry := some (e + ms 100) }) } := by
  obtain ⟨r, f, reached⟩ := test_reachTime ht e
  simp only [State.testSilence, ht, Option.bind_some, awaits]
  rw [onTest_of_test reached]
  simp only [countError_eq]
  rfl

/-- Settles O58. -/
theorem stationAnswersAndTestWords : Obligations.StationAnswersAndTestWords := by
  refine ⟨fun s st number h => ⟨fun w i m answers hw hm channel hi => ?channel, fun d t p answers ht hp he => ?begins,
      fun t answers ht inbound => ?inbound, fun t v errors answers ht outbound => ?outbound⟩,
    fun s st => ⟨fun p hp he => endExchange_waiting hp he .., fun other => endExchange_other other ..⟩,
    fun s st t h ht running inbound => ⟨fun word => ?word, fun e awaits => ?silence⟩⟩
  case channel =>
    show Host.Outcome.next (s.acked st number).close = _
    rw [acked_channel answers, channelAcked_eq (s := s.takeReply st) hm channel hi]
    rfl
  case begins =>
    show Host.Outcome.next (s.acked st number).close = _
    rw [acked_testStart answers, onTest_of_test ((test_takeReply h).trans ht), begin_eq]
    exact congrArg (fun t : State => Host.Outcome.next t.close) (endExchange_waiting
      (s := (s.takeReply st).onLink st _) (p := p) hp he ..)
  case inbound =>
    have acks : exec (.ack st number) s = .next ((s.endTest st id).replyTestStop st).close :=
      congrArg (fun t : State => Host.Outcome.next t.close) (acked_testStop answers ht inbound)
    refine ⟨Eq.trans ?_ acks.symm, acks.trans ?_, _, acks, ?_⟩
    · exact congrArg (fun t : State => Host.Outcome.next t.close) (testStopReply_inbound answers ht inbound)
    · rw [endTest_eq h]
      rfl
    · rw [link_endTest_close h, ht]
      exact ⟨rfl, rfl, rfl⟩
  case outbound =>
    have replies : exec (.testStopReply st number (some (v, errors))) s =
        .next ((s.endTest st (TestRecord.answered v errors)).replyTestStop st).close :=
      congrArg (fun t : State => Host.Outcome.next t.close) (testStopReply_outbound answers ht outbound v errors)
    refine ⟨replies.trans ?_, _, replies, ?_⟩
    · rw [endTest_eq h]
      simp only [answered_eq]
    · rw [link_endTest_close h, ht]
      exact ⟨rfl, rfl, congrArg some (answered_eq ..)⟩
  case word =>
    show Host.Outcome.next (s.onTest st (TestRecord.receive s.now word)) = _
    rw [onTest_testing ht running inbound, countError_eq]
  case silence =>
    show Host.Outcome.next (s.testSilence st) = _
    rw [testSilence_eq ht awaits, countError_eq]

end Sys2Proof.Machine
end

section
/-! PROOFS. Pattern tests started, stopped and reported (O55). -/

namespace Sys2Proof.Machine

theorem getLink_reports {s : State} {st : Nat} (hst : st ≤ 4) : getLink st s = .reply s .ok (.link (s.linkReport st)) :=
  if_neg (Nat.not_lt.mpr hst)

theorem linkTestStop_waits {s : State} {st : Nat} (hst : st ≤ 4) (testing : (s.link st).state = .testing) :
    linkTestStop st s = .wait ((s.onTest st TestRecord.halt).onLink st (Link.send s.now .testStop)) (.testStop st) := by
  simp only [linkTestStop, if_neg (Nat.not_lt.mpr hst), testing, ne_eq, not_true_eq_false, if_false]

section
variable {s : State} {st : Nat} {dir : TestDir} {latch : Latch}

theorem state_of_locked (locked : s.locked st = true) : (s.link st).state = .locked := of_decide_eq_true locked

theorem linkTestStart_waits (hst : st ≤ 4) (fields : ¬(dir = .outbound ∧ latch = .live)) (locked : s.locked st = true)
    (calm : s.testWouldDisturb st = false) :
    linkTestStart st (some dir) (some latch) s = .wait (s.startTest st dir latch).refresh (.testStart st) := by
  have station : ¬(4 < st ∨ dir = .outbound ∧ latch = .live) := by
    rintro (h | h)
    exacts [absurd h (Nat.not_lt.mpr hst), fields h]
  simp only [linkTestStart, if_neg station, state_of_locked locked, locked, calm, reduceCtorEq, if_false, Bool.not_true, Bool.false_eq_true]

/-- A test disturbs nothing: no access is in flight, no transfer, and the carousel is IDLE or OFFLINE (R179). -/
theorem calm_iff : s.testWouldDisturb st = false ↔ (s.link st).access = none ∧ (st = 4 → s.merge.transfer = none) ∧
    (st ≠ 4 → ∀ c, s.carousel? st = some c → c.state = .idle ∨ c.state = .offline) := by
  unfold State.testWouldDisturb
  by_cases lane : st = 4
  · subst lane
    simp [laneModule, and_comm]
  · have other : ¬st = laneModule := lane
    cases hc : s.carousel? st with
    | none => simp [other, lane]
    | some c => cases hs : c.state <;> simp [other, lane, hs]

end

/-! ### The start of a test (R179) -/

/-- The link in test with its fresh record and its traffic gone, the change told (R169, R179). -/
def State.testCut (st : Nat) (t : TestRecord) (s : State) : State :=
  (s.onLink st fun l => { l with state := .testing, settle := none, queue := [], outstanding := none, test := some t }).notify
    (.linkState st .locked .testing .testStart)

theorem now_tellLost (s : State) (st : Nat) : (s.tellLost st).now = s.now := by
  have told := congrArg (fun t : State => t.now) (lasting_tellLost s st s.merge)
  generalize s.tellLost st = t at told
  exact told

theorem atStart_eq (dir : TestDir) (latch : Latch) : TestRecord.atStart dir latch =
    { dir := dir, latch := latch, errors := 0, result := if dir = .inbound then .pass else .pending, starting := true,
      unanswered := false, aborted := false, running := false, failUntil := none, wordExpiry := none, wordIndex := 0 } := by
  cases dir <;> rfl

section
variable {s : State} {st : Nat} (h : st < s.links.length) (t : TestRecord)
include h

theorem link_testCut : (s.testCut st t).link st =
    { s.link st with state := .testing, settle := none, queue := [], outstanding := none, test := some t } := by
  rw [State.testCut, link_notify, link_onLink h]

theorem link_testCut_told : ((s.testCut st t).tellLost st).link st =
    { s.link st with state := .testing, settle := none, queue := [], outstanding := none, test := some t } := by
  rw [link_tellLost (by rw [link_testCut h]) (by rw [link_testCut h]), link_testCut h]

theorem startTest_eq (locked : s.locked st = true) (free : (s.link st).access = none) (dir : TestDir) (latch : Latch) :
    s.startTest st dir latch =
      ((s.testCut st (TestRecord.atStart dir latch)).tellLost st).onLink st (Link.send s.now (.testStart dir)) := by
  have begun : st < (s.onLink st fun l => { l with test := some (TestRecord.atStart dir latch) }).links.length := by simp [h]
  have cut : (s.onLink st fun l => { l with test := some (TestRecord.atStart dir latch) }).cut st .testing .testStart =
      s.testCut st (TestRecord.atStart dir latch) := by
    rw [State.cut, onLink_onLink h, link_onLink h, state_of_locked locked]
    rfl
  have unused : ((s.testCut st (TestRecord.atStart dir latch)).link st).access = none := by rw [link_testCut h]; exact free
  have now : (s.testCut st (TestRecord.atStart dir latch)).now = s.now := by simp [State.testCut]
  simp only [State.startTest, leaveLocked_eq begun, cut, endAccess_none _ unused, now_tellLost, now]

theorem link_startTest (locked : s.locked st = true) (free : (s.link st).access = none) (dir : TestDir) (latch : Latch) :
    (s.startTest st dir latch).link st = { s.link st with
      state := .testing, settle := none, queue := [], test := some (TestRecord.atStart dir latch),
      outstanding := some { command := .testStart dir, number := (s.link st).nextNumber, sends := 1, expiry := s.now + ms 20 },
      nextNumber := ((s.link st).nextNumber + 1) % 256 } := by
  have told : st < ((s.testCut st (TestRecord.atStart dir latch)).tellLost st).links.length := by
    by_contra out
    have absent : ((s.testCut st (TestRecord.atStart dir latch)).tellLost st).link st = Link.afterReset false := by
      simp only [State.link, List.getD_eq_getElem?_getD, List.getElem?_eq_none (Nat.not_lt.mp out), Option.getD_none]
    have testing := congrArg Link.state (absent.symm.trans (link_testCut_told h _))
    simp [Link.afterReset] at testing
  rw [startTest_eq h locked free, link_onLink told, link_testCut_told h]
  rfl

end

/-! ### Who is told of a test (R101, R146, R170) -/

theorem tellLost_lane {s : State} (idle : s.merge.transfer = none) : s.tellLost 4 = s := mergeLinkLost_keeps (.inl idle)

theorem tellLost_module (s : State) {st : Nat} (module : st ≠ 4) : s.tellLost st = s.carouselLinkLost st := if_neg module

theorem carouselLinkLost_absent {s : State} {k : Nat} (hc : s.carousel? k = none) : s.carouselLinkLost k = s := by
  unfold State.carouselLinkLost State.carouselState
  rw [hc]
  rfl

theorem carousel?_testCut (s : State) (st : Nat) (t : TestRecord) (k : Nat) : (s.testCut st t).carousel? k = s.carousel? k := by
  rw [State.testCut, carousel?_notify]
  rfl

theorem windowsOf_testCut (s : State) (st : Nat) (t : TestRecord) (k : Nat) : (s.testCut st t).windowsOf k = s.windowsOf k := by
  unfold State.windowsOf State.window
  rw [State.testCut, State.notify_windows]
  rfl

theorem lasting_startTest {s : State} {st : Nat} (h : st < s.links.length) (locked : s.locked st = true)
    (calm : s.testWouldDisturb st = false) (dir : TestDir) (latch : Latch) : (s.startTest st dir latch).lasting =
      (s.onLink st fun l => { l with state := .testing, settle := none, test := some (TestRecord.atStart dir latch) }).lasting := by
  obtain ⟨free, lane, -⟩ := calm_iff.mp calm
  have told : ((s.testCut st (TestRecord.atStart dir latch)).tellLost st).lasting =
      (s.testCut st (TestRecord.atStart dir latch)).lasting := by
    by_cases module : st = 4
    · subst module
      rw [tellLost_lane]
      simp [State.testCut, lane rfl]
    · rw [tellLost_module _ module, lasting_carouselLinkLost]
  rw [startTest_eq h locked free, lasting_onLink _ _ (Link.send s.now (.testStart dir)) fun _ => rfl, told, State.testCut, lasting_notify]
  exact lasting_onLink_congr s st rfl

/-- Settles O55. -/
theorem patternTestsStartAndStop : Obligations.PatternTestsStartAndStop := by
  refine fun s tag st free ht hst h => ⟨fun dir latch fields locked calm => ?starts, fun testing => ?stops, ?reports⟩
  case starts =>
    intro fresh
    obtain ⟨unused, lane, module⟩ := calm_iff.mp calm
    have fresh_eq : TestRecord.atStart dir latch = fresh := atStart_eq dir latch
    have link := link_startTest (s := s.take 0x51 tag) h locked unused dir latch
    have eq := startTest_eq (s := s.take 0x51 tag) h locked unused dir latch
    rw [fresh_eq] at link eq
    refine ⟨((s.take 0x51 tag).startTest st dir latch).refresh, ?_, ?_, ?_, ?_, ?_⟩
    · refine (exec_lineFree (kind := 0x51) (tag := tag) rfl free ht).trans ?_
      simp only [ownerOf]
      rw [linkTestStart_waits (s := s.take 0x51 tag) hst fields locked calm]
      rfl
    · rw [link_refresh, link]
    · rw [link_refresh, link]
      rfl
    · rw [lasting_refresh, lasting_startTest (s := s.take 0x51 tag) h locked calm, fresh_eq]
    · intro lost sent
      refine ⟨fun alone => ?_, fun c module' hc => ⟨fun idle => ?_, fun offline => ?_⟩⟩
      all_goals refine (congrArg State.refresh eq).trans (congrArg sent ?_)
      · by_cases module : st = 4
        · subst module
          exact tellLost_lane (by rw [State.testCut, State.notify_merge]; exact lane rfl)
        · rw [tellLost_module _ module]
          exact carouselLinkLost_absent ((carousel?_testCut ..).trans (alone.resolve_left module))
      · have stands := carouselLinkLost_standing (k := st) (s := (s.take 0x51 tag).testCut st fresh) (r := .idle)
          ((carousel?_testCut ..).trans hc) (.inl ⟨idle, rfl⟩)
        rw [windowsOf_testCut] at stands
        rw [tellLost_module _ (Nat.ne_of_lt module')]
        exact stands
      · have cut := link_testCut (s := s.take 0x51 tag) h fresh
        have out : ((s.take 0x51 tag).testCut st fresh).carousel? st = some c := (carousel?_testCut ..).trans hc
        rw [tellLost_module _ (Nat.ne_of_lt module'), carouselLinkLost_out out (.inl offline),
          abandonQuery_eq (by rw [cut]) (by rw [cut]), State.onCarousel_eq out]
        rfl
  case stops =>
    refine (exec_lineFree (kind := 0x52) (tag := tag) rfl free ht).trans ?_
    simp only [ownerOf]
    rw [linkTestStop_waits (s := s.take 0x52 tag) hst testing, State.onTest, onLink_onLink (s := s.take 0x52 tag) h]
    rfl
  case reports =>
    refine (exec_lineFree (kind := 0x53) (tag := tag) rfl free ht).trans ?_
    simp only [ownerOf]
    rw [getLink_reports (s := s.take 0x53 tag) hst]
    rfl

end Sys2Proof.Machine
end

section
/-! PROOFS. TARE opens a tare count (O50). -/

namespace Sys2Proof.Machine

/-- The record of a tare count as it opens (R163). -/
def Measurement.tareOf (c i : Nat) : Measurement :=
  { purpose := .tare, carrier := c, position := i, phase := .channel, judged := 0, skipped := 0, matched := 0, mismatched := 0 }

theorem tare_opens {s : State} {w i k pos : Nat} {c : Carousel} {x : Slot} (mode : s.mode ≠ .config)
    (ha : (s.window w).assigned = some (k, pos)) (hc : s.carousel? k = some c) (place : i < c.geometry.s)
    (state : c.state = .presenting ∨ c.state = .idle) (hx : s.slot? ⟨k, (pos + c.p) % c.geometry.n, i⟩ = some x) (free : x.state = .free)
    (closed : (s.window w).presentation = none) (unused : (s.window w).measurement = none) :
    tare w i s = .reply (s.openTare k w ((pos + c.p) % c.geometry.n) i).refresh .accepted .none := by
  have faces : (s.facingSlot k w i c).map Slot.state = some .free := by
    rw [State.facingSlot, standing_of_assigned ha, hx, Option.map_some, free]
  have able : ¬(c.state ≠ .presenting ∧ c.state ≠ .idle) := by tauto
  have of : s.carouselOf w = some k := by rw [State.carouselOf, ha, Option.map_some]
  have still : (s.window w).inUse = false := by rw [Window.inUse, closed, unused]; rfl
  simp only [tare, if_neg mode, of, hc, if_neg (Nat.not_le.mpr place), if_neg able, faces, ne_eq, not_true_eq_false, if_false, still,
    Bool.false_eq_true, standing_of_assigned ha]

/-- The window of a tare count that opens, its panel set (R116, R163). -/
def State.tareWindow (w c i : Nat) (s : State) : State :=
  s.onWindow w fun v => { v with measurement := some (Measurement.tareOf c i), displays := auditDisplays i 0 }

theorem openTare_eq (s : State) (k w c i : Nat) :
    s.openTare k w c i = ((s.tareWindow w c i).handOver k (.channel w i)).become k .presenting := by
  rw [State.openTare, State.beginCount, onWindow_onWindow]
  rfl

theorem window_openTare {s : State} {w : Nat} (hw : w < s.windows.length) (k c i : Nat) : (s.openTare k w c i).window w =
    { s.window w with measurement := some (Measurement.tareOf c i), displays := auditDisplays i 0 } := by
  rw [openTare_eq, State.become, window_onCarousel]
  show (s.tareWindow w c i).window w = _
  rw [State.tareWindow, window_onWindow_self hw]

theorem link_openTare {s : State} {k : Nat} (hk : k < s.links.length) (w c i : Nat) :
    (s.openTare k w c i).link k = (s.link k).handOver s.now (.channel w i) := by
  have place : k < (s.tareWindow w c i).links.length := hk
  rw [openTare_eq, State.become, link_of_links (State.onCarousel_links ..), State.handOver, link_onLink place]
  rfl

theorem carousel?_openTare {s : State} {k : Nat} {r : Carousel} (hr : s.carousel? k = some r) (w c i : Nat) :
    (s.openTare k w c i).carousel? k = some { r with state := .presenting } := by
  have same : ((s.tareWindow w c i).handOver k (.channel w i)).carousel? k = some r := hr
  rw [openTare_eq, State.become, carousel?_onCarousel, if_pos rfl, same, Option.map_some]

theorem lasting_openTare (s : State) (k w c i : Nat) : (s.openTare k w c i).lasting = s.lasting := by
  rw [openTare_eq, lasting_become, lasting_handOver]
  exact lasting_onWindow _ _ _ fun _ => rfl

/-- Settles O50. -/
theorem tareOpensATareCount : Obligations.TareOpensATareCount := by
  intro s tag w i k pos c x free ht shaped mode hw ha hc place state hx empty closed unused
  have four : k < 4 := carousel?_lt_four shaped hc
  obtain ⟨-, windows, -, links⟩ := shaped
  have opened := window_openTare (s := s.take 0x4D tag) (w := w) (by rw [State.take_windows, windows]; exact hw) k ((pos + c.p) % c.geometry.n) i
  have linked := link_openTare (s := s.take 0x4D tag) (k := k) (by rw [State.take_links, links]; omega) w ((pos + c.p) % c.geometry.n) i
  have stands := carousel?_openTare (s := s.take 0x4D tag) (k := k) hc w ((pos + c.p) % c.geometry.n) i
  have lasts := lasting_openTare (s.take 0x4D tag) k w ((pos + c.p) % c.geometry.n) i
  have answers := tare_opens (s := s.take 0x4D tag) mode ha hc place state hx empty closed unused
  generalize (s.take 0x4D tag).openTare k w ((pos + c.p) % c.geometry.n) i = t at *
  have assigned : (t.window w).assigned = some (k, pos) := by rw [opened]; exact ha
  have header : t.headerOf w = { carrier := some ((pos + c.p) % c.geometry.n), status := .measure } := by
    have running : t.mode ≠ .config := by rw [← mode_lasting, lasts]; exact mode
    have counts : (t.window w).measurement = some (Measurement.tareOf ((pos + c.p) % c.geometry.n) i) := by rw [opened]
    rw [State.headerOf, headerCarrier_measured counts, headerStatus_eq assigned]
    simp only [running, counts, if_false, ne_eq, reduceCtorEq, not_false_eq_true, if_true]
    rfl
  have shown : t.refresh.window w = { t.window w with header := t.headerOf w } := by
    rw [window_refresh t hw, if_pos (by rw [assigned]; rfl)]
  refine ⟨t.refresh, ?_, ?_, ?_, ?_, ?_, ?_, ?_⟩
  · refine (exec_lineFree (kind := 0x4D) (tag := tag) rfl free ht).trans ?_
    simp only [ownerOf]
    rw [answers]
    rfl
  · rw [shown, opened]
    rfl
  · rw [shown, opened]
    rfl
  · rw [shown, header]
  · rw [link_refresh, linked]
    rfl
  · obtain ⟨work, next, read⟩ := carousel?_refresh stands
    rw [read]
    rfl
  · rw [lasting_refresh, lasts]

end Sys2Proof.Machine
end

section
/-! PROOFS. AUDIT and the course of a measurement (O49). -/

namespace Sys2Proof.Machine

/-! ### Carriers join the list (R83, R148) -/

theorem joinAudit_eq {s : State} {k : Nat} {c : Carousel} (hc : s.carousel? k = some c) (x : Nat) : s.joinAudit k x =
    s.setCarousel k { c with auditList := if x ∈ c.auditList then c.auditList else c.auditList ++ [x] } := by
  rw [State.joinAudit, State.onCarousel_eq hc]
  by_cases h : x ∈ c.auditList <;> simp [h]

/-- Carriers that join one after another stand at the end of the list in their order (R83). -/
theorem joinAudit_foldl (k : Nat) (cs : List Nat) {s : State} {c : Carousel} (hc : s.carousel? k = some c) (distinct : cs.Nodup) :
    cs.foldl (fun s x => s.joinAudit k x) s =
      s.setCarousel k { c with auditList := c.auditList ++ cs.filter fun x => !c.auditList.contains x } := by
  induction cs generalizing s c with
  | nil =>
    rw [List.foldl_nil, List.filter_nil, List.append_nil]
    exact (State.setCarousel_self hc).symm
  | cons x xs ih =>
    obtain ⟨new, distinct⟩ := List.nodup_cons.mp distinct
    rw [List.foldl_cons, joinAudit_eq hc, ih (carousel?_set hc _) distinct, State.setCarousel_setCarousel]
    by_cases h : x ∈ c.auditList
    · simp [h]
    · have rest : xs.filter (fun y => !(c.auditList ++ [x]).contains y) = xs.filter fun y => !c.auditList.contains y :=
        List.filter_congr fun y hy => by
          have other : y ≠ x := fun e => new (e ▸ hy)
          simp [other]
      simp only [if_neg h, rest]
      simp [h]

theorem nodup_carriersFrom (first last : Nat) : (carriersFrom first last).Nodup := List.nodup_range.filter _

theorem auditMembers_refresh (s : State) (k : Nat) : s.refresh.auditMembers k = s.auditMembers k := by
  have lists := view_of_bare (bare_refresh s k) (view := fun c => c.auditList.length) fun _ => rfl
  unfold State.auditMembers
  cases h : s.carousel? k with
  | none =>
    rw [h] at lists
    rw [Option.map_eq_none_iff.mp lists]
  | some c =>
    obtain ⟨work, next, read⟩ := carousel?_refresh h
    rw [read]

theorem audit_joins {s : State} {k first last : Nat} {c : Carousel} (mode : s.mode ≠ .config) (hc : s.carousel? k = some c)
    (order : first ≤ last) (place : last < c.geometry.n) :
    let joined := (carriersFrom first last).filter fun x => !c.auditList.contains x
    let t := (s.setCarousel k { c with auditList := c.auditList ++ joined }).gainWork k joined
    audit k first last s = .reply t.refresh .ok (.listed joined.length (t.refresh.auditMembers k)) := by
  have fields : ¬(c.geometry.n ≤ first ∨ c.geometry.n ≤ last ∨ last < first) := by omega
  simp only [auditMembers_refresh, audit, if_neg mode, hc, if_neg fields, State.joinCarriers, joinAudit_foldl k _ hc (nodup_carriersFrom first last)]

/-! ### A carousel that can do nothing (R88, R89, R100) -/

theorem recompute_still {s : State} {k : Nat} (h : s.carouselState k ≠ some .idle) : s.recompute k = s := if_neg h

theorem gainWork_still {s : State} {k : Nat} {c : Carousel} (hc : s.carousel? k = some c) (idle : c.state ≠ .idle)
    (presenting : c.state ≠ .presenting) (held : c.state ≠ .held) (cs : List Nat) : s.gainWork k cs = s := by
  have state : s.carouselState k ≠ some .idle := by rw [carouselState_eq hc]; exact fun h => idle (Option.some.inj h)
  have shut : c.state.opensPresentations = false := by
    rw [Bool.eq_false_iff, Ne, opensPresentations_iff]
    tauto
  have opened : s.openGained k cs = s := by
    unfold State.openGained
    generalize s.windowsOf k = ws
    induction ws with
    | nil => rfl
    | cons w ws ih => simp only [List.foldl_cons, hc, shut, Bool.false_and, Bool.false_eq_true, if_false, ih]
  have tested : s.testWindows k = s := testWindows_keeps hc (.inl presenting)
  rw [State.gainWork, recompute_still state, ite_self, opened, tested, recompute_still state]

/-! ### The seek (R153) -/

section
variable {s : State} {k : Nat} {r : Carousel} (hr : s.carousel? k = some r) (w c i : Nat)
include hr

theorem startMeasurement_eq : s.startMeasurement k w c = State.seekFrom k w c 0
    ((s.setCarousel k { r with auditList := r.auditList.filter fun x => decide (x ≠ c) }).onWindow w fun v =>
      { v with measurement := some { purpose := .measure, carrier := c, position := 0, phase := .channel, judged := 0,
                                     skipped := 0, matched := 0, mismatched := 0 } }) := by
  rw [State.startMeasurement, State.onCarousel_eq hr]

theorem seekFrom_past (past : r.geometry.s ≤ i) : s.seekFrom k w c i = (s, true) := by
  simp only [State.seekFrom, hr, Nat.sub_eq_zero_of_le past, State.seek]

theorem seekFrom_withdrawn {x : Slot} (place : i < r.geometry.s) (hx : s.slot? ⟨k, c, i⟩ = some x) (withdrawn : x.state = .withdrawn) :
    s.seekFrom k w c i = State.seekFrom k w c (i + 1)
      ((s.notify (s.uncounted w ⟨k, c, i⟩ x .skipped)).onMeasurement w fun m => { m with skipped := m.skipped + 1 }) := by
  have read : ((s.notify (s.uncounted w ⟨k, c, i⟩ x .skipped)).onMeasurement w fun m => { m with skipped := m.skipped + 1 }).carousel? k =
    some r := (carousel?_notify ..).trans hr
  obtain ⟨left, hleft⟩ : ∃ left, r.geometry.s - i = left + 1 := ⟨r.geometry.s - i - 1, by omega⟩
  have rest : r.geometry.s - (i + 1) = left := by omega
  rw [State.seekFrom, State.seekFrom, hr, read]
  simp only [hleft, rest]
  rw [State.seek, hx]
  exact if_pos withdrawn

theorem seekFrom_counts {x : Slot} (place : i < r.geometry.s) (hx : s.slot? ⟨k, c, i⟩ = some x) (inService : x.state ≠ .withdrawn) :
    s.seekFrom k w c i = (s.beginCount k w i x.onHand, false) := by
  obtain ⟨left, hleft⟩ : ∃ left, r.geometry.s - i = left + 1 := ⟨r.geometry.s - i - 1, by omega⟩
  rw [State.seekFrom, hr]
  simp only [hleft]
  rw [State.seek, hx]
  exact if_neg inService

/-! ### The end of a count (R159) -/

theorem endMeasurement_opens {opening : State → State}
    (opens : (r.state = .idle ∨ r.state = .presenting ∨ r.state = .held) ∧ s.carrierClass k c ≠ none) :
    s.endMeasurement k w c opening = opening (s.dropMeasurement w) := by
  have read : (s.dropMeasurement w).carousel? k = some r := hr
  have work : (s.dropMeasurement w).hasWork k c = true := Option.isSome_iff_ne_none.mpr opens.2
  simp only [State.endMeasurement, read, (opensPresentations_iff _).mpr opens.1, work, Bool.and_self, if_true]

theorem endMeasurement_rests {opening : State → State}
    (rests : ¬((r.state = .idle ∨ r.state = .presenting ∨ r.state = .held) ∧ s.carrierClass k c ≠ none)) :
    s.endMeasurement k w c opening = s.dropMeasurement w := by
  have read : (s.dropMeasurement w).carousel? k = some r := hr
  have still : ¬(r.state.opensPresentations && (s.dropMeasurement w).hasWork k c) = true := fun h =>
    have ⟨opens, work⟩ := Bool.and_eq_true_iff.mp h
    rests ⟨(opensPresentations_iff _).mp opens, Option.isSome_iff_ne_none.mp work⟩
  simp only [State.endMeasurement, read, if_neg still]

end

/-! ### An interruption (R160, R164) -/

section
variable {s : State} {k w : Nat} {m : Measurement}

theorem interrupt_none (h : (s.window w).measurement = none) : s.interrupt k w = s := by simp only [State.interrupt, h]

theorem interrupt_tare (hm : (s.window w).measurement = some m) (tare : m.purpose = .tare) :
    s.interrupt k w = (s.notify (.tared w m.position m.carrier none)).dropMeasurement w := by
  simp only [State.interrupt, hm, tare]

theorem interrupt_measure {x : Slot} (hm : (s.window w).measurement = some m) (measure : m.purpose = .measure)
    (hx : s.slot? ⟨k, m.carrier, m.position⟩ = some x) : s.interrupt k w =
      ((s.notify (s.uncounted w ⟨k, m.carrier, m.position⟩ x .interrupted)).joinAudit k m.carrier).dropMeasurement w := by
  simp only [State.interrupt, hm, measure, hx, Option.getD_some]

end

/-- Settles O49. -/
theorem auditJoinsTheCarriers : Obligations.AuditJoinsTheCarriers := by
  refine ⟨fun s tag k first last c free ht mode hc order place => ?joins, fun s k w c r hr => ?course⟩
  case joins =>
    intro joined u
    have answers := audit_joins (s := s.take 0x48 tag) mode hc order place
    refine ⟨?_, ?_, fun idle presenting held => ?_⟩
    · have replied : exec (.audit tag k first last) s = .next (u.replied .ok (.listed joined.length (u.auditMembers k))) := by
        refine (exec_lineFree (kind := 0x48) (tag := tag) rfl free ht).trans ?_
        simp only [ownerOf]
        rw [answers]
        rfl
      clear_value u
      exact replied
    · rw [lasting_refresh, lasting_gainWork]
      exact lasting_setCarousel (s := s.take 0x48 tag) hc rfl
    · have listed := carousel?_set (s := s.take 0x48 tag) hc { c with auditList := c.auditList ++ joined }
      have still := gainWork_still listed idle presenting held joined
      obtain ⟨work, next, read⟩ := carousel?_refresh listed
      refine ⟨_, (congrArg (fun t : State => t.refresh.carousel? k) still).trans read, rfl, rfl⟩
  case course =>
    refine ⟨startMeasurement_eq hr w c, fun i past => seekFrom_past hr w c i past, fun i x place hx => ⟨fun withdrawn => ?skips, fun inService => ?counts⟩,
      ⟨fun opens => ?opens, fun rests => ?rests⟩, fun h => interrupt_none h, fun m hm => ⟨fun tare => ?tare, fun x measure hx => ?measure⟩⟩
    case skips =>
      rw [seekFrom_withdrawn hr w c i place hx withdrawn, State.uncounted, withdrawn]
      rfl
    case counts => exact seekFrom_counts hr w c i place hx inService
    case opens => rw [State.finishCount, endMeasurement_opens hr w c opens]; rfl
    case rests => rw [State.finishCount, endMeasurement_rests hr w c rests]; rfl
    case tare => rw [interrupt_tare hm tare]; rfl
    case measure =>
      rw [interrupt_measure hm measure hx, joinAudit_eq ((carousel?_notify ..).trans hr)]
      rfl

end Sys2Proof.Machine
end

section
/-! PROOFS. SET_CAROUSEL writes the geometry, or the limit (O24). -/

namespace Sys2Proof.Machine

/-! ### One change of several windows -/

theorem onWindow_mapIdx (s : State) (w : Nat) (f : Window → Window) :
    s.onWindow w f = { s with windows := s.windows.mapIdx fun i v => if i = w then f v else v } := by
  have same : s.windows.set w (f (s.window w)) = s.windows.mapIdx fun i v => if i = w then f v else v := by
    refine List.ext_getElem (by simp) fun i hi _ => ?_
    have place : i < s.windows.length := by simpa using hi
    rw [List.getElem_set, List.getElem_mapIdx]
    by_cases h : w = i
    · subst h
      simp [State.window, List.getD_eq_getElem?_getD, place]
    · rw [if_neg h, if_neg (Ne.symm h)]
  rw [State.onWindow, same]

theorem foldl_onWindow (ws : List Nat) {f : Window → Window} (again : ∀ v, f (f v) = f v) (s : State) :
    ws.foldl (fun s w => s.onWindow w f) s = { s with windows := s.windows.mapIdx fun i v => if i ∈ ws then f v else v } := by
  induction ws generalizing s with
  | nil =>
    have same : (s.windows.mapIdx fun i v => if i ∈ ([] : List Nat) then f v else v) = s.windows :=
      List.ext_getElem (by simp) fun i _ _ => by simp
    rw [same, List.foldl_nil]
  | cons w ws ih =>
    rw [List.foldl_cons, ih, onWindow_mapIdx, List.mapIdx_mapIdx]
    congr 2
    funext i v
    by_cases h : i = w <;> by_cases m : i ∈ ws <;> simp [h, m, again]

/-- A window of carousel `k` with its guard CLOSED, any other as it was (R81). -/
def Window.guardClosed (k : Nat) (v : Window) : Window :=
  if v.assigned.map Prod.fst = some k then { v with guard := .closed } else v

theorem closeGuards_eq {s : State} (eight : s.windows.length = 8) (k : Nat) :
    s.closeGuards k = { s with windows := s.windows.map (Window.guardClosed k) } := by
  have same : (s.windows.mapIdx fun i v => if i ∈ s.windowsOf k then { v with guard := .closed } else v) =
      s.windows.map (Window.guardClosed k) := by
    refine List.ext_getElem (by simp) fun i hi _ => ?_
    have place : i < s.windows.length := by simpa using hi
    have read : s.window i = s.windows[i] := by simp [State.window, List.getD_eq_getElem?_getD, place]
    have member : i ∈ s.windowsOf k ↔ (s.windows[i]).assigned.map Prod.fst = some k := by
      rw [mem_windowsOf, State.carouselOf, read]
      exact and_iff_right (eight ▸ place)
    simp only [List.getElem_mapIdx, List.getElem_map, Window.guardClosed, member]
  rw [← same]
  exact foldl_onWindow (s.windowsOf k) (f := fun v => { v with guard := .closed }) (fun _ => rfl) s

/-! ### The write of a geometry (R8, R23, R35, R81) -/

/-- The part with the geometry written, the notice of its BALANCE_OVER apart. -/
def State.geometryWritten (k : Nat) (g : Geometry) (limit stepTime : Nat) (s : State) : State :=
  { s with carousels := s.carousels.set k (some (Carousel.fresh g limit stepTime))
           windows := s.windows.map (Window.guardClosed k)
           discrepancies := s.discrepancies.filter fun d => decide (d.addr.carousel ≠ k) }

section
variable {s : State} (shaped : s.shaped) {k : Nat} (g : Geometry) (limit stepTime : Nat)
include shaped

theorem writeGeometry_cases :
    ((∀ d, s.carousel? k = some d → d.figures.overLimit = false) ∧
        s.writeGeometry k g limit stepTime = s.geometryWritten k g limit stepTime) ∨
      s.writeGeometry k g limit stepTime = (s.geometryWritten k g limit stepTime).notify (.balance k false 0 0 limit) := by
  obtain ⟨-, windows, -, -⟩ := shaped
  have closed := closeGuards_eq (s := s.setCarousel k (Carousel.fresh g limit stepTime)) windows k
  unfold State.writeGeometry
  rw [closed]
  cases hc : s.carousel? k with
  | none => exact .inl ⟨fun d hd => (nomatch hd), rfl⟩
  | some c =>
    cases flag : c.figures.overLimit with
    | true => exact .inr (by simp only [flag, if_true]; rfl)
    | false => exact .inl ⟨fun d hd => Option.some.inj hd ▸ flag, by simp only [flag, Bool.false_eq_true, if_false]; rfl⟩

theorem carousel?_geometryWritten (hk : k ≤ 3) :
    (s.geometryWritten k g limit stepTime).carousel? k = some (Carousel.fresh g limit stepTime) := by
  have place : k < s.carousels.length := by rw [shaped.1]; omega
  simp [State.geometryWritten, State.carousel?, List.getD_eq_getElem?_getD, place]

end

theorem lasting_geometryWritten (s : State) (k : Nat) (g : Geometry) (limit stepTime : Nat) {c : Carousel}
    (hc : c.lasting = (Carousel.fresh g limit stepTime).lasting) : (s.geometryWritten k g limit stepTime).lasting =
      ({ s with
        carousels := s.carousels.set k (some c)
        windows := s.windows.map (Window.guardClosed k)
        discrepancies := s.discrepancies.filter fun d => decide (d.addr.carousel ≠ k) } : State).lasting := by
  simp only [State.geometryWritten, State.lasting, List.map_set, Option.map_some, hc]

theorem notices_notify {s : State} (room : s.line.notices.length < 32) (n : Notice) :
    (s.notify n).line.notices = s.line.notices ++ [n] := by
  unfold State.notify
  split
  · rfl
  · next full => exact absurd room full

/-! ### The write of a limit (R35, R36) -/

section
variable {s : State} {k : Nat} {c : Carousel} (hc : s.carousel? k = some c) (limit stepTime : Nat)
include hc

/-- The record of a carousel with limit and step time written and BALANCE_OVER judged (R34, R36). -/
theorem writeLimit_eq : s.writeLimit k limit stepTime =
    let d := { c with stepTime := stepTime,
                      figures := { c.figures with limit := limit, overLimit := decide (limit < c.figures.committedW) } }
    if decide (limit < c.figures.committedW) = c.figures.overLimit then s.setCarousel k d
    else (s.setCarousel k d).notify
      (.balance k (decide (limit < c.figures.committedW)) c.figures.committedW c.figures.onHandW limit) := by
  rw [State.writeLimit, State.onCarousel_eq hc, judgeOver_setCarousel hc]
  rfl

end

/-! ### SET_CAROUSEL -/

theorem stepTimeTaken_eq (s : State) (k : Nat) (step : Option Nat) : stepTimeTaken ((s.carousel? k).map Carousel.stepTime) step =
    step.elim ((s.carousel? k).elim 1500 Carousel.stepTime) fun v => if v < 500 then 500 else if 5000 < v then 5000 else v := by
  cases step with
  | some v => rfl
  | none => cases s.carousel? k <;> rfl

theorem geometry_inRange {g : Geometry} (low : 8 ≤ g.n) (high : g.n ≤ 48) (even : g.n % 2 = 0) (one : 1 ≤ g.s) (six : g.s ≤ 6)
    (fits : g.positions.length = g.s) (places : ∀ q ∈ g.positions, q.1 ≤ 3 ∧ 1 ≤ q.2 ∧ q.2 ≤ 8) : g.inRange = true := by
  simp only [Geometry.inRange, inRange_iff.mpr ⟨low, high⟩, even, inRange_iff.mpr ⟨one, six⟩, fits, beq_self_eq_true, Bool.and_true,
    List.all_eq_true, Bool.and_eq_true, decide_eq_true_eq, true_and]
  exact fun q hq => ⟨(places q hq).1, inRange_iff.mpr (places q hq).2⟩

theorem setCarousel_taken {s : State} {k : Nat} {g : Geometry} {limit : Nat} (mode : s.mode = .config) (hk : k ≤ 3)
    (fits : g.positions.length = g.s) (range : g.inRange = true) (low : 100 ≤ limit) (high : limit ≤ 65000) {step : Option Nat}
    {taken : Nat} (htaken : stepTimeTaken ((s.carousel? k).map Carousel.stepTime) step = taken) : setCarousel k g limit step s = .reply
      (if (s.carousel? k).map Carousel.geometry = some g then s.writeLimit k limit taken else s.writeGeometry k g limit taken).refresh .ok
      (.stepTime taken) := by
  simp only [setCarousel, fits, ne_eq, not_true_eq_false, if_false, mode, range, inRange_iff.mpr ⟨low, high⟩, Nat.not_lt.mpr hk,
    decide_false, Bool.not_true, Bool.or_self, Bool.false_eq_true, htaken]

/-- Settles O24. -/
theorem setCarouselWritesTheGeometryOrTheLimit : Obligations.SetCarouselWritesTheGeometryOrTheLimit := by
  intro s tag k g limit step free ht shaped mode hk nLow nHigh even sLow sHigh fits places low high taken htaken
  have shaped' : (s.take 0x18 tag).shaped := shaped
  have range := geometry_inRange nLow nHigh even sLow sHigh fits places
  have taken_eq : stepTimeTaken (((s.take 0x18 tag).carousel? k).map Carousel.stepTime) step = taken := by
    rw [stepTimeTaken_eq, htaken]
    cases step with
    | some v => rfl
    | none => cases hc : s.carousel? k <;> exact congrArg (Option.elim · 1500 Carousel.stepTime) hc
  have answers := setCarousel_taken (s := s.take 0x18 tag) mode hk fits range low high taken_eq
  have replies : exec (.setCarousel tag k g.n g.s g.positions limit step) s = .next (setCarousel k g limit step (s.take 0x18 tag)).outcome := by
    refine (exec_lineFree (kind := 0x18) (tag := tag) rfl free ht).trans ?_
    rfl
  refine ⟨fun differs => ?geometry, fun c hc same => ?limit⟩
  case geometry =>
    have other : ¬((s.take 0x18 tag).carousel? k).map Carousel.geometry = some g := fun h =>
      have ⟨c, hc, same⟩ := Option.map_eq_some_iff.mp h
      differs c hc same
    rw [if_neg other] at answers
    obtain ⟨t, ht', written⟩ : ∃ t, t = (s.take 0x18 tag).writeGeometry k g limit taken ∧
        (t = (s.take 0x18 tag).geometryWritten k g limit taken ∧ (∀ d, s.carousel? k = some d → d.figures.overLimit = false) ∨
          t = ((s.take 0x18 tag).geometryWritten k g limit taken).notify (.balance k false 0 0 limit)) :=
      ⟨_, rfl, (writeGeometry_cases shaped' g limit taken).imp And.symm id⟩
    have read : t.carousel? k = some (Carousel.fresh g limit taken) := by
      rcases written with ⟨rfl, -⟩ | rfl
      · exact carousel?_geometryWritten shaped' g limit taken hk
      · rw [carousel?_notify]
        exact carousel?_geometryWritten shaped' g limit taken hk
    have lasts : t.lasting = ((s.take 0x18 tag).geometryWritten k g limit taken).lasting := by
      rcases written with ⟨rfl, -⟩ | rfl
      · rfl
      · rw [lasting_notify]
    obtain ⟨work, next, shown⟩ := carousel?_refresh read
    refine ⟨t.refresh, { Carousel.fresh g limit taken with work := work, next := next }, ?_, shown, rfl, rfl, rfl, rfl, rfl, rfl, rfl, rfl,
      rfl, rfl, rfl, rfl, rfl, ?_, fun d hd flag room => ?_⟩
    · rw [replies, answers, ht']
      rfl
    · rw [lasting_refresh, lasts]
      exact lasting_geometryWritten _ k g limit taken rfl
    · rw [refresh_line]
      rcases written with ⟨-, off⟩ | rfl
      · exact absurd ((off d hd).symm.trans flag) Bool.false_ne_true
      · exact notices_notify (s := (s.take 0x18 tag).geometryWritten k g limit taken) room _
  case limit =>
    have stored : ((s.take 0x18 tag).carousel? k).map Carousel.geometry = some g := (congrArg (Option.map Carousel.geometry) hc).trans (congrArg some same)
    rw [if_pos stored] at answers
    have written := writeLimit_eq (s := s.take 0x18 tag) hc limit taken
    refine ⟨((s.take 0x18 tag).writeLimit k limit taken).refresh, ?_, ?_, fun room => ?_⟩
    · rw [replies, answers]
      rfl
    · rw [lasting_refresh, written]
      dsimp only
      split
      · rfl
      · rw [lasting_notify]
    · rw [refresh_line, written]
      dsimp only
      split
      · rfl
      · exact notices_notify (s := (s.take 0x18 tag).setCarousel k _) room _

end Sys2Proof.Machine
end

section
/-! PROOFS. The dispatcher's figures: rotation plans, dispatch classes and the next target (O35). -/

namespace Sys2Proof.Machine

/-! ### Rotation plans (R86) -/

theorem modSub_eq {a b n : Nat} (ha : a < n) (hb : b < n) : modSub a b n = if b ≤ a then a - b else a + n - b := by
  rw [modSub, Nat.mod_eq_of_lt hb]
  split
  · have e : a + n - b = (a - b) + n := by omega
    rw [e, Nat.add_mod_right, Nat.mod_eq_of_lt (by omega)]
  · exact Nat.mod_eq_of_lt (by omega)

theorem add_mod_eq {a b n : Nat} (ha : a < n) (hb : b < n) : (a + b) % n = if a + b < n then a + b else a + b - n := by
  split
  · next h => exact Nat.mod_eq_of_lt h
  · rw [Nat.mod_eq_sub_mod (by omega), Nat.mod_eq_of_lt (by omega)]

theorem planFor_eq (n p c w pos : Nat) : planFor n p c w pos =
    let target := modSub c pos n
    let f := modSub target p n
    if f ≤ n / 2 then { window := w, targetP := target, direction := .forward, steps := f }
    else { window := w, targetP := target, direction := .reverse, steps := n - f } := rfl

theorem planFor_spec {n p c pos : Nat} (w : Nat) (even : n % 2 = 0) (hp : p < n) (hc : c < n) (hpos : pos < n) :
    let q := planFor n p c w pos
    q.window = w ∧ q.targetP < n ∧ (pos + q.targetP) % n = c ∧ q.steps ≤ n / 2 ∧
      (q.direction = .forward → (p + q.steps) % n = q.targetP) ∧
      (q.direction = .reverse → (q.targetP + q.steps) % n = p ∧ q.steps < n / 2) := by
  have target : modSub c pos n < n := by rw [modSub_eq hc hpos]; split <;> omega
  have stands : (pos + modSub c pos n) % n = c := by
    rw [add_mod_eq hpos target, modSub_eq hc hpos]
    split <;> split <;> omega
  have turn : modSub (modSub c pos n) p n < n := by rw [modSub_eq target hp]; split <;> omega
  have there : (p + modSub (modSub c pos n) p n) % n = modSub c pos n := by
    rw [add_mod_eq hp turn, modSub_eq target hp]
    split <;> split <;> omega
  rw [planFor_eq]
  by_cases forward : modSub (modSub c pos n) p n ≤ n / 2
  · simp only [if_pos forward, reduceCtorEq, false_implies, and_true, true_and]
    exact ⟨target, stands, forward, fun _ => there⟩
  · have back : n - modSub (modSub c pos n) p n < n / 2 := by omega
    have home : (modSub c pos n + (n - modSub (modSub c pos n) p n)) % n = p := by
      rw [add_mod_eq target (by omega)]
      have far := modSub_eq target hp
      split <;> split at far <;> omega
    simp only [if_neg forward, reduceCtorEq, false_implies, true_and]
    exact ⟨target, stands, back.le, fun _ => ⟨home, back⟩⟩

/-- The plan with the fewer steps, of two alike the first. -/
theorem leastBy_measure {α : Type} (size : α → Nat) {xs : List α} {x : α} (h : leastBy (fun a b => decide (size a < size b)) xs = some x) :
    (∀ y ∈ xs, size x ≤ size y) ∧ ∃ l r, xs = l ++ x :: r ∧ ∀ y ∈ l, size x < size y := by
  have spec := leastBy_spec _ (fun a b c => by simp only [decide_eq_true_eq]; omega)
    (fun a b c => by simp only [decide_eq_true_eq]; omega) (fun a => by simp) h
  simpa using spec

section
variable {s : State} {k : Nat} {r : Carousel} (hr : s.carousel? k = some r) (c : Nat)
include hr

theorem plan_eq : s.plan k c = leastBy (fun a b => decide (a.steps < b.steps))
    ((s.windowsOf k).map fun w => planFor r.geometry.n r.p c w (s.loopPosition w)) := by
  simp only [State.plan, hr]

theorem plan_none : s.plan k c = none ↔ ∀ w, w < 8 → s.carouselOf w ≠ some k := by
  rw [plan_eq_none hr, List.eq_nil_iff_forall_not_mem]
  simp only [mem_windowsOf, not_and]

end

theorem assigned_of_carouselOf {s : State} {w k : Nat} (h : s.carouselOf w = some k) :
    (s.window w).assigned = some (k, s.loopPosition w) := by
  obtain ⟨⟨k', pos⟩, ha, rfl⟩ := Option.map_eq_some_iff.mp h
  rw [ha, State.loopPosition, ha]

theorem windowsOf_sorted (s : State) (k : Nat) : (s.windowsOf k).Pairwise (· < ·) := List.pairwise_lt_range.filter _

/-- The plan of the window that needs the fewest steps, of two that need as many the lower-numbered one (R86). -/
theorem plan_some {s : State} {k : Nat} {r : Carousel} (hr : s.carousel? k = some r) {c : Nat} {q : Plan} (hq : s.plan k c = some q) :
    ∃ w pos, w < 8 ∧ (s.window w).assigned = some (k, pos) ∧ q = planFor r.geometry.n r.p c w pos ∧
      ∀ v posv, v < 8 → (s.window v).assigned = some (k, posv) →
        q.steps < (planFor r.geometry.n r.p c v posv).steps ∨ (q.steps = (planFor r.geometry.n r.p c v posv).steps ∧ w ≤ v) := by
  rw [plan_eq hr] at hq
  obtain ⟨least, before, after, parts, first⟩ := leastBy_measure Plan.steps hq
  obtain ⟨ws, vs, windows, rfl, vsEq⟩ := List.map_eq_append_iff.mp parts
  obtain ⟨w, us, rfl, rfl, -⟩ := List.map_eq_cons_iff.mp vsEq
  have member : w ∈ s.windowsOf k := by simp [windows]
  obtain ⟨hw, of⟩ := mem_windowsOf.mp member
  refine ⟨w, s.loopPosition w, hw, assigned_of_carouselOf of, rfl, fun v posv hv hav => ?_⟩
  have ofv : s.carouselOf v = some k := by rw [State.carouselOf, hav, Option.map_some]
  have posEq : s.loopPosition v = posv := by rw [State.loopPosition, hav]
  have memv : v ∈ s.windowsOf k := mem_windowsOf.mpr ⟨hv, ofv⟩
  have place := memv
  rw [windows, List.mem_append, List.mem_cons] at place
  have sorted := windowsOf_sorted s k
  rw [windows, List.pairwise_append, List.pairwise_cons] at sorted
  obtain ⟨-, ⟨ahead, -⟩, -⟩ := sorted
  rcases place with behind | rfl | later
  · left
    have fewer := first _ (List.mem_map_of_mem behind)
    rwa [posEq] at fewer
  · rw [posEq]
    exact .inr ⟨rfl, le_refl _⟩
  · have atMost := least _ (List.mem_map_of_mem memv)
    rw [posEq] at atMost
    have := ahead v later
    omega

/-! ### Candidates and the next target (R84, R85) -/

theorem standsInUse_iff {s : State} {k c : Nat} {r : Carousel} (hr : s.carousel? k = some r) :
    s.standsInUse k c = true ↔ ∃ w, w < 8 ∧ ∃ pos, (s.window w).assigned = some (k, pos) ∧
      ((s.window w).presentation ≠ none ∨ (s.window w).measurement ≠ none) ∧ (pos + r.p) % r.geometry.n = c := by
  have inUse : ∀ v : Window, v.inUse = true ↔ v.presentation ≠ none ∨ v.measurement ≠ none := fun v => by
    simp [Window.inUse, Option.isSome_iff_ne_none]
  simp only [State.standsInUse, hr, List.any_eq_true, Bool.and_eq_true, beq_iff_eq, mem_windowsOf, inUse, State.standing]
  refine ⟨fun ⟨w, ⟨hw, of⟩, used, stands⟩ => ⟨w, hw, s.loopPosition w, assigned_of_carouselOf of, used, stands⟩,
    fun ⟨w, hw, pos, ha, used, stands⟩ => ⟨w, ⟨hw, by rw [State.carouselOf, ha, Option.map_some]⟩, used, ?_⟩⟩
  rw [State.loopPosition, ha]
  exact stands

/-- What the ranking of R85 takes of a carrier: its key, its class and its plan; nothing of one that is no candidate. -/
def State.candidate (s : State) (k : Nat) (r : Carousel) (c : Nat) : Option ((Nat × Nat × Nat) × Nat × Nat × Plan) :=
  match s.carrierClass k c, s.plan k c with
  | some cls, some plan => if s.standsInUse k c then none else some (candidateKey cls (r.due c) plan.steps c, c, cls, plan)
  | _, _ => none

theorem nextTarget_eq {s : State} {k : Nat} {r : Carousel} (hr : s.carousel? k = some r) : s.nextTarget k =
    (leastBy (fun a b => lexTriple a.1 b.1) ((List.range r.geometry.n).filterMap (s.candidate k r))).map Prod.snd := by
  simp only [State.nextTarget, hr]
  rfl

theorem candidate_some {s : State} {k : Nat} {r : Carousel} {c : Nat} {x : (Nat × Nat × Nat) × Nat × Nat × Plan} :
    s.candidate k r c = some x ↔ ∃ cls plan, s.carrierClass k c = some cls ∧ s.plan k c = some plan ∧ s.standsInUse k c = false ∧
      x = (candidateKey cls (r.due c) plan.steps c, c, cls, plan) := by
  unfold State.candidate
  cases s.carrierClass k c with
  | none => simp
  | some cls =>
    cases s.plan k c with
    | none => simp
    | some plan => cases s.standsInUse k c <;> simp [eq_comm]

theorem leastBy_key {α : Type} {xs : List ((Nat × Nat × Nat) × α)} {x : (Nat × Nat × Nat) × α}
    (h : leastBy (fun a b => lexTriple a.1 b.1) xs = some x) : ∀ y ∈ xs, lexTriple y.1 x.1 = false :=
  (leastBy_spec _ (fun a b c => by simp only [lexTriple_iff]; omega) (fun a b c => by simp only [lexTriple_iff]; omega)
    (fun a => by rw [Bool.eq_false_iff, Ne, lexTriple_iff]; omega) h).1

/-- Of two candidates of classes up to 4, the one that the other does not precede ranks first (R85). -/
theorem candidateKey_ranks {cls dcls steps dsteps c d : Nat} {due ddue : Bool} (hcls : cls ≤ 4) (hdcls : dcls ≤ 4)
    (h : lexTriple (candidateKey dcls ddue dsteps d) (candidateKey cls due steps c) = false) :
    dcls < cls ∨ (dcls = cls ∧ ((due = true ∧ ddue = false) ∨ (ddue = due ∧ (steps < dsteps ∨ (steps = dsteps ∧ c ≤ d))))) := by
  rw [Bool.eq_false_iff, Ne, lexTriple_iff] at h
  cases due <;> cases ddue <;> simp [candidateKey] at h ⊢ <;> omega

/-! ### Classes (R82) -/

/-- The highest class of the picks counted. -/
def pickTop (picks : List Nat) : Nat := ([1, 2, 3, 4].zip picks).foldl (fun m q => if 0 < q.2 then max m q.1 else m) 0

theorem pickTop_eq (count : Nat → Nat) : pickTop ([1, 2, 3, 4].map count) =
    if 0 < count 4 then 4 else if 0 < count 3 then 3 else if 0 < count 2 then 2 else if 0 < count 1 then 1 else 0 := by
  simp only [pickTop, List.map_cons, List.map_nil, List.zip_cons_cons, List.zip_nil_left, List.foldl_cons, List.foldl_nil]
  split <;> split <;> split <;> split <;> simp_all

theorem pickTop_spec (count : Nat → Nat) :
    pickTop ([1, 2, 3, 4].map count) ≤ 4 ∧
      (0 < pickTop ([1, 2, 3, 4].map count) → 0 < count (pickTop ([1, 2, 3, 4].map count))) ∧
      ∀ n, 1 ≤ n → n ≤ 4 → 0 < count n → n ≤ pickTop ([1, 2, 3, 4].map count) := by
  rw [pickTop_eq]
  by_cases h4 : 0 < count 4
  · rw [if_pos h4]
    exact ⟨le_refl _, fun _ => h4, fun n _ hn _ => hn⟩
  by_cases h3 : 0 < count 3
  · rw [if_neg h4, if_pos h3]
    refine ⟨by omega, fun _ => h3, fun n _ hn counted => ?_⟩
    have : n ≠ 4 := fun e => h4 (e ▸ counted)
    omega
  by_cases h2 : 0 < count 2
  · rw [if_neg h4, if_neg h3, if_pos h2]
    refine ⟨by omega, fun _ => h2, fun n _ hn counted => ?_⟩
    have : n ≠ 4 := fun e => h4 (e ▸ counted)
    have : n ≠ 3 := fun e => h3 (e ▸ counted)
    omega
  · rw [if_neg h4, if_neg h3, if_neg h2]
    refine ⟨by split <;> omega, fun top => ?_, fun n low hn counted => ?_⟩
    · split at top
      · next h1 => rw [if_pos h1]; exact h1
      · omega
    · have : n ≠ 4 := fun e => h4 (e ▸ counted)
      have : n ≠ 3 := fun e => h3 (e ▸ counted)
      have : n ≠ 2 := fun e => h2 (e ▸ counted)
      have one : n = 1 := by omega
      rw [if_pos (one ▸ counted), one]

/-- The work of a carrier that has class `m` (R82). -/
def State.worksAt (s : State) (k c m : Nat) : Prop :=
  (∃ p ∈ s.pendingPicks k c, s.pickClass p = m) ∨ (s.openTargets k c ≠ [] ∧ m = s.settings.putawayClass) ∨ (s.listed k c = true ∧ m = 0)

theorem top_some {W : Nat → Prop} {t : Nat} (h : W t) (most : ∀ n, W n → n ≤ t) :
    ((some t : Option Nat) = none ↔ ∀ m, ¬W m) ∧ ∀ m, some t = some m ↔ W m ∧ ∀ n, W n → n ≤ m :=
  ⟨⟨fun e => (nomatch e), fun none => absurd h (none t)⟩,
    fun m => ⟨fun e => Option.some.inj e ▸ ⟨h, most⟩, fun ⟨hm, top⟩ => congrArg some (le_antisymm (top t h) (most m hm))⟩⟩

theorem top_none {W : Nat → Prop} (h : ∀ m, ¬W m) :
    ((none : Option Nat) = none ↔ ∀ m, ¬W m) ∧ ∀ m, none = some m ↔ W m ∧ ∀ n, W n → n ≤ m :=
  ⟨⟨fun _ => h, fun _ => rfl⟩, fun m => ⟨fun e => (nomatch e), fun ⟨hm, _⟩ => absurd hm (h m)⟩⟩

/-- The class of a carrier is the highest class among its work, none without work (R82). -/
theorem carrierClass_spec {s : State} (k c : Nat) (put : 1 ≤ s.settings.putawayClass)
    (pickClasses : ∀ p ∈ s.pendingPicks k c, 1 ≤ s.pickClass p ∧ s.pickClass p ≤ 4) :
    (s.carrierClass k c = none ↔ ∀ m, ¬s.worksAt k c m) ∧
      ∀ m, s.carrierClass k c = some m ↔ s.worksAt k c m ∧ ∀ n, s.worksAt k c n → n ≤ m := by
  let count := fun m => ((s.pendingPicks k c).filter fun p => s.pickClass p == m).length
  have counted : ∀ m, 0 < count m ↔ ∃ p ∈ s.pendingPicks k c, s.pickClass p = m := fun m => by
    simp [count, List.length_pos_iff_exists_mem]
  obtain ⟨-, has, most⟩ := pickTop_spec count
  have form : s.carrierClass k c =
      let top := max (pickTop ([1, 2, 3, 4].map count)) (if 0 < (s.openTargets k c).length then s.settings.putawayClass else 0)
      if 0 < top then some top else if s.listed k c then some 0 else none := rfl
  have open_ : 0 < (s.openTargets k c).length ↔ s.openTargets k c ≠ [] := List.length_pos_iff
  rw [form]
  generalize pickTop ([1, 2, 3, 4].map count) = top at *
  have bound : ∀ m, s.worksAt k c m → m ≤ max top (if 0 < (s.openTargets k c).length then s.settings.putawayClass else 0) := by
    rintro m (⟨p, hp, rfl⟩ | ⟨targets, rfl⟩ | ⟨-, rfl⟩)
    · obtain ⟨low, high⟩ := pickClasses p hp
      exact (most _ low high ((counted _).mpr ⟨p, hp, rfl⟩)).trans (le_max_left ..)
    · rw [if_pos (open_.mpr targets)]
      exact le_max_right ..
    · exact Nat.zero_le _
  dsimp only
  by_cases targets : 0 < (s.openTargets k c).length
  · rw [if_pos targets] at bound ⊢
    rw [if_pos (by omega)]
    refine top_some ?_ bound
    rcases le_total top s.settings.putawayClass with below | above
    · rw [max_eq_right below]
      exact .inr (.inl ⟨open_.mp targets, rfl⟩)
    · rw [max_eq_left above]
      exact .inl ((counted _).mp (has (by omega)))
  · rw [if_neg targets, Nat.max_zero] at bound ⊢
    by_cases picks : 0 < top
    · rw [if_pos picks]
      exact top_some (.inl ((counted _).mp (has picks))) bound
    · rw [if_neg picks]
      have zero : top = 0 := by omega
      cases listed : s.listed k c with
      | true => exact top_some (.inr (.inr ⟨listed, rfl⟩)) fun n hn => zero ▸ bound n hn
      | false =>
        refine top_none ?_
        rintro m (⟨p, hp, rfl⟩ | ⟨some_, -⟩ | ⟨yes, -⟩)
        · have := bound _ (.inl ⟨p, hp, rfl⟩)
          have := (pickClasses p hp).1
          omega
        · exact targets (open_.mpr some_)
        · simp [listed] at yes

theorem carrierClass_le {s : State} (put : s.settings.putawayClass ≤ 4) {k c cls : Nat} (h : s.carrierClass k c = some cls) : cls ≤ 4 := by
  have top := (pickTop_spec fun m => ((s.pendingPicks k c).filter fun p => s.pickClass p == m).length).1
  have form : s.carrierClass k c =
      let top := max (pickTop ([1, 2, 3, 4].map fun m => ((s.pendingPicks k c).filter fun p => s.pickClass p == m).length))
        (if 0 < (s.openTargets k c).length then s.settings.putawayClass else 0)
      if 0 < top then some top else if s.listed k c then some 0 else none := rfl
  have second : (if 0 < (s.openTargets k c).length then s.settings.putawayClass else 0) ≤ 4 := by split <;> omega
  rw [form] at h
  dsimp only at h
  by_cases any : 0 < max (pickTop ([1, 2, 3, 4].map fun m => ((s.pendingPicks k c).filter fun p => s.pickClass p == m).length))
      (if 0 < (s.openTargets k c).length then s.settings.putawayClass else 0)
  · rw [if_pos any] at h
    exact Option.some.inj h ▸ max_le top second
  · rw [if_neg any] at h
    cases listed : s.listed k c with
    | true =>
      rw [listed] at h
      exact Option.some.inj h ▸ Nat.zero_le 4
    | false =>
      rw [listed] at h
      exact nomatch h

theorem mem_pendingPicks {s : State} {k c : Nat} {p : Pick} : p ∈ s.pendingPicks k c ↔
    p ∈ s.picks ∧ p.presented = false ∧ p.addr.carousel = k ∧ p.addr.carrier = c := by
  simp [State.pendingPicks, onCarrier]

theorem openTargets_ne_nil {s : State} {k c : Nat} : s.openTargets k c ≠ [] ↔
    ∃ t ∈ s.tasks, ∃ x ∈ t.targets, x.outcome = .opened ∧ x.addr.carousel = k ∧ x.addr.carrier = c := by
  have mem : ∀ q, q ∈ s.openTargets k c ↔
      ∃ t ∈ s.tasks, ∃ x ∈ t.targets, (x.outcome = .opened ∧ x.addr.carousel = k ∧ x.addr.carrier = c) ∧ (t.tag, x) = q := fun q => by
    simp [State.openTargets, onCarrier, and_assoc]
  rw [← List.length_pos_iff, List.length_pos_iff_exists_mem]
  refine ⟨fun ⟨q, hq⟩ => ?_, fun ⟨t, ht, x, hx, of⟩ => ⟨(t.tag, x), (mem _).mpr ⟨t, ht, x, hx, of, rfl⟩⟩⟩
  obtain ⟨t, ht, x, hx, of, -⟩ := (mem q).mp hq
  exact ⟨t, ht, x, hx, of⟩

theorem listed_iff {s : State} {k c : Nat} {r : Carousel} (hr : s.carousel? k = some r) : s.listed k c = true ↔ c ∈ r.auditList := by
  simp only [State.listed, hr, List.contains_iff_mem]

theorem pickClass_of {s : State} {p : Pick} {o : Order} (ho : s.order? p.order = some o) : s.pickClass p = 1 + o.priority / 16 := by
  simp only [State.pickClass, ho, Order.cls]

theorem pickClass_bounds {s : State} (fit : s.recordsFit) {p : Pick} (held : (s.order? p.order).isSome = true) :
    1 ≤ s.pickClass p ∧ s.pickClass p ≤ 4 := by
  obtain ⟨o, ho⟩ := Option.isSome_iff_exists.mp held
  obtain ⟨-, -, -, priorities⟩ := fit
  have := priorities o (List.mem_of_find?_eq_some ho)
  rw [pickClass_of ho]
  omega

/-- Settles O35. -/
theorem thePlanAndTheNextTarget : Obligations.ThePlanAndTheNextTarget := by
  refine ⟨fun n p c w pos _ even hp hc hpos => planFor_spec w even hp hc hpos, fun s k c cls plan r settings hr h => ?next,
    fun s k c r hr => ⟨nextTarget_eq_none hr, standsInUse_iff hr, plan_none hr c, fun q hq => plan_some hr hq⟩,
    fun s k c r hr settings fit held => ?classes⟩
  case next =>
    obtain ⟨put, -⟩ := settings
    obtain ⟨-, high⟩ := inRange_iff.mp put
    rw [nextTarget_eq hr] at h
    obtain ⟨x, least, named⟩ := Option.map_eq_some_iff.mp h
    obtain ⟨d, hd, found⟩ := List.mem_filterMap.mp (leastBy_mem least)
    obtain ⟨cls', plan', hcls, hplan, free, e⟩ := candidate_some.mp found
    subst e
    cases named
    refine ⟨List.mem_range.mp hd, hcls, hplan, free, fun f fcls fplan hf hfcls hfplan ffree => ?_⟩
    have other := leastBy_key least _ (List.mem_filterMap.mpr
      ⟨f, List.mem_range.mpr hf, candidate_some.mpr ⟨fcls, fplan, hfcls, hfplan, ffree, rfl⟩⟩)
    exact candidateKey_ranks (carrierClass_le high hcls) (carrierClass_le high hfcls) other
  case classes =>
    intro work
    obtain ⟨put, -⟩ := settings
    have works : ∀ m, work m ↔ s.worksAt k c m := fun m => by
      refine or_congr ⟨?_, ?_⟩ (or_congr ?_ ?_)
      · rintro ⟨p, hp, pending, hk, hc, o, ho, rfl⟩
        exact ⟨p, mem_pendingPicks.mpr ⟨hp, pending, hk, hc⟩, pickClass_of ho⟩
      · rintro ⟨p, hp, rfl⟩
        obtain ⟨mem, pending, hk, hc⟩ := mem_pendingPicks.mp hp
        obtain ⟨o, ho⟩ := Option.isSome_iff_exists.mp (held p mem)
        exact ⟨p, mem, pending, hk, hc, o, ho, pickClass_of ho⟩
      · rw [openTargets_ne_nil]
        exact ⟨fun ⟨t, ht, x, hx, opened, hk, hc, e⟩ => ⟨⟨t, ht, x, hx, opened, hk, hc⟩, e⟩,
          fun ⟨⟨t, ht, x, hx, opened, hk, hc⟩, e⟩ => ⟨t, ht, x, hx, opened, hk, hc, e⟩⟩
      · rw [listed_iff hr]
    have spec := carrierClass_spec (s := s) k c (inRange_iff.mp put).1 fun p hp => pickClass_bounds fit (held p (mem_pendingPicks.mp hp).1)
    simp only [works]
    exact spec

end Sys2Proof.Machine
end

section
/-! PROOFS. The order of entries, and how presentations open, change and end (O36). -/

namespace Sys2Proof.Machine

/-! ### The order of entries (R110) -/

theorem entryBefore_put_put (s : State) (t u q r : Nat) : s.entryBefore (.put t q) (.put u r) = true ↔ t < u := by
  simp [State.entryBefore, State.entryKey, lexTriple_iff]

theorem pickKey_fst (s : State) (n q : Nat) : (s.entryKey (.pick n q)).1 = 1 := by
  unfold State.entryKey
  dsimp only
  split <;> rfl

theorem entryBefore_put_pick (s : State) (t u q r : Nat) : s.entryBefore (.put t q) (.pick u r) = true := by
  rw [State.entryBefore, lexTriple_iff, pickKey_fst]
  exact .inl Nat.one_pos

theorem entryBefore_pick_put (s : State) (t u q r : Nat) : s.entryBefore (.pick t q) (.put u r) = false :=
  entryBefore_asymm s (entryBefore_put_pick s u t r q)

theorem entryBefore_pick_pick {s : State} {t u : Nat} {x y : Pick} (hx : s.pick? t = some x) (hy : s.pick? u = some y) (q r : Nat) :
    s.entryBefore (.pick t q) (.pick u r) = true ↔ x.seq < y.seq ∨ (x.seq = y.seq ∧ t < u) := by
  simp [State.entryBefore, State.entryKey, hx, hy, lexTriple_iff]

/-! ### The queue of a slot (R110, R111) -/

theorem onSlot_iff (a : SlotAddr) (k c i : Nat) : a = ⟨k, c, i⟩ ↔ (a.carousel = k ∧ a.carrier = c) ∧ a.slot = i := by
  cases a
  simp [and_assoc]

theorem fillQueue_perm (s : State) (k c i : Nat) : (s.fillQueue k c i).Perm
    ((s.tasks.flatMap fun t => (t.targets.filter fun x => decide (x.outcome = .opened ∧ x.addr = ⟨k, c, i⟩)).map fun x =>
        Entry.put t.tag x.quantity) ++
      (s.picks.filter fun p => decide (p.presented = false ∧ p.addr = ⟨k, c, i⟩)).map fun p => Entry.pick p.number p.quantity) := by
  have puts : ((s.openTargets k c).filter fun t => t.2.addr.slot == i).map (fun t => Entry.put t.1 t.2.quantity) =
      s.tasks.flatMap fun t => (t.targets.filter fun x => decide (x.outcome = .opened ∧ x.addr = ⟨k, c, i⟩)).map fun x =>
        Entry.put t.tag x.quantity := by
    rw [State.openTargets, List.filter_flatMap, List.map_flatMap]
    refine congrArg (s.tasks.flatMap ·) (funext fun t => ?_)
    rw [List.filter_map, List.map_map, List.filter_filter]
    refine congrArg (List.map _) (List.filter_congr fun x _ => ?_)
    rw [Bool.eq_iff_iff]
    simp only [Function.comp, onCarrier, Bool.and_eq_true, beq_iff_eq, decide_eq_true_eq, onSlot_iff]
    tauto
  have picks : (s.pendingPicks k c).filter (fun p => p.addr.slot == i) =
      s.picks.filter fun p => decide (p.presented = false ∧ p.addr = ⟨k, c, i⟩) := by
    rw [State.pendingPicks, List.filter_filter]
    refine List.filter_congr fun p _ => ?_
    rw [Bool.eq_iff_iff]
    simp only [onCarrier, Bool.and_eq_true, beq_iff_eq, decide_eq_true_eq, onSlot_iff, Bool.not_eq_true']
    tauto
  rw [← puts, ← picks]
  exact sortBy_perm _ _

/-! ### Opening (R89, R111) -/

theorem modifyAt_const {α : Type} (x : α) (i : Nat) (xs : List α) : modifyAt (fun _ => x) i xs = xs.set i x := by
  unfold modifyAt
  split
  · rfl
  · next none => rw [List.set_eq_of_length_le (List.getElem?_eq_none_iff.mp none)]

/-- A presentation of a carrier opened, its queues filled (R111). -/
def State.filled (s : State) (k w c : Nat) (r : Carousel) : State :=
  { (s.onWindow w fun v => { v with
        presentation := some { carrier := c, queues := (List.range r.geometry.s).map fun i => s.fillQueue k c i },
        displays := (List.range 6).map fun i => s.displayOf (((List.range r.geometry.s).map fun i => s.fillQueue k c i).getD i []) }).setCarousel k
      { r with passed := r.passed.set c 0, state := if r.state = .idle then .presenting else r.state } with
    picks := s.picks.map fun p =>
      if p.presented = false ∧ p.addr.carousel = k ∧ p.addr.carrier = c then { p with presented := true } else p }

section
variable {s : State} {k : Nat} {r : Carousel} (hr : s.carousel? k = some r) (w c : Nat)
include hr

theorem fillPresentation_eq : s.fillPresentation k w c = s.filled k w c r := by
  have marked : (fun p : Pick => if !p.presented && onCarrier p.addr k c then { p with presented := true } else p) =
      fun p => if p.presented = false ∧ p.addr.carousel = k ∧ p.addr.carrier = c then { p with presented := true } else p := by
    funext p
    simp [onCarrier]
  unfold State.fillPresentation State.filled
  simp only [hr, marked, ← modifyAt_const]
  refine (State.onCarousel_eq (c := r) ?_ _).trans ?_
  · exact hr
  · rfl

omit hr in
theorem filled_empty (hw : w < s.windows.length) :
    ((s.filled k w c r).window w).queuesEmpty = true ↔ ∀ i, i < r.geometry.s → s.fillQueue k c i = [] := by
  have open_ : ((s.filled k w c r).window w).presentation =
      some { carrier := c, queues := (List.range r.geometry.s).map fun i => s.fillQueue k c i } := by
    simp [State.filled, State.window, State.onWindow, State.setCarousel, List.getD_eq_getElem?_getD, hw]
  simp [Window.queuesEmpty, open_]

theorem openAt_succ (hw : w < s.windows.length) (n : Nat) :
    ((∀ i, i < r.geometry.s → s.fillQueue k c i = []) →
        s.openAt k w c (n + 1) = (s.filled k w c r).endPresentation k w c (State.openAt k w c n)) ∧
      (¬(∀ i, i < r.geometry.s → s.fillQueue k c i = []) → s.openAt k w c (n + 1) = s.filled k w c r) := by
  have empty := filled_empty (r := r) (k := k) w c hw
  constructor <;> intro h <;> rw [State.openAt, fillPresentation_eq hr]
  · exact if_pos (empty.mpr h)
  · exact if_neg fun e => h (empty.mp e)

theorem openWindow_eq : s.openWindow k w =
    if (s.window w).inUse || !s.hasWork k (s.standing r w) then s else s.openAt k w (s.standing r w) openFuel := by
  simp only [State.openWindow, hr]

theorem openWindow_idle (h : (s.window w).presentation ≠ none ∨ (s.window w).measurement ≠ none ∨ s.carrierClass k (s.standing r w) = none) :
    s.openWindow k w = s := by
  rw [openWindow_eq hr]
  refine if_pos ?_
  rw [Bool.or_eq_true, Window.inUse, Bool.or_eq_true, Option.isSome_iff_ne_none, Option.isSome_iff_ne_none, State.hasWork]
  rcases h with h | h | h
  · exact .inl (.inl h)
  · exact .inl (.inr h)
  · exact .inr (by rw [h]; rfl)

theorem openWindow_opens (presentation : (s.window w).presentation = none) (measurement : (s.window w).measurement = none)
    (work : s.carrierClass k (s.standing r w) ≠ none) : s.openWindow k w = s.openAt k w (s.standing r w) openFuel := by
  rw [openWindow_eq hr]
  refine if_neg ?_
  rw [Window.inUse, presentation, measurement, State.hasWork, Option.isSome_iff_ne_none.mpr work]
  exact Bool.false_ne_true

/-! ### The end of a presentation (R114, R149) -/

theorem endPresentation_rests (opening : State → State) (h : r.state = .offline ∨ c ∉ r.auditList ∨ s.auditTest k c = false) :
    s.endPresentation k w c opening = s.dropPresentation w := by
  have read : (s.dropPresentation w).carousel? k = some r := hr
  have test : (s.dropPresentation w).auditTest k c = s.auditTest k c := rfl
  have rests : ¬(r.state ≠ .offline ∧ r.auditList.contains c = true ∧ (s.dropPresentation w).auditTest k c = true) := by
    rintro ⟨online, listed, due⟩
    rcases h with h | h | h
    · exact online h
    · exact h (List.contains_iff_mem.mp listed)
    · exact absurd (h.symm.trans (test.symm.trans due)) Bool.false_ne_true
  simp only [State.endPresentation, read, if_neg rests]

theorem endPresentation_counts (opening : State → State) (online : r.state ≠ .offline) (listed : c ∈ r.auditList)
    (due : s.auditTest k c = true) {t : State} {all : Bool} (started : (s.dropPresentation w).startMeasurement k w c = (t, all)) :
    s.endPresentation k w c opening = if all then t.endMeasurement k w c opening else t := by
  have read : (s.dropPresentation w).carousel? k = some r := hr
  have counts : r.state ≠ .offline ∧ r.auditList.contains c = true ∧ (s.dropPresentation w).auditTest k c = true :=
    ⟨online, List.contains_iff_mem.mpr listed, due⟩
  simp only [State.endPresentation, read, if_pos counts, started]
  cases all <;> rfl

theorem auditTest_iff (place : c < r.geometry.n) : s.auditTest k c = true ↔
    ∀ j x, s.slot? ⟨k, c, j⟩ = some x → x.reserved = 0 ∧ x.pending = 0 := by
  have read : ∀ j, s.slot? ⟨k, c, j⟩ = if j < r.geometry.s then (r.carrierSlots c)[j]? else none := fun j => by
    rw [slot?_of_carousel hr]
    by_cases hj : j < r.geometry.s
    · rw [if_pos ⟨place, hj⟩, if_pos hj, carrierSlots_get r hj]
    · rw [if_neg fun h => hj h.2, if_neg hj]
  have width : (r.carrierSlots c).length ≤ r.geometry.s := List.length_take_le ..
  simp only [State.auditTest, hr, List.all_eq_true, Bool.and_eq_true, decide_eq_true_eq, read]
  refine ⟨fun all j x hx => ?_, fun all x hx => ?_⟩
  · split at hx
    · exact all x (List.mem_of_getElem? hx)
    · exact nomatch hx
  · obtain ⟨j, hj⟩ := List.mem_iff_getElem?.mp hx
    have place' : j < r.geometry.s := (List.getElem?_eq_some_iff.mp hj).1.trans_le width
    exact all j x (by rw [if_pos place', hj])

end

/-! ### The end test (R100, R114) -/

section
variable {s : State} {w k : Nat} {p : Presentation} (hp : (s.window w).presentation = some p) (hk : s.carouselOf w = some k)
include hp hk

theorem testEnd_ends (empty : ∀ q ∈ p.queues, q = []) :
    s.testEnd w = (s.endPresentation k w p.carrier (State.openAt k w p.carrier openFuel)).testWindows k := by
  have all : (s.window w).queuesEmpty = true := by simpa [Window.queuesEmpty, hp] using empty
  simp only [State.testEnd, hp, hk, all, if_true]

theorem testEnd_stays (full : ∃ q ∈ p.queues, q ≠ []) : s.testEnd w = s := by
  have some_ : ¬(s.window w).queuesEmpty = true := by simpa [Window.queuesEmpty, hp] using full
  simp only [State.testEnd, hp, hk, if_neg some_]

end

theorem testEnd_none {s : State} {w : Nat} (h : (s.window w).presentation = none) : s.testEnd w = s := by
  simp only [State.testEnd, h]

/-! ### Where a carrier is presented (R112, R113) -/

theorem presentingWindow_none {s : State} {k c : Nat} : s.presentingWindow k c = none ↔
    ∀ w p, w < 8 → s.carouselOf w = some k → (s.window w).presentation = some p → p.carrier ≠ c := by
  unfold State.presentingWindow
  rw [List.find?_eq_none]
  refine ⟨fun none w p hw of hp => ?_, fun none w hw => ?_⟩
  · have other := none w (mem_windowsOf.mpr ⟨hw, of⟩)
    simpa [hp] using other
  · obtain ⟨hw, of⟩ := mem_windowsOf.mp hw
    cases hp : (s.window w).presentation with
    | none => exact Bool.false_ne_true
    | some p => simpa using none w p hw of hp

section
variable {s : State} {w : Nat} {p : Presentation} (hp : (s.window w).presentation = some p)
include hp

/-- A queue rewritten, its display set again when its head has changed (R112, R113, R116). -/
theorem rewriteQueue_eq (i : Nat) (f : List Entry → List Entry) : s.rewriteQueue w i f = s.onWindow w fun v => { v with
    presentation := some { p with queues := p.queues.set i (f (p.queues.getD i [])) },
    displays := if (p.queues.getD i []).head? = (f (p.queues.getD i [])).head? then v.displays
      else v.displays.set i (s.displayOf (f (p.queues.getD i []))) } := by
  simp only [State.rewriteQueue, hp]
  rfl

end

theorem joinQueue_behind (s : State) (e h : Entry) (rest : List Entry) (later : s.entryBefore e h = false) :
    ∃ l r, rest = l ++ r ∧ s.joinQueue e (h :: rest) = h :: (l ++ e :: r) ∧ (∀ x ∈ l, s.entryBefore e x = false) ∧
      ∀ x ∈ r.head?, s.entryBefore e x = true := by
  obtain ⟨l, r, parts, joined, before, after⟩ := insertBy_split s.entryBefore e rest
  refine ⟨l, r, parts, ?_, before, after⟩
  rw [State.joinQueue, later, joined]
  rfl

/-! ### Cancellation (R115) -/

/-- The entry is of the pick. -/
def Entry.isOf (number : Nat) : Entry → Bool
  | .pick n _ => n == number
  | .put _ _ => false

/-- The pick of an entry. -/
def Entry.number : Entry → Option Nat
  | .pick n _ => some n
  | .put _ _ => none

theorem isOf_iff (e : Entry) (number : Nat) : e.isOf number = true ↔ e.number = some number := by
  cases e <;> simp [Entry.isOf, Entry.number]

theorem cancelPresentation_eq {s : State} {w : Nat} {p : Presentation} (hp : (s.window w).presentation = some p) :
    s.cancelPresentation w = State.onWindow { s with
      picks := s.picks.map fun x => if p.queues.any fun q => q.any (Entry.isOf x.number) then { x with presented := false } else x }
      w fun v => { v with presentation := none, displays := List.replicate 6 Display.blank } := by
  have named : ∀ x : Pick, (p.queues.flatten.filterMap Entry.number).contains x.number = p.queues.any fun q => q.any (Entry.isOf x.number) := by
    intro x
    rw [Bool.eq_iff_iff, List.contains_iff_mem, List.mem_filterMap]
    simp only [List.mem_flatten, List.any_eq_true]
    refine ⟨fun ⟨e, ⟨q, hq, he⟩, of⟩ => ⟨q, hq, e, he, (isOf_iff _ _).mpr of⟩, fun ⟨q, hq, e, he, of⟩ => ⟨e, ⟨q, hq, he⟩, (isOf_iff _ _).mp of⟩⟩
  simp only [State.cancelPresentation, hp, ← named]
  rfl

/-- Settles O36. -/
theorem reactionsMoveNoTyre : Obligations.ReactionsMoveNoTyre := by
  refine ⟨fun s k w c p cs reason => ?lasts, fun s t u q r => ⟨entryBefore_put_put s t u q r, entryBefore_put_pick s t u q r,
      entryBefore_pick_put s t u q r, fun x y hx hy => entryBefore_pick_pick hx hy q r⟩,
    fun s k c i => ⟨fillQueue_perm s k c i, fillQueue_pairwise s k c i⟩, fun s k w c n r hr => ?opens, fun s k w c r opening hr => ?ends,
    fun s w k p hp hk => ⟨testEnd_ends hp hk, testEnd_stays hp hk⟩, fun s w => ⟨testEnd_none, rfl⟩,
    fun s k c => ⟨presentingWindow_none, fun w h => ?presents⟩, fun s a e h rest => ?queues, fun s w => ⟨?idle, fun p hp => ?cancels⟩⟩
  case lasts =>
    exact ⟨lasting_idleAndAct .., lasting_openStanding .., lasting_testEnds _, lasting_testWindows .., lasting_gainWork .., lasting_enterFault ..,
      lasting_startMeasurement .., lasting_finishCount .., lasting_carouselLinkLost .., lasting_learnPosition .., lasting_refresh _, lasting_park ..,
      lasting_endStop ..⟩
  case opens =>
    intro queues filled
    refine ⟨fillPresentation_eq hr w c, fun hw => ?_, openWindow_idle hr w, openWindow_opens hr w⟩
    obtain ⟨ends, stays⟩ := openAt_succ hr w c hw n
    split
    · next empty => exact ends empty
    · next full => exact stays full
  case ends =>
    intro dropped
    refine ⟨endPresentation_rests hr w c opening, fun online listed due => ?_, fun place _ => auditTest_iff hr c place⟩
    split
    · next t ht => exact endPresentation_counts hr w c opening online listed due (all := true) ht
    · next t ht => exact endPresentation_counts hr w c opening online listed due (all := false) ht
  case presents =>
    obtain ⟨member, of⟩ := presentingWindow_some h
    exact ⟨(mem_windowsOf.mp member).1, (mem_windowsOf.mp member).2, of⟩
  case queues =>
    refine ⟨fun none => ?_, fun w p hw hp => ?_, rfl, fun before => ?_, joinQueue_behind s e h rest⟩
    · simp only [State.joinEntry, State.removeEntry, none, and_self]
    · intro old put
      simp only [State.joinEntry, State.removeEntry, hw, rewriteQueue_eq hp, List.contains_iff_mem]
      exact ⟨rfl, rfl⟩
    · rw [State.joinQueue, if_pos before]
  case idle =>
    intro none
    simp only [State.cancelPresentation, none]
  case cancels =>
    rw [cancelPresentation_eq hp]
    rfl

end Sys2Proof.Machine
end

section
/-! PROOFS. Lane binding (O31). -/

namespace Sys2Proof.Machine

/-! ### The FREE lane that fits (R132) -/

theorem leastBy_sorted (size : Nat → Nat) {xs : List Nat} {x : Nat} (sorted : xs.Pairwise (· < ·))
    (h : leastBy (fun a b => decide (size a < size b)) xs = some x) : ∀ y ∈ xs, size x < size y ∨ (size x = size y ∧ x ≤ y) := by
  obtain ⟨least, l, r, rfl, first⟩ := leastBy_measure size h
  intro y hy
  rw [List.pairwise_append, List.pairwise_cons] at sorted
  obtain ⟨-, ⟨ahead, -⟩, -⟩ := sorted
  have atMost := least y hy
  rw [List.mem_append, List.mem_cons] at hy
  rcases hy with behind | rfl | later
  · exact .inl (first y behind)
  · exact .inr ⟨rfl, le_refl _⟩
  · have := ahead y later
    omega

theorem mem_freeLanes {s : State} {n : Nat} : n ∈ s.freeLanes ↔ n < 8 ∧ ∃ l, s.lanes.getD n none = some l ∧ l.state = .free := by
  unfold State.freeLanes
  rw [List.mem_filter, List.mem_range]
  cases s.lanes.getD n none <;> simp

theorem capacity_of {s : State} {n : Nat} {l : Lane} (h : s.lanes.getD n none = some l) : s.capacity n = l.capacity := by
  simp only [State.capacity, h]

theorem freeLanes_sorted (s : State) : s.freeLanes.Pairwise (· < ·) := List.pairwise_lt_range.filter _

theorem mem_fitting {s : State} {q n : Nat} : n ∈ s.freeLanes.filter (fun n => decide (q ≤ s.capacity n)) ↔
    n < 8 ∧ ∃ l, s.lanes.getD n none = some l ∧ l.state = .free ∧ q ≤ l.capacity := by
  rw [List.mem_filter, mem_freeLanes, decide_eq_true_eq]
  constructor
  · rintro ⟨⟨hn, l, hl, free⟩, fits⟩
    exact ⟨hn, l, hl, free, capacity_of hl ▸ fits⟩
  · rintro ⟨hn, l, hl, free, fits⟩
    exact ⟨⟨hn, l, hl, free⟩, (capacity_of hl).symm ▸ fits⟩

theorem laneFor_some {s : State} {q n : Nat} (h : s.laneFor q = some n) : n < 8 ∧
    ∃ l, s.lanes.getD n none = some l ∧ l.state = .free ∧ q ≤ l.capacity ∧
      ∀ m l', m < 8 → s.lanes.getD m none = some l' → l'.state = .free → q ≤ l'.capacity →
        l.capacity < l'.capacity ∨ (l.capacity = l'.capacity ∧ n ≤ m) := by
  obtain ⟨hn, l, hl, free, fits⟩ := mem_fitting.mp (leastBy_mem h)
  refine ⟨hn, l, hl, free, fits, fun m l' hm hl' free' fits' => ?_⟩
  have least := leastBy_sorted s.capacity ((freeLanes_sorted s).filter _) h m (mem_fitting.mpr ⟨hm, l', hl', free', fits'⟩)
  rwa [capacity_of hl, capacity_of hl'] at least

theorem laneFor_none {s : State} {q : Nat} : s.laneFor q = none ↔
    ∀ n l, n < 8 → s.lanes.getD n none = some l → l.state = .free → l.capacity < q := by
  rw [State.laneFor, leastBy_eq_none, List.eq_nil_iff_forall_not_mem]
  refine forall_congr' fun n => ?_
  rw [mem_fitting]
  refine ⟨fun none l hn hl free => ?_, fun small ⟨hn, l, hl, free, fits⟩ => absurd (small l hn hl free) (Nat.not_lt.mpr fits)⟩
  by_contra fits
  exact none ⟨hn, l, hl, free, Nat.not_lt.mp fits⟩

/-! ### The order of consideration (R132) -/

section
variable {α : Type} {size : α → Nat}

/-- What is inserted by falling size into a list of falling sizes stands behind those of its own size. -/
theorem filter_insertBy_falling (x : α) {xs : List α} (falling : xs.Pairwise fun a b => size b ≤ size a) (n : Nat) :
    (insertBy (fun a b => decide (size b < size a)) x xs).filter (fun a => decide (size a = n)) =
      xs.filter (fun a => decide (size a = n)) ++ [x].filter fun a => decide (size a = n) := by
  obtain ⟨l, r, rfl, inserted, -, after⟩ := insertBy_split (fun a b => decide (size b < size a)) x xs
  rw [inserted, List.filter_append, List.filter_append, ← List.singleton_append, List.filter_append]
  by_cases hx : size x = n
  · have none : r.filter (fun a => decide (size a = n)) = [] := by
      cases r with
      | nil => rfl
      | cons y ys =>
        obtain ⟨-, tail, -⟩ := List.pairwise_append.mp falling
        obtain ⟨ahead, -⟩ := List.pairwise_cons.mp tail
        have less : size y < size x := by simpa using after y rfl
        rw [List.filter_eq_nil_iff]
        intro z hz
        rw [decide_eq_true_eq]
        rcases List.mem_cons.mp hz with rfl | hz
        · omega
        · have := ahead z hz
          omega
    rw [none, List.append_nil, List.append_nil]
  · have none : [x].filter (fun a => decide (size a = n)) = [] := by simp [hx]
    rw [none, List.nil_append, List.append_nil]

theorem insertBy_falling (x : α) {xs : List α} (falling : xs.Pairwise fun a b => size b ≤ size a) :
    (insertBy (fun a b => decide (size b < size a)) x xs).Pairwise fun a b => size b ≤ size a := by
  obtain ⟨l, r, rfl, inserted, before, after⟩ := insertBy_split (fun a b => decide (size b < size a)) x xs
  obtain ⟨left, right, across⟩ := List.pairwise_append.mp falling
  rw [inserted]
  refine List.pairwise_append.mpr ⟨left, List.pairwise_cons.mpr ⟨fun y hy => ?_, right⟩, fun a ha b hb => ?_⟩
  · cases r with
    | nil => cases hy
    | cons z zs =>
      have less : size z < size x := by simpa using after z rfl
      rcases List.mem_cons.mp hy with rfl | hy
      · exact less.le
      · exact ((List.pairwise_cons.mp right).1 y hy).trans less.le
  · rcases List.mem_cons.mp hb with rfl | hb
    · have := before a ha
      simpa using this
    · exact across a ha b hb

/-- A sort by falling size is falling, and keeps those of one size in their order. -/
theorem sortBy_falling (xs : List α) :
    (sortBy (fun a b => decide (size b < size a)) xs).Pairwise (fun a b => size b ≤ size a) ∧
      ∀ n, (sortBy (fun a b => decide (size b < size a)) xs).filter (fun a => decide (size a = n)) =
        xs.filter fun a => decide (size a = n) := by
  have sorted : ∀ (ys acc : List α), (acc.Pairwise fun a b => size b ≤ size a) →
      (ys.foldl (fun acc x => insertBy (fun a b => decide (size b < size a)) x acc) acc).Pairwise (fun a b => size b ≤ size a) ∧
        ∀ n, (ys.foldl (fun acc x => insertBy (fun a b => decide (size b < size a)) x acc) acc).filter (fun a => decide (size a = n)) =
          (acc ++ ys).filter fun a => decide (size a = n) := by
    intro ys
    induction ys with
    | nil => exact fun acc h => ⟨h, fun n => by rw [List.append_nil, List.foldl_nil]⟩
    | cons y ys ih =>
      intro acc h
      obtain ⟨falling, classes⟩ := ih _ (insertBy_falling y h)
      refine ⟨falling, fun n => ?_⟩
      have e : acc ++ y :: ys = (acc ++ [y]) ++ ys := by simp
      rw [List.foldl_cons, classes, List.filter_append, filter_insertBy_falling y h, e, List.filter_append, List.filter_append]
  exact sorted xs [] .nil

end

/-! ### The next binding (R132) -/

theorem nextBinding_some {s : State} {o : Order} {n : Nat} (h : s.nextBinding = some (o, n)) : s.laneFor o.requestedTotal = some n ∧
    ∃ before after, s.waiting = before ++ o :: after ∧ ∀ x ∈ before, s.laneFor x.requestedTotal = none := by
  obtain ⟨before, x, after, parts, found, none⟩ := List.findSome?_eq_some_iff.mp h
  obtain ⟨m, lane, e⟩ := Option.map_eq_some_iff.mp found
  cases e
  exact ⟨lane, before, after, parts, fun y hy => Option.map_eq_none_iff.mp (none y hy)⟩

theorem nextBinding_none {s : State} : s.nextBinding = none ↔ ∀ x ∈ s.waiting, s.laneFor x.requestedTotal = none := by
  simp only [State.nextBinding, List.findSome?_eq_none_iff, Option.map_eq_none_iff]

/-! ### A binding (R63, R131) -/

/-- What pick allocation leaves of the orders, order by order. -/
theorem order?_of_stored {s t : State} (h : t.stored = s.stored) (tag : Nat) :
    (t.order? tag).map Order.stored = (s.order? tag).map Order.stored := by
  have orders : t.orders.map Order.stored = s.orders.map Order.stored := (congrArg State.orders h :)
  have read : ∀ u : State, (u.order? tag).map Order.stored = (u.orders.map Order.stored).find? fun o => o.tag == tag := fun u => by
    rw [List.find?_map]
    rfl
  rw [read, read, orders]

/-- The order with its lane bound (R63). -/
def Order.bound (o : Order) (n admission : Nat) : Order := { o with state := .active, lane := some n, admission := some admission }

/-- The part with a lane bound to an order, the notice and the allocation of its lines still to come (R132). -/
def State.bound (s : State) (tag n : Nat) : State :=
  { (s.setLaneState n (.bound tag)).onOrder tag fun o => o.bound n s.admissions with
    submission := s.submission.filter fun t => decide (t ≠ tag), admissions := countUp 4294967295 s.admissions }

theorem bind_eq (s : State) (tag n : Nat) : s.bind tag n = ((s.bound tag n).notifyOrder tag .active).allocateOrder tag := rfl

theorem stored_bind (s : State) (tag n : Nat) : (s.bind tag n).stored = (s.bound tag n).stored := by
  rw [bind_eq, stored_allocateOrder, stored_of_lasting (lasting_notifyOrder ..)]

theorem lanes_bind (s : State) (tag n : Nat) : (s.bind tag n).lanes = (s.setLaneState n (.bound tag)).lanes := by
  have kept : ∀ t u : State, t.stored = u.stored → t.lanes = u.lanes := fun t u h => (congrArg State.lanes h :)
  exact kept _ (s.bound tag n) (stored_bind s tag n)

theorem order?_bind {s : State} {o : Order} (ho : s.order? o.tag = some o) (n : Nat) :
    ∃ x, (s.bind o.tag n).order? o.tag = some x ∧ x.stored = (o.bound n s.admissions).stored := by
  have bound : (s.bound o.tag n).order? o.tag = some (o.bound n s.admissions) :=
    order?_onOrder_self (s := s.setLaneState n (.bound o.tag)) (f := fun o => o.bound n s.admissions) (fun _ => rfl) ho
  have same := order?_of_stored (stored_bind s o.tag n) o.tag
  rw [bound, Option.map_some] at same
  obtain ⟨x, hx, e⟩ := Option.map_eq_some_iff.mp same
  exact ⟨x, hx, e⟩

theorem setLaneState_lane {s : State} {n : Nat} {l : Lane} (hl : s.lanes.getD n none = some l) (st : LaneState) (m : Nat) :
    (s.setLaneState n st).lanes.getD m none = if m = n then some { l with state := st } else s.lanes.getD m none := by
  have read : s.lanes[n]? = some (some l) := by
    rw [List.getD_eq_getElem?_getD] at hl
    cases h : s.lanes[n]? with
    | none => simp [h] at hl
    | some x =>
      rw [h, Option.getD_some] at hl
      rw [hl]
  rw [State.setLaneState, List.getD_eq_getElem?_getD, List.getD_eq_getElem?_getD]
  split
  · next e =>
    subst e
    rw [modifyAt_getElem?_self read]
    rfl
  · next e => rw [modifyAt_getElem?_ne _ e]

/-! ### The length of a run (R132) -/

theorem freeLanes_bind {s : State} {tag n : Nat} (hn : n ∈ s.freeLanes) : (s.bind tag n).freeLanes.length < s.freeLanes.length := by
  obtain ⟨hlt, l, hl, free⟩ := mem_freeLanes.mp hn
  have fewer : (s.bind tag n).freeLanes = s.freeLanes.filter fun m => decide (m ≠ n) := by
    refine List.Pairwise.eq_of_mem_iff (r := (· < ·)) (freeLanes_sorted _) ((freeLanes_sorted s).filter _) fun m => ?_
    rw [List.mem_filter, mem_freeLanes, mem_freeLanes, lanes_bind, setLaneState_lane hl]
    by_cases e : m = n
    · subst e
      simp
    · simp [e]
  rw [fewer]
  refine lt_of_le_of_ne (List.length_filter_le ..) fun all => ?_
  have := (List.length_filter_eq_length_iff.mp all) n hn
  simp at this

theorem nextBinding_free {s : State} {o : Order} {n : Nat} (h : s.nextBinding = some (o, n)) : n ∈ s.freeLanes := by
  obtain ⟨hn, l, hl, free, -⟩ := laneFor_some (nextBinding_some h).1
  exact mem_freeLanes.mpr ⟨hn, l, hl, free⟩

theorem bindingRun_none {s : State} (h : s.nextBinding = none) (fuel : Nat) : s.bindingRun fuel = s := by
  cases fuel with
  | zero => rfl
  | succ fuel => simp only [State.bindingRun, h]

theorem bindingRun_succ {s : State} {o : Order} {n : Nat} (h : s.nextBinding = some (o, n)) (fuel : Nat) :
    s.bindingRun (fuel + 1) = (s.bind o.tag n).bindingRun fuel := by
  simp only [State.bindingRun, h]

/-- A run with more fuel than there are FREE lanes goes on until no binding is left (R132). -/
theorem bindingRun_ends (fuel : Nat) : ∀ {s : State}, s.freeLanes.length < fuel →
    s.bindingRun fuel = s.bindingRun (fuel + 1) ∧ (s.bindingRun fuel).nextBinding = none := by
  induction fuel with
  | zero => exact fun h => absurd h (Nat.not_lt_zero _)
  | succ fuel ih =>
    intro s h
    cases next : s.nextBinding with
    | none => rw [bindingRun_none next, bindingRun_none next]; exact ⟨rfl, next⟩
    | some b =>
      have fewer := freeLanes_bind (tag := b.1.tag) (nextBinding_free next)
      rw [bindingRun_succ next, bindingRun_succ next]
      exact ih (by omega)

theorem freeLanes_le (s : State) : s.freeLanes.length ≤ 8 := (List.length_filter_le ..).trans (by simp)

/-- Settles O31. -/
theorem laneBindingTakesTheSmallestLaneThatFits : Obligations.LaneBindingTakesTheSmallestLaneThatFits := by
  refine ⟨fun s q n => laneFor_some, fun s q => laneFor_none, fun s o n => nextBinding_some, fun s => nextBinding_none,
    fun s => ⟨sortBy_perm _ _, sortBy_falling (size := Order.cls) _⟩,
    fun s => ⟨fun none => bindingRun_none none _, fun o n next => ?goes, (bindingRun_ends bindFuel (Nat.lt_succ_of_le (freeLanes_le s))).2⟩,
    fun s o n l ho hn hl => ?binds⟩
  case goes =>
    have fewer := freeLanes_bind (tag := o.tag) (nextBinding_free next)
    have room := freeLanes_le s
    have enough : (s.bind o.tag n).freeLanes.length < 8 := by omega
    exact (bindingRun_succ next 8).trans (bindingRun_ends 8 enough).1
  case binds =>
    obtain ⟨x, hx, e⟩ := order?_bind ho n
    have kept : ∀ t u : State, t.stored = u.stored → t.submission = u.submission ∧ t.admissions = u.admissions := fun t u h =>
      ⟨(congrArg State.submission h :), (congrArg State.admissions h :)⟩
    obtain ⟨submission, admissions⟩ := kept _ _ (stored_bind s o.tag n)
    refine ⟨⟨x, hx, (congrArg Order.state e :), (congrArg Order.lane e :), (congrArg Order.admission e :), (congrArg Order.lines e :)⟩, ?_, ?_, ?_⟩
    · rw [lanes_bind, setLaneState_lane hl, if_pos rfl]
    · rw [submission]
      simp [State.bound]
    · rw [admissions]
      rfl

end Sys2Proof.Machine
end

section
/-! PROOFS. SUBMIT_ORDER (O30). -/

namespace Sys2Proof.Machine

/-- What lane binding leaves of the orders, order by order. -/
theorem order?_of_unbound {s t : State} (h : t.unbound = s.unbound) (tag : Nat) :
    (t.order? tag).map (fun o => o.stored.unbound) = (s.order? tag).map fun o => o.stored.unbound := by
  have orders : (t.orders.map Order.stored).map Order.unbound = (s.orders.map Order.stored).map Order.unbound :=
    (congrArg State.orders h :)
  have read : ∀ u : State, (u.order? tag).map (fun o => o.stored.unbound) =
      ((u.orders.map Order.stored).map Order.unbound).find? fun o => o.tag == tag := fun u => by
    rw [List.map_map, List.find?_map]
    rfl
  rw [read, read, orders]

theorem newLine_of {s : State} {l : Nat × Nat} {place : Nat} {a : Article} (h : s.articleOf l.1 = some (place, a)) :
    s.newLine l = { place := place, requested := l.2, picked := 0, delivered := 0, openPicks := 0, short := false } := by
  simp only [State.newLine, h]

theorem known_lines {s : State} {lines : List (Nat × Nat)} (known : s.unknownLine lines = none) {l : Nat × Nat} (hl : l ∈ lines) :
    ∃ place a, s.articleOf l.1 = some (place, a) := by
  have held := List.findIdx?_eq_none_iff.mp known l hl
  cases h : s.articleOf l.1 with
  | none => rw [h] at held; exact nomatch held
  | some q => exact ⟨q.1, q.2, rfl⟩

theorem requestedTotal_newOrder (s : State) (tag priority : Nat) (lines : List (Nat × Nat)) :
    (s.newOrder tag priority lines).requestedTotal = total (lines.map Prod.snd) := by
  rw [Order.requestedTotal, State.newOrder, List.map_map]
  rfl

theorem submitOrder_taken {s : State} {tag priority : Nat} {lines : List (Nat × Nat)} (mode : s.mode ≠ .config)
    (fields : orderFields tag lines = true) (known : s.unknownLine lines = none) (new : s.order? tag = none)
    (fits : s.tooLarge (total (lines.map Prod.snd)) = false) (orders : s.orders.length < 64) (room : s.lineCount + lines.length ≤ 256) :
    submitOrder tag priority lines s = .reply (s.submit (s.newOrder tag priority lines)).refresh .ok
      ((s.submit (s.newOrder tag priority lines)).submitted (s.newOrder tag priority lines)) := by
  have space : ¬(Config.orderPool ≤ s.orders.length ∨ Config.linePool < s.lineCount + lines.length) := by
    rintro (h | h)
    · exact absurd orders (Nat.not_lt.mpr h)
    · exact absurd room (Nat.not_le.mpr h)
  simp only [submitOrder, if_neg mode, fields, Bool.not_true, Bool.false_eq_true, if_false, known, new, Option.isSome_none, fits, if_neg space]

theorem submitted_of {s : State} {o x : Order} (h : s.order? o.tag = some x) :
    s.submitted o = .submitted o.tag o.priority o.cls o.requestedTotal x.state x.lane := by
  simp only [State.submitted, h]

/-- Settles O30. -/
theorem submitOrderStoresTheOrder : Obligations.SubmitOrderStoresTheOrder := by
  intro s tag order priority lines free ht mode fields known new fits orders room o s1 u
  have run : u.unbound = s1.unbound := unbound_bindingRun ..
  have stored : s1.order? order = some o := by
    show (s.orders ++ [o]).find? _ = some o
    rw [List.find?_append]
    have absent : s.orders.find? (fun x => x.tag == order) = none := new
    rw [absent]
    simp [o]
  obtain ⟨x, hx, same⟩ : ∃ x, u.order? order = some x ∧ x.stored.unbound = o.stored.unbound := by
    have kept := order?_of_unbound run order
    rw [stored, Option.map_some] at kept
    exact Option.map_eq_some_iff.mp kept
  refine ⟨fun l hl => ?_, ⟨x, hx, same, ?_⟩, run, fun none => bindingRun_none none _⟩
  · obtain ⟨place, a, ha⟩ := known_lines known hl
    exact ⟨place, a, ha, newLine_of ha⟩
  · refine (exec_lineFree (kind := 0x30) (tag := tag) rfl free ht).trans ?_
    simp only [ownerOf]
    rw [submitOrder_taken (s := s.take 0x30 tag) mode fields known new fits orders room,
      submitted_of (s := (s.take 0x30 tag).submit ((s.take 0x30 tag).newOrder order priority lines))
        (o := (s.take 0x30 tag).newOrder order priority lines) (x := x) hx, requestedTotal_newOrder]
    rfl

end Sys2Proof.Machine
end

section
/-! PROOFS. SHIP, LANE_CLEARED and the freeing of an order (O34). -/

namespace Sys2Proof.Machine

/-! ### The freeing of an order (R79) -/

/-- The record of an order and its place in the submission list removed (R79). -/
def State.without (s : State) (order : Nat) : State :=
  { s with orders := s.orders.filter fun x => decide (x.tag ≠ order), submission := s.submission.filter fun t => decide (t ≠ order) }

section
variable {s : State} {order : Nat} {o : Order} (ho : s.order? order = some o)
include ho

theorem freeOrder_lane {n : Nat} (hn : o.lane = some n) :
    s.freeOrder order = (((s.cancelOrderPicks order).without order).setLaneState n .free).bindingRun bindFuel := by
  simp only [State.freeOrder, ho, hn]
  rfl

theorem freeOrder_noLane (hn : o.lane = none) : s.freeOrder order = (s.cancelOrderPicks order).without order := by
  simp only [State.freeOrder, ho, hn]
  rfl

end

theorem order?_filtered (s : State) (order : Nat) :
    State.order? { s with orders := s.orders.filter fun x => decide (x.tag ≠ order) } order = none := by
  show (s.orders.filter fun x => decide (x.tag ≠ order)).find? (fun x => x.tag == order) = none
  rw [List.find?_eq_none]
  intro x hx
  have other := (List.mem_filter.mp hx).2
  simpa using other

theorem order?_freeOrder (s : State) (order : Nat) : (s.freeOrder order).order? order = none := by
  have kept := order?_of_unbound (unbound_freeOrder s order) order
  rw [order?_filtered] at kept
  exact Option.map_eq_none_iff.mp kept

theorem order?_refresh (s : State) (order : Nat) : s.refresh.order? order = s.order? order := by
  have orders : ∀ t u : State, t.lasting = u.lasting → t.orders = u.orders := fun t u h => (congrArg State.orders h :)
  exact order?_of_orders (orders _ _ (lasting_refresh s)) order

theorem lanes_refresh (s : State) : s.refresh.lanes = s.lanes := by
  have lanes : ∀ t u : State, t.lasting = u.lasting → t.lanes = u.lanes := fun t u h => (congrArg State.lanes h :)
  exact lanes _ _ (lasting_refresh s)

theorem nextBinding_empty {s : State} (h : s.submission = []) : s.nextBinding = none := by
  refine nextBinding_none.mpr fun x hx => ?_
  have waiting : s.waiting = [] := by
    rw [State.waiting, h]
    rfl
  rw [waiting] at hx
  exact nomatch hx

theorem modifyAt_lane {s : State} {n : Nat} {l : Lane} (hl : s.lanes.getD n none = some l) (st : LaneState) :
    (s.setLaneState n st).lanes = s.lanes.set n (some { l with state := st }) := by
  have read : s.lanes[n]? = some (some l) := by
    rw [List.getD_eq_getElem?_getD] at hl
    cases h : s.lanes[n]? with
    | none => simp [h] at hl
    | some x =>
      rw [h, Option.getD_some] at hl
      rw [hl]
  simp only [State.setLaneState, modifyAt, read, Option.map_some]

/-- With no order waiting, an order freed leaves its lane FREE and nothing is bound to it (R79). -/
theorem lanes_freeOrder {s : State} {order n : Nat} {o : Order} {l : Lane} (ho : s.order? order = some o) (idle : s.submission = [])
    (hn : o.lane = some n) (hl : s.lanes.getD n none = some l) : (s.freeOrder order).lanes = s.lanes.set n (some { l with state := .free }) := by
  have kept : ∀ t u : State, t.stored = u.stored → t.lanes = u.lanes ∧ t.submission = u.submission := fun t u h =>
    ⟨(congrArg State.lanes h :), (congrArg State.submission h :)⟩
  obtain ⟨lanes, submission⟩ := kept _ _ (stored_cancelOrderPicks s order)
  have waits : (((s.cancelOrderPicks order).without order).setLaneState n .free).submission = [] := by
    show (s.cancelOrderPicks order).submission.filter _ = []
    rw [submission, idle, List.filter_nil]
  have read : ((s.cancelOrderPicks order).without order).lanes.getD n none = some l := by
    rw [← hl, ← lanes]
    rfl
  have same : ((s.cancelOrderPicks order).without order).lanes = s.lanes := lanes
  rw [freeOrder_lane ho hn, bindingRun_none (nextBinding_empty waits), modifyAt_lane read, same]

/-- An order without open picks has none to cancel (R79). -/
theorem cancelOrderPicks_none {s : State} {order : Nat} (h : ∀ p ∈ s.picks, p.order ≠ order) : s.cancelOrderPicks order = s := by
  have empty : s.picks.filter (fun p => p.order == order) = [] := by
    rw [List.filter_eq_nil_iff]
    simpa using h
  rw [State.cancelOrderPicks, State.orderPicks, empty]
  rfl

/-- What an order freed leaves, at the close of the event (R78, R134). -/
theorem freeOrder_refresh (s : State) (order : Nat) : (s.freeOrder order).refresh.order? order = none ∧
    (s.freeOrder order).refresh.unbound = ({ s with orders := s.orders.filter fun x => decide (x.tag ≠ order) } : State).unbound :=
  ⟨(order?_refresh ..).trans (order?_freeOrder ..), (unbound_of_lasting (lasting_refresh _)).trans (unbound_freeOrder ..)⟩

/-! ### SHIP and LANE_CLEARED (R78, R134) -/

theorem ship_frees {s : State} {order : Nat} {o : Order} (mode : s.mode ≠ .config) (h0 : order ≠ 0) (ho : s.order? order = some o)
    (assembled : o.state = .assembled) : ship order s = .reply (s.freeOrder order).refresh .ok (.shipped order o.lane) := by
  simp only [ship, onHeldOrder, if_neg mode, if_neg h0, ho, assembled, ne_eq, not_true_eq_false, if_false]

theorem laneCleared_frees {s : State} {order n : Nat} {o : Order} {l : Lane} (mode : s.mode ≠ .config) (hl : s.lanes.getD n none = some l)
    (draining : l.state = .draining order) (ho : s.order? order = some o) (arrived : o.onTheWay = 0) :
    laneCleared n s = .reply (s.freeOrder order).refresh .ok (.laneCleared n order) := by
  have still : s.hasTyreOnTheWay order = false := by simp only [State.hasTyreOnTheWay, ho, arrived, lt_irrefl, decide_false]
  simp only [laneCleared, if_neg mode, hl, draining, still, Bool.false_eq_true, if_false]

/-- Settles O34. -/
theorem shipAndLaneClearedFreeTheOrder : Obligations.ShipAndLaneClearedFreeTheOrder := by
  refine ⟨fun s tag order o free ht mode h0 ho => ⟨fun assembled => ?ship, fun n l hl hn draining arrived => ?cleared⟩,
    fun s order o ho unpicked => ⟨fun n hn => ?lane, fun hn => ?noLane⟩⟩
  case ship =>
    obtain ⟨gone, rest⟩ := freeOrder_refresh (s.take 0x33 tag) order
    refine ⟨?_, gone, rest, fun idle n l hn _ hl => ?_⟩
    · refine (exec_lineFree (kind := 0x33) (tag := tag) rfl free ht).trans ?_
      simp only [ownerOf]
      rw [ship_frees (s := s.take 0x33 tag) mode h0 ho assembled]
      rfl
    · rw [lanes_refresh, lanes_freeOrder (s := s.take 0x33 tag) ho idle hn hl]
      rfl
  case cleared =>
    obtain ⟨gone, rest⟩ := freeOrder_refresh (s.take 0x40 tag) order
    refine ⟨?_, gone, rest, fun idle hn => ?_⟩
    · refine (exec_lineFree (kind := 0x40) (tag := tag) rfl free ht).trans ?_
      simp only [ownerOf]
      rw [laneCleared_frees (s := s.take 0x40 tag) mode hl draining ho arrived]
      rfl
    · rw [lanes_refresh, lanes_freeOrder (s := s.take 0x40 tag) ho idle hn hl]
      rfl
  case lane =>
    rw [freeOrder_lane ho hn, cancelOrderPicks_none unpicked]
    rfl
  case noLane =>
    rw [freeOrder_noLane ho hn, cancelOrderPicks_none unpicked]
    rfl

end Sys2Proof.Machine
end

section
/-! PROOFS. CANCEL_ORDER and CLOSE_ORDER (O32, O33). -/

namespace Sys2Proof.Machine

/-! ### No pick of the order is left (R74, R76) -/

/-- No open pick is of the order. -/
def State.unpicked (order : Nat) (s : State) : Prop := ∀ p ∈ s.claims, p.order ≠ order

theorem unpicked_iff {s : State} {order : Nat} : s.unpicked order ↔ ∀ p ∈ s.picks, p.order ≠ order := by
  simp [State.unpicked, State.claims, Pick.lasting]

theorem unpicked_of_lasting {s t : State} {order : Nat} (h : t.lasting = s.lasting) (hs : s.unpicked order) : t.unpicked order := by
  have claims : t.claims = s.claims := (congrArg State.picks h :)
  rw [State.unpicked, claims]
  exact hs

theorem unpicked_createPick {s : State} {order tag i : Nat} (c : PickCandidate) (other : tag ≠ order) (hs : s.unpicked order) :
    (s.createPick tag i c).unpicked order := by
  intro p hp
  rcases List.mem_cons.mp ((picks_createPick s tag i c).subset hp) with rfl | old
  · exact other
  · exact hs p old

theorem judgeShort_picks (s : State) (tag i : Nat) (cause : ShortCause) : (s.judgeShort tag i cause).picks = s.picks := by
  unfold State.judgeShort
  dsimp only
  (repeat' split) <;> simp

theorem unpicked_judgeShort {s : State} {order : Nat} (tag i : Nat) (cause : ShortCause) (hs : s.unpicked order) :
    (s.judgeShort tag i cause).unpicked order := by
  rw [State.unpicked, State.claims, judgeShort_picks]
  exact hs

theorem unpicked_allocateLine {order tag : Nat} (other : tag ≠ order) (i fuel : Nat) {s : State} (hs : s.unpicked order) :
    (s.allocateLine tag i fuel).unpicked order := by
  induction fuel generalizing s with
  | zero => exact hs
  | succ fuel ih =>
    unfold State.allocateLine
    split
    · split
      · exact unpicked_judgeShort _ _ _ hs
      · split
        · exact unpicked_judgeShort _ _ _ hs
        · split
          · exact unpicked_judgeShort _ _ _ hs
          · split
            · exact unpicked_judgeShort _ _ _ hs
            · exact ih (unpicked_createPick _ other hs)
    · exact hs

theorem unpicked_foldl {α : Type} {order : Nat} {f : State → α → State} {xs : List α}
    (h : ∀ s, ∀ x ∈ xs, s.unpicked order → (f s x).unpicked order) {s : State} (hs : s.unpicked order) : (xs.foldl f s).unpicked order := by
  induction xs generalizing s with
  | nil => exact hs
  | cons x xs ih => exact ih (fun t y hy => h t y (List.mem_cons_of_mem _ hy)) (h s x (List.mem_cons_self ..) hs)

/-- No line of the order is reached that is excepted, where none is reached by name (R67). -/
theorem reached_other {s : State} {places : List Nat} {order : Nat} {q : Nat × Nat}
    (hq : q ∈ s.reached { lines := [], places := places, except := some order }) : q.1 ≠ order := by
  unfold State.reached at hq
  obtain ⟨o, -, hq⟩ := List.mem_flatMap.mp hq
  obtain ⟨i, -, found⟩ := List.mem_filterMap.mp hq
  cases hl : o.lines[i]? with
  | none => simp [hl] at found
  | some l =>
    rw [hl] at found
    simp only [List.contains_nil, Bool.false_or] at found
    split at found
    · next reach =>
      cases found
      intro (e : o.tag = order)
      simp [e] at reach
    · cases found

theorem unpicked_reallocate {s : State} {order : Nat} (places : List Nat) (hs : s.unpicked order) :
    (s.reallocate { lines := [], places := places, except := some order }).unpicked order :=
  unpicked_foldl (fun _ _ hq ht => unpicked_allocateLine (reached_other hq) _ _ ht) hs

/-- What follows the end of an order: the lines its picks release, the presentations left empty, the close (R67, R114). -/
def State.afterEnd (order : Nat) (places : List Nat) (s : State) : State :=
  (s.reallocate { lines := [], places := places, except := some order }).testEnds.refresh

theorem unpicked_afterEnd {s : State} {order : Nat} (places : List Nat) (hs : s.unpicked order) : (s.afterEnd order places).unpicked order :=
  unpicked_of_lasting ((lasting_refresh _).trans (lasting_testEnds _)) (unpicked_reallocate places hs)

theorem stored_afterEnd (s : State) (order : Nat) (places : List Nat) : (s.afterEnd order places).stored = s.stored := by
  rw [State.afterEnd, stored_of_lasting ((lasting_refresh _).trans (lasting_testEnds _)), stored_reallocate]

/-! ### Changes of the order and of its lane, as pick allocation leaves them -/

/-- A change of an order that pick allocation's traces do not touch. -/
theorem stored_onOrder_congr {s t : State} (h : s.stored = t.stored) (tag : Nat) {f g : Order → Order} (F : Order → Order)
    (hf : ∀ o, (f o).stored = F o.stored) (hg : ∀ o, (g o).stored = F o.stored) :
    (s.onOrder tag f).stored = (t.onOrder tag g).stored := by
  have changed : ∀ (u : State) (k : Order → Order), (∀ o, (k o).stored = F o.stored) → (u.onOrder tag k).stored =
      { u.stored with orders := u.stored.orders.map fun o => if o.tag = tag then F o else o } := fun u k hk => by
    have orders : (u.onOrder tag k).orders.map Order.stored =
        (u.orders.map Order.stored).map fun o => if o.tag = tag then F o else o := by
      rw [State.onOrder, List.map_map, List.map_map]
      refine List.map_congr_left fun o _ => ?_
      simp only [Function.comp, apply_ite Order.stored, hk]
      rfl
    show ({ u.stored with orders := (u.onOrder tag k).orders.map Order.stored } : State) = _
    rw [orders]
    rfl
  rw [changed s f hf, changed t g hg, h]

theorem stored_setLaneState_congr {s t : State} (h : s.stored = t.stored) (n : Nat) (st : LaneState) :
    (s.setLaneState n st).stored = (t.setLaneState n st).stored := by
  have lanes : s.lanes = t.lanes := (congrArg State.lanes h :)
  show ({ s.stored with lanes := modifyAt (fun l => l.map fun l => { l with state := st }) n s.lanes } : State) =
    { t.stored with lanes := modifyAt (fun l => l.map fun l => { l with state := st }) n t.lanes }
  rw [h, lanes]

theorem stored_drainLane_congr {s t : State} (h : s.stored = t.stored) (o : Order) : (s.drainLane o).stored = (t.drainLane o).stored := by
  unfold State.drainLane
  split
  · exact stored_setLaneState_congr h _ _
  · exact h

/-! ### CANCEL_ORDER (R75, R76) -/

theorem submission_bind (s : State) (tag n : Nat) : (s.bind tag n).submission = s.submission.filter fun t => decide (t ≠ tag) := by
  have kept : ∀ t u : State, t.stored = u.stored → t.submission = u.submission := fun t u h => (congrArg State.submission h :)
  exact kept _ (s.bound tag n) (stored_bind s tag n)

/-- A binding run adds no order to the submission list (R132). -/
theorem submission_bindingRun (fuel : Nat) (s : State) : (s.bindingRun fuel).submission.Sublist s.submission := by
  induction fuel generalizing s with
  | zero => exact .refl _
  | succ fuel ih =>
    cases next : s.nextBinding with
    | none => rw [bindingRun_none next]
    | some b =>
      rw [bindingRun_succ next]
      refine (ih _).trans ?_
      rw [submission_bind]
      exact List.filter_sublist

theorem submission_freeOrder {s : State} {order : Nat} {o : Order} (ho : s.order? order = some o) : order ∉ (s.freeOrder order).submission := by
  have gone : order ∉ ((s.cancelOrderPicks order).without order).submission := by simp [State.without]
  cases hn : o.lane with
  | none =>
    rw [freeOrder_noLane ho hn]
    exact gone
  | some n =>
    rw [freeOrder_lane ho hn]
    exact fun h => gone ((submission_bindingRun bindFuel (State.setLaneState n .free _)).subset h)

theorem submission_refresh (s : State) : s.refresh.submission = s.submission := by
  have kept : ∀ t u : State, t.lasting = u.lasting → t.submission = u.submission := fun t u h => (congrArg State.submission h :)
  exact kept _ _ (lasting_refresh s)

/-- The order cancelled, its lane DRAINING, and the notice when none of its tyres is on the way (R73, R76). -/
def State.cancelled (s : State) (o : Order) : State :=
  let drained := ((s.cancelOrderPicks o.tag).onOrder o.tag fun y =>
    { y with state := .cancelled, lines := y.lines.map fun l => { l with short := false } }).drainLane o
  if o.onTheWay = 0 then drained.notifyOrder o.tag .drained else drained

section
variable {s : State} {o : Order} (ho : s.order? o.tag = some o) (mode : s.mode ≠ .config) (h0 : o.tag ≠ 0)
include ho mode h0

theorem cancelOrder_frees (waiting : o.state = .waiting) :
    cancelOrder o.tag s = .reply (s.freeOrder o.tag).refresh .ok (.orderEnded .freed 0) := by
  simp only [cancelOrder, onHeldOrder, if_neg mode, if_neg h0, ho, waiting]

theorem cancelOrder_drains (held : o.state = .active ∨ o.state = .assembled) : cancelOrder o.tag s =
    .reply ((s.cancelled o).afterEnd o.tag (s.orderPlaces o.tag)) .ok (.orderEnded .cancelled o.onTheWay) := by
  rcases held with state | state <;> (simp only [cancelOrder, onHeldOrder, if_neg mode, if_neg h0, ho, state]; rfl)

end

theorem drainLane_orders (s : State) (o : Order) : (s.drainLane o).orders = s.orders := by
  unfold State.drainLane
  split <;> rfl

theorem drainLane_picks (s : State) (o : Order) : (s.drainLane o).picks = s.picks := by
  unfold State.drainLane
  split <;> rfl

theorem unpicked_cancelled (s : State) (o : Order) : (s.cancelled o).unpicked o.tag := by
  have drained : (((s.cancelOrderPicks o.tag).onOrder o.tag fun y =>
      { y with state := .cancelled, lines := y.lines.map fun l => { l with short := false } }).drainLane o).unpicked o.tag := by
    rw [unpicked_iff, drainLane_picks]
    exact cancelOrderPicks_order s o.tag
  unfold State.cancelled
  dsimp only
  split
  · exact unpicked_of_lasting (lasting_notifyOrder ..) drained
  · exact drained

theorem stored_cancelled (s : State) (o : Order) :
    (s.cancelled o).stored = ((s.onOrder o.tag fun y => { y with state := .cancelled }).drainLane o).stored := by
  have drained := stored_drainLane_congr (stored_onOrder_congr (stored_cancelOrderPicks s o.tag) o.tag (fun y => { y with state := .cancelled })
    (f := fun y => { y with state := .cancelled, lines := y.lines.map fun l => { l with short := false } })
    (g := fun y => { y with state := .cancelled })
    (fun y => by simp only [Order.stored, List.map_map]; rfl) (fun y => rfl)) o
  rw [← drained]
  unfold State.cancelled
  dsimp only
  split
  · exact stored_of_lasting (lasting_notifyOrder ..)
  · rfl

/-- Settles O33. -/
theorem cancelOrderFreesOrDrains : Obligations.CancelOrderFreesOrDrains := by
  intro s tag order o free ht mode h0 ho
  obtain rfl : o.tag = order := order?_tag ho
  refine ⟨fun waiting => ⟨((s.take 0x32 tag).freeOrder o.tag).refresh, ?frees, ?gone, ?left, ?rest⟩, fun held => ?drains⟩
  case frees =>
    refine (exec_lineFree (kind := 0x32) (tag := tag) rfl free ht).trans ?_
    simp only [ownerOf]
    rw [cancelOrder_frees (s := s.take 0x32 tag) ho mode h0 waiting]
    rfl
  case gone => exact (freeOrder_refresh ..).1
  case left =>
    rw [submission_refresh]
    exact submission_freeOrder (s := s.take 0x32 tag) ho
  case rest => exact (freeOrder_refresh ..).2
  case drains =>
    intro s0 drained told u
    have stored : u.stored = ((s0.onOrder o.tag fun y => { y with state := .cancelled }).drainLane o).stored :=
      (stored_afterEnd (s0.cancelled o) o.tag (s0.orderPlaces o.tag)).trans (stored_cancelled s0 o)
    have cancelled : ((s0.onOrder o.tag fun y => { y with state := .cancelled }).drainLane o).order? o.tag =
        some { o with state := .cancelled } := by
      rw [order?_of_orders (drainLane_orders ..)]
      exact order?_onOrder_self (s := s0) (f := fun y => { y with state := .cancelled }) (fun _ => rfl) ho
    refine ⟨?_, ?_, unpicked_iff.mp (unpicked_afterEnd _ (unpicked_cancelled s0 o)), stored⟩
    · refine (exec_lineFree (kind := 0x32) (tag := tag) rfl free ht).trans ?_
      simp only [ownerOf]
      rw [cancelOrder_drains (s := s.take 0x32 tag) ho mode h0 held]
      rfl
    · have same := order?_of_stored stored o.tag
      rw [cancelled, Option.map_some] at same
      exact Option.map_eq_some_iff.mp same

end Sys2Proof.Machine
end

section
/-! PROOFS. CLOSE_ORDER (O32). -/

namespace Sys2Proof.Machine

/-! ### Lane binding and an order that is not WAITING (R132) -/

theorem nextBinding_tag {s : State} {o : Order} {n : Nat} (h : s.nextBinding = some (o, n)) : o.tag ∈ s.submission := by
  obtain ⟨-, before, after, parts, -⟩ := nextBinding_some h
  have waits : o ∈ s.waiting := by simp [parts]
  obtain ⟨tag, ht, held⟩ := List.mem_filterMap.mp ((sortBy_perm _ _).subset waits)
  exact order?_tag held ▸ ht

theorem unpicked_allocateOrder {s : State} {order tag : Nat} (other : tag ≠ order) (hs : s.unpicked order) :
    (s.allocateOrder tag).unpicked order := by
  unfold State.allocateOrder
  split
  · exact unpicked_foldl (fun _ _ _ ht => unpicked_allocateLine other _ _ ht) hs
  · exact hs

theorem unpicked_bind {s : State} {order tag : Nat} (other : tag ≠ order) (n : Nat) (hs : s.unpicked order) : (s.bind tag n).unpicked order := by
  have bound : (s.bound tag n).unpicked order := hs
  rw [bind_eq]
  exact unpicked_allocateOrder other (unpicked_of_lasting (lasting_notifyOrder ..) bound)

/-- A binding run creates no pick for an order that does not wait (R132). -/
theorem unpicked_bindingRun {order : Nat} (fuel : Nat) {s : State} (gone : order ∉ s.submission) (hs : s.unpicked order) :
    (s.bindingRun fuel).unpicked order := by
  induction fuel generalizing s with
  | zero => exact hs
  | succ fuel ih =>
    cases next : s.nextBinding with
    | none => rwa [bindingRun_none next]
    | some b =>
      have other : b.1.tag ≠ order := fun e => gone (e ▸ nextBinding_tag next)
      rw [bindingRun_succ next]
      refine ih ?_ (unpicked_bind other b.2 hs)
      rw [submission_bind]
      exact fun h => gone (List.mem_of_mem_filter h)

theorem unpicked_freeOrder (s : State) {order : Nat} {o : Order} (ho : s.order? order = some o) : (s.freeOrder order).unpicked order := by
  have gone : order ∉ ((s.cancelOrderPicks order).without order).submission := by simp [State.without]
  have none : ((s.cancelOrderPicks order).without order).unpicked order := unpicked_iff.mpr (cancelOrderPicks_order s order)
  cases hn : o.lane with
  | none => rwa [freeOrder_noLane ho hn]
  | some n =>
    rw [freeOrder_lane ho hn]
    exact unpicked_bindingRun _ gone none

/-! ### The counts of an order, as pick allocation leaves them (R72, R73) -/

/-- The order that asks for what it has picked (R74). -/
def Order.closed (o : Order) : Order := { o with lines := o.lines.map fun l => { l with requested := l.picked } }

theorem pickedTotal_stored (o : Order) : o.stored.pickedTotal = o.pickedTotal := by
  rw [Order.pickedTotal, Order.stored, List.map_map]
  rfl

theorem onTheWay_stored (o : Order) : o.stored.onTheWay = o.onTheWay := by
  rw [Order.onTheWay, Order.stored, List.map_map]
  rfl

theorem allDelivered_stored (o : Order) : o.stored.allDelivered = o.allDelivered := by
  rw [Bool.eq_iff_iff, allDelivered_iff, allDelivered_iff]
  simp [Order.stored, Line.stored]

section
variable {c o : Order} (h : c.stored = o.closed.stored)
include h

theorem pickedTotal_closed : c.pickedTotal = o.pickedTotal := by
  rw [← pickedTotal_stored, h, pickedTotal_stored, Order.pickedTotal, Order.closed, List.map_map]
  rfl

theorem onTheWay_closed : c.onTheWay = o.onTheWay := by
  rw [← onTheWay_stored, h, onTheWay_stored, Order.onTheWay, Order.closed, List.map_map]
  rfl

theorem allDelivered_closed : c.allDelivered = true ↔ ∀ l ∈ o.lines, l.delivered = l.picked := by
  rw [← allDelivered_stored, h, allDelivered_stored, allDelivered_iff]
  simp [Order.closed]

end

/-! ### CLOSE_ORDER (R74) -/

theorem stored_giveUpRest (s : State) (tag : Nat) : (s.giveUpRest tag).stored = (s.onOrder tag Order.closed).stored :=
  stored_onOrder_congr (stored_cancelOrderPicks s tag) tag (fun y => y.closed)
    (fun y => by simp only [Order.stored, Order.closed, List.map_map]; rfl)
    (fun y => by simp only [Order.stored, Order.closed, List.map_map]; rfl)

theorem order?_giveUpRest {s : State} {o : Order} (ho : s.order? o.tag = some o) :
    ∃ c, (s.giveUpRest o.tag).order? o.tag = some c ∧ c.stored = o.closed.stored := by
  have closed : (s.onOrder o.tag Order.closed).order? o.tag = some o.closed := order?_onOrder_self (fun _ => rfl) ho
  have same := order?_of_stored (stored_giveUpRest s o.tag) o.tag
  rw [closed, Option.map_some] at same
  exact Option.map_eq_some_iff.mp same

theorem unpicked_giveUpRest (s : State) (tag : Nat) : (s.giveUpRest tag).unpicked tag := unpicked_iff.mpr (cancelOrderPicks_order s tag)

section
variable {s : State} {o : Order} (ho : s.order? o.tag = some o) (mode : s.mode ≠ .config) (h0 : o.tag ≠ 0) (active : o.state = .active)
include ho mode h0 active

theorem closeOrder_closes : closeOrder o.tag s = closeActive o s := by
  simp only [closeOrder, onHeldOrder, if_neg mode, if_neg h0, ho, active, ne_eq, not_true_eq_false, if_false]

theorem closeOrder_freed (none : o.pickedTotal = 0) : closeOrder o.tag s =
    .reply (((s.giveUpRest o.tag).freeOrder o.tag).afterEnd o.tag (s.orderPlaces o.tag)) .ok (.orderEnded .freed 0) := by
  obtain ⟨c, hc, same⟩ := order?_giveUpRest ho
  rw [closeOrder_closes ho mode h0 active]
  simp only [closeActive, hc, pickedTotal_closed same, if_pos none]
  rfl

theorem closeOrder_assembled (picked : o.pickedTotal ≠ 0) (all : ∀ l ∈ o.lines, l.delivered = l.picked) : closeOrder o.tag s =
    .reply ((((s.giveUpRest o.tag).onOrder o.tag fun y => { y with state := .assembled }).notifyOrder o.tag .assembled).afterEnd o.tag
      (s.orderPlaces o.tag)) .ok (.orderEnded .assembled 0) := by
  obtain ⟨c, hc, same⟩ := order?_giveUpRest ho
  rw [closeOrder_closes ho mode h0 active]
  simp only [closeActive, hc, pickedTotal_closed same, if_neg picked, if_pos ((allDelivered_closed same).mpr all)]
  rfl

theorem closeOrder_active (picked : o.pickedTotal ≠ 0) (some_ : ∃ l ∈ o.lines, l.delivered ≠ l.picked) : closeOrder o.tag s =
    .reply ((s.giveUpRest o.tag).afterEnd o.tag (s.orderPlaces o.tag)) .ok (.orderEnded .active o.onTheWay) := by
  obtain ⟨c, hc, same⟩ := order?_giveUpRest ho
  obtain ⟨l, hl, behind⟩ := some_
  have left : ¬c.allDelivered = true := fun all => behind ((allDelivered_closed same).mp all l hl)
  rw [closeOrder_closes ho mode h0 active]
  simp only [closeActive, hc, pickedTotal_closed same, if_neg picked, if_neg left, onTheWay_closed same]
  rfl

end

theorem order?_of_afterEnd {s t : State} {order : Nat} {x : Order} {places : List Nat} (h : s.stored = t.stored) (hx : t.order? order = some x) :
    ∃ y, (s.afterEnd order places).order? order = some y ∧ y.stored = x.stored := by
  have same := order?_of_stored ((stored_afterEnd s order places).trans h) order
  rw [hx, Option.map_some] at same
  exact Option.map_eq_some_iff.mp same

/-- The orders but one do not see a change of that one. -/
theorem filter_onOrder (s : State) (tag : Nat) {f : Order → Order} (h : ∀ o, (f o).tag = o.tag) :
    (s.onOrder tag f).orders.filter (fun x => decide (x.tag ≠ tag)) = s.orders.filter fun x => decide (x.tag ≠ tag) := by
  have others : ∀ os : List Order, (os.map fun o => if o.tag = tag then f o else o).filter (fun x => decide (x.tag ≠ tag)) =
      os.filter fun x => decide (x.tag ≠ tag) := fun os => by
    induction os with
    | nil => rfl
    | cons o os ih =>
      rw [List.map_cons, List.filter_cons, List.filter_cons, ih]
      by_cases e : o.tag = tag <;> simp [e, h]
  exact others s.orders

theorem unbound_giveUpRest (s : State) (tag : Nat) :
    ({ s.giveUpRest tag with orders := (s.giveUpRest tag).orders.filter fun x => decide (x.tag ≠ tag) } : State).unbound =
      ({ s with orders := s.orders.filter fun x => decide (x.tag ≠ tag) } : State).unbound := by
  have orders : (s.giveUpRest tag).orders.filter (fun x => decide (x.tag ≠ tag)) =
      (s.cancelOrderPicks tag).orders.filter fun x => decide (x.tag ≠ tag) := filter_onOrder _ tag fun _ => rfl
  rw [orders]
  exact unbound_filterOrders (stored_cancelOrderPicks s tag) tag (s.cancelOrderPicks tag).submission

/-- Settles O32. -/
theorem closeOrderGivesUpTheRest : Obligations.CloseOrderGivesUpTheRest := by
  intro s tag order o free ht mode h0 ho active
  obtain rfl : o.tag = order := order?_tag ho
  intro s0 closed s1 rest
  have taken : exec (.closeOrder tag o.tag) s = .next (closeOrder o.tag s0).outcome := by
    refine (exec_lineFree (kind := 0x31) (tag := tag) rfl free ht).trans ?_
    rfl
  obtain ⟨c, hc, -⟩ := order?_giveUpRest (s := s0) ho
  refine ⟨fun none => ?freed, fun picked all => ?assembled, fun picked left => ?stays⟩
  case freed =>
    intro u
    have unbound : u.unbound = ({ s0 with orders := s.orders.filter fun x => decide (x.tag ≠ o.tag) } : State).unbound :=
      ((unbound_of_stored (stored_afterEnd (s1.freeOrder o.tag) o.tag (s0.orderPlaces o.tag))).trans (unbound_freeOrder s1 o.tag)).trans
        (unbound_giveUpRest s0 o.tag)
    refine ⟨?_, ?_, unpicked_iff.mp (unpicked_afterEnd _ (unpicked_freeOrder s1 hc)), unbound⟩
    · rw [taken, closeOrder_freed (s := s0) ho mode h0 active none]
      rfl
    · have gone := order?_of_unbound unbound o.tag
      exact Option.map_eq_none_iff.mp (gone.trans (congrArg (Option.map fun o => o.stored.unbound) (order?_filtered s0 o.tag)))
  case assembled =>
    intro u
    have stored : ((s1.onOrder o.tag fun y => { y with state := .assembled }).notifyOrder o.tag .assembled).stored =
        (s0.onOrder o.tag fun y => { y with state := .assembled, lines := y.lines.map fun l => { l with requested := l.picked } }).stored := by
      rw [stored_of_lasting (lasting_notifyOrder ..)]
      refine (stored_onOrder_congr (stored_giveUpRest s0 o.tag) o.tag (fun y => { y with state := .assembled })
        (g := fun y => { y with state := .assembled }) (fun _ => rfl) fun _ => rfl).trans ?_
      rw [onOrder_onOrder s0 o.tag (f := Order.closed) fun _ => rfl]
      rfl
    have found := order?_onOrder_self (s := s0) (f := fun y =>
      { y with state := .assembled, lines := y.lines.map fun l => { l with requested := l.picked } }) (fun _ => rfl) ho
    refine ⟨?_, order?_of_afterEnd stored found, unpicked_iff.mp (unpicked_afterEnd _ ?_), (stored_afterEnd ..).trans stored⟩
    · rw [taken, closeOrder_assembled (s := s0) ho mode h0 active picked all]
      rfl
    · exact unpicked_of_lasting (lasting_notifyOrder ..) (unpicked_giveUpRest s0 o.tag)
  case stays =>
    intro u
    have stored := stored_giveUpRest s0 o.tag
    have found := order?_onOrder_self (s := s0) (f := Order.closed) (fun _ => rfl) ho
    refine ⟨?_, order?_of_afterEnd stored found, unpicked_iff.mp (unpicked_afterEnd _ (unpicked_giveUpRest s0 o.tag)), (stored_afterEnd ..).trans stored⟩
    rw [taken, closeOrder_active (s := s0) ho mode h0 active picked left]
    rfl

end Sys2Proof.Machine
end

section
/-! What the put-away and the pick allocator choose from, and the order of their choice (R45, R46, R64). -/

namespace Sys2Proof.Machine

/-! ### The choice among candidates that stand by slot address -/

/-- Of candidates standing by slot address, each compares later than the one chosen, or alike at a higher address. -/
theorem leastBy_address {α : Type} {before : α → α → Bool} {addr : α → SlotAddr} {xs : List α} {x : α}
    (trans : ∀ a b c, before a b = true → before b c = true → before a c = true)
    (split : ∀ a b c, before a c = true → before a b = true ∨ before b c = true) (irrefl : ∀ a, before a a = false)
    (sorted : xs.Pairwise fun a b => addrBelow (addr a) (addr b)) (h : leastBy before xs = some x) :
    ∀ y ∈ xs, before x y = true ∨ (before y x = false ∧ (addr x = addr y ∨ addrBelow (addr x) (addr y))) := by
  obtain ⟨least, l, r, e, first⟩ := leastBy_spec before trans split irrefl h
  intro y hy
  have notBefore := least y hy
  rw [e] at hy sorted
  rcases List.mem_append.mp hy with early | late
  · exact .inl (first y early)
  · rcases List.mem_cons.mp late with rfl | later
    · exact .inr ⟨notBefore, .inl rfl⟩
    · exact .inr ⟨notBefore, .inr ((List.pairwise_cons.mp (List.pairwise_append.mp sorted).2.1).1 y later)⟩

/-- The address of a slot of a configured carousel is among those the choices go through. -/
theorem mem_slotAddrs_of_slot? {s : State} {a : SlotAddr} {x : Slot} (hk : a.carousel < 4) (h : s.slot? a = some x) : a ∈ s.slotAddrs := by
  obtain ⟨c, hc, hi, hj, -⟩ := slot?_eq h
  exact (mem_slotAddrs s a).mpr ⟨hk, c, hc, hi, hj⟩

theorem grants_iff (f : Figures) (w : Nat) : f.grants w = true ↔ w ≤ f.limit ∨ w ≤ f.committedW := by simp [Figures.grants]

theorem geometryOf_eq {s : State} {a : SlotAddr} {r : Carousel} (h : s.carousel? a.carousel = some r) : s.geometryOf a = r.geometry := by
  rw [State.geometryOf, h]

/-! ### Put-away (R45, R46) -/

section
variable {s : State} {place batch remaining : Nat} {art : Article} {pref : Option Nat}

/-- The W a put-away of `q` of the article's tyres proposes for a carrier (R31). -/
def Figures.putW (f : Figures) (art : Article) (carrier q : Nat) : Nat := f.proposedW carrier fun l => l + q * art.unitWeight

theorem mem_putCandidates {t : Tier} {c : Candidate} : c ∈ s.putCandidates place batch art pref remaining t ↔
    ∃ (x : Slot) (r : Carousel), c.addr.carousel < 4 ∧ s.slot? c.addr = some x ∧ s.carousel? c.addr.carousel = some r ∧
      c.quantity = s.putOffer place batch art pref remaining t c.addr x ∧ 1 ≤ c.quantity ∧
      c.w = r.figures.putW art c.addr.carrier c.quantity ∧ (c.w ≤ r.figures.limit ∨ c.w ≤ r.figures.committedW) := by
  constructor
  · intro h
    obtain ⟨a, ha, found⟩ := List.mem_filterMap.mp h
    cases hx : s.slot? a with
    | none => simp [hx] at found
    | some x =>
      cases hr : s.carousel? a.carousel with
      | none => simp [hx, hr] at found
      | some r =>
        simp only [hx, hr] at found
        split at found
        · next ok =>
          cases found
          exact ⟨x, r, ((mem_slotAddrs s a).mp ha).1, hx, hr, rfl, ok.1, rfl, (grants_iff _ _).mp ok.2⟩
        · cases found
  · rintro ⟨x, r, hk, hx, hr, offer, one, hw, granted⟩
    refine List.mem_filterMap.mpr ⟨c.addr, mem_slotAddrs_of_slot? hk hx, ?_⟩
    rw [hw] at granted
    have hw' : r.figures.proposedW c.addr.carrier (fun l => l + c.quantity * art.unitWeight) = c.w := hw.symm
    simp only [hx, hr, ← offer]
    rw [if_pos ⟨one, (grants_iff _ _).mpr granted⟩, hw']

/-- A quantity above 0 is what a tier offers a slot just when the slot is one of the tier's (R45, R46). -/
theorem putOffer_iff {t : Tier} {a : SlotAddr} {x : Slot} {r : Carousel} {q : Nat} (hr : s.carousel? a.carousel = some r) (hq : 1 ≤ q) :
    q = s.putOffer place batch art pref remaining t a x ↔ (t.preferred = true ↔ pref = some a.carousel) ∧
      (t.topUp = true → x.state = .stocked ∧ x.held = some ⟨place, batch⟩ ∧ q = min (s.room a x) remaining) ∧
      (t.topUp = false → x.state = .free ∧ (r.geometry.positions.getD a.slot (0, 0)).1 = t.width ∧
        q = min remaining (min (r.geometry.positions.getD a.slot (0, 0)).2 art.stackLimit)) := by
  unfold State.putOffer State.baseLimit
  rw [geometryOf_eq hr, Geometry.stackLimit, Geometry.widthClass]
  have here : ((pref == some a.carousel) != t.preferred) = false ↔ (t.preferred = true ↔ pref = some a.carousel) := by
    rw [bne_eq_false_iff_eq, Bool.eq_iff_iff, beq_iff_eq]
    exact ⟨Iff.symm, Iff.symm⟩
  cases hp : ((pref == some a.carousel) != t.preferred) with
  | true =>
    rw [if_pos rfl]
    refine iff_of_false (by omega) fun ok => ?_
    rw [here.mpr ok.1] at hp
    cases hp
  | false =>
    rw [if_neg Bool.false_ne_true]
    cases t.topUp with
    | true =>
      rw [if_pos rfl]
      by_cases fits : x.state = .stocked ∧ x.held = some ⟨place, batch⟩
      · rw [if_pos fits]
        exact ⟨fun e => ⟨here.mp hp, fun _ => ⟨fits.1, fits.2, e⟩, nofun⟩, fun ok => (ok.2.1 rfl).2.2⟩
      · rw [if_neg fits]
        refine iff_of_false (by omega) fun ok => fits ?_
        obtain ⟨stocked, held, -⟩ := ok.2.1 rfl
        exact ⟨stocked, held⟩
    | false =>
      rw [if_neg Bool.false_ne_true]
      by_cases fits : x.state = .free ∧ (r.geometry.positions.getD a.slot (0, 0)).1 = t.width
      · rw [if_pos fits]
        exact ⟨fun e => ⟨here.mp hp, nofun, fun _ => ⟨fits.1, fits.2, e⟩⟩, fun ok => (ok.2.2 rfl).2.2⟩
      · rw [if_neg fits]
        refine iff_of_false (by omega) fun ok => fits ?_
        obtain ⟨free, width, -⟩ := ok.2.2 rfl
        exact ⟨free, width⟩

/-- What a tier's candidate is, its slot and carousel read from the state. -/
theorem mem_putCandidates_iff {t : Tier} {c : Candidate} : c ∈ s.putCandidates place batch art pref remaining t ↔
    ∃ (x : Slot) (r : Carousel), c.addr.carousel < 4 ∧ s.slot? c.addr = some x ∧ s.carousel? c.addr.carousel = some r ∧
      (t.preferred = true ↔ pref = some c.addr.carousel) ∧
      (t.topUp = true → x.state = .stocked ∧ x.held = some ⟨place, batch⟩ ∧ c.quantity = min (s.room c.addr x) remaining) ∧
      (t.topUp = false → x.state = .free ∧ (r.geometry.positions.getD c.addr.slot (0, 0)).1 = t.width ∧
        c.quantity = min remaining (min (r.geometry.positions.getD c.addr.slot (0, 0)).2 art.stackLimit)) ∧
      1 ≤ c.quantity ∧ c.w = r.figures.proposedW c.addr.carrier (fun l => l + c.quantity * art.unitWeight) ∧
      (c.w ≤ r.figures.limit ∨ c.w ≤ r.figures.committedW) := by
  refine mem_putCandidates.trans (exists_congr fun x => exists_congr fun r => ?_)
  constructor
  · rintro ⟨hk, hx, hr, offered, one, hw, granted⟩
    obtain ⟨side, top, free⟩ := (putOffer_iff hr one).mp offered
    exact ⟨hk, hx, hr, side, top, free, one, hw, granted⟩
  · rintro ⟨hk, hx, hr, side, top, free, one, hw, granted⟩
    exact ⟨hk, hx, hr, (putOffer_iff hr one).mpr ⟨side, top, free⟩, one, hw, granted⟩

/-- Within a tier the smallest W is chosen, then the lowest slot address (R46). -/
theorem leastBy_putCandidates {t : Tier} {c : Candidate}
    (h : leastBy (fun a b => decide (a.w < b.w)) (s.putCandidates place batch art pref remaining t) = some c) :
    ∀ d ∈ s.putCandidates place batch art pref remaining t, c.w < d.w ∨ (c.w = d.w ∧ (c.addr = d.addr ∨ addrBelow c.addr d.addr)) := by
  intro d hd
  have found := leastBy_address (fun a b c => by simp only [decide_eq_true_eq]; omega) (fun a b c => by simp only [decide_eq_true_eq]; omega)
    (fun a => by simp) (putCandidates_pairwise s place batch art pref remaining t) h d hd
  simp only [decide_eq_true_eq, decide_eq_false_iff_not] at found
  rcases found with less | ⟨notLess, address⟩
  · exact .inl less
  · exact (Nat.lt_or_ge c.w d.w).imp id fun ge => ⟨by omega, address⟩

/-- The choice is the least candidate of the first tier that has one (R44). -/
theorem choosePut_tier {c : Candidate} (h : s.choosePut place batch art pref remaining = some c) :
    ∃ t before after, tiers art.sizeClass = before ++ t :: after ∧
      leastBy (fun a b => decide (a.w < b.w)) (s.putCandidates place batch art pref remaining t) = some c ∧
      ∀ b ∈ before, s.putCandidates place batch art pref remaining b = [] := by
  obtain ⟨before, t, after, e, chosen, empty⟩ := List.findSome?_eq_some_iff.mp h
  exact ⟨t, before, after, e, chosen, fun b hb => (leastBy_eq_none _ _).mp (empty b hb)⟩

theorem choosePut_slot {c : Candidate} (h : s.choosePut place batch art pref remaining = some c) :
    1 ≤ c.quantity ∧ c.quantity ≤ remaining ∧
    ∃ (x : Slot) (r : Carousel), s.slot? c.addr = some x ∧ s.carousel? c.addr.carousel = some r ∧
      (x.state = .free ∨ (x.state = .stocked ∧ x.held = some ⟨place, batch⟩)) ∧
      c.w = r.figures.proposedW c.addr.carrier (fun l => l + c.quantity * art.unitWeight) ∧
      (c.w ≤ r.figures.limit ∨ c.w ≤ r.figures.committedW) := by
  obtain ⟨t, -, -, -, chosen, -⟩ := choosePut_tier h
  obtain ⟨x, r, -, hx, hr, -, top, free, one, hw, granted⟩ := mem_putCandidates_iff.mp (leastBy_mem chosen)
  cases ht : t.topUp with
  | true =>
    obtain ⟨stocked, held, offer⟩ := top ht
    exact ⟨one, offer ▸ min_le_right .., x, r, hx, hr, .inr ⟨stocked, held⟩, hw, granted⟩
  | false =>
    obtain ⟨isFree, -, offer⟩ := free ht
    exact ⟨one, offer ▸ min_le_left .., x, r, hx, hr, .inl isFree, hw, granted⟩

end

theorem room_eq {s : State} {a : SlotAddr} {x : Slot} {h : Holding} {b : Article} {r : Carousel} (hr : s.carousel? a.carousel = some r)
    (hh : x.held = some h) (hb : s.articleAt h.place = some b) :
    s.room a x = max (min (r.geometry.positions.getD a.slot (0, 0)).2 b.stackLimit) (x.onHand + x.pending) - x.onHand - x.pending := by
  have limit : s.heldLimit a x = min (r.geometry.positions.getD a.slot (0, 0)).2 b.stackLimit := by
    unfold State.heldLimit
    simp only [hh, hb]
    rw [State.baseLimit, geometryOf_eq hr, Geometry.stackLimit]
  rw [State.room, State.effectiveLimit, limit]

/-! ### Picks (R64) -/

section
variable {s : State} {tag i : Nat} {l : Line}

theorem mem_pickCandidates {c : PickCandidate} : c ∈ s.pickCandidates tag i l ↔
    ∃ (x : Slot) (h : Holding) (r : Carousel), c.addr.carousel < 4 ∧
      s.slot? c.addr = some x ∧ s.carousel? c.addr.carousel = some r ∧ x.state = .stocked ∧ x.held = some h ∧
      h.place = l.place ∧ x.reserved < x.onHand ∧ (∀ p ∈ s.picks, p.order = tag → p.line = i → p.addr ≠ c.addr) ∧
      c.batch = h.batch ∧ c.quantity = min (x.onHand - x.reserved) (s.unallocated tag i l) ∧
      c.w = r.figures.proposedW c.addr.carrier (fun load => load - c.quantity * s.weightAt l.place) ∧
      (c.w ≤ r.figures.limit ∨ c.w ≤ r.figures.committedW) := by
  have unnamed : ∀ a, ((s.linePicks tag i).map fun p => p.addr).contains a = false ↔
      ∀ p ∈ s.picks, p.order = tag → p.line = i → p.addr ≠ a := fun a => by
    rw [Bool.eq_false_iff, Ne, List.contains_iff_mem]
    simp only [List.mem_map, State.linePicks, List.mem_filter, Bool.and_eq_true, beq_iff_eq, not_exists, not_and]
    exact ⟨fun h p hp ho hl => h p ⟨hp, ho, hl⟩, fun h p ⟨hp, ho, hl⟩ => h p hp ho hl⟩
  constructor
  · intro mem
    obtain ⟨a, ha, found⟩ := List.mem_filterMap.mp mem
    cases hx : s.slot? a with
    | none => simp [hx] at found
    | some x =>
      cases hr : s.carousel? a.carousel with
      | none => simp [hx, hr] at found
      | some r =>
        cases hh : x.held with
        | none => simp [hx, hr, hh] at found
        | some h =>
          simp only [hx, hr, hh] at found
          split at found
          · next ok =>
            obtain ⟨stocked, place, positive, new, granted⟩ := ok
            cases found
            exact ⟨x, h, r, ((mem_slotAddrs s a).mp ha).1, hx, hr, stocked, hh, place, Nat.lt_of_sub_pos positive, (unnamed a).mp new, rfl, rfl,
              by rw [place], (grants_iff _ _).mp granted⟩
          · cases found
  · rintro ⟨x, h, r, hk, hx, hr, stocked, hh, place, less, new, hb, hq, hw, granted⟩
    refine List.mem_filterMap.mpr ⟨c.addr, mem_slotAddrs_of_slot? hk hx, ?_⟩
    simp only [hx, hr, hh, place, ← hq, ← hw, ← hb]
    exact if_pos ⟨stocked, trivial, Nat.sub_pos_of_lt less, (unnamed _).mpr new, (grants_iff _ _).mpr granted⟩

/-- The oldest batch is chosen, then the smallest W, then the lowest slot address (R64). -/
theorem choosePick_some {c : PickCandidate} (h : s.choosePick tag i l = some c) : c ∈ s.pickCandidates tag i l ∧
    ∀ d ∈ s.pickCandidates tag i l, c.batch < d.batch ∨
      (c.batch = d.batch ∧ (c.w < d.w ∨ (c.w = d.w ∧ (c.addr = d.addr ∨ addrBelow c.addr d.addr)))) := by
  refine ⟨leastBy_mem h, fun d hd => ?_⟩
  have found := leastBy_address (fun a b c => by simp only [lexPair_iff]; omega) (fun a b c => by simp only [lexPair_iff]; omega)
    (fun a => by rw [Bool.eq_false_iff, Ne, lexPair_iff]; omega) (pickCandidates_pairwise s tag i l) h d hd
  rw [Bool.eq_false_iff, Ne, lexPair_iff, lexPair_iff] at found
  dsimp only at found
  rcases found with (batch | ⟨batch, w⟩) | ⟨notLess, address⟩
  · exact .inl batch
  · exact .inr ⟨batch, .inl w⟩
  · by_cases batch : c.batch < d.batch
    · exact .inl batch
    · refine .inr ⟨by omega, ?_⟩
      by_cases w : c.w < d.w
      · exact .inl w
      · exact .inr ⟨by omega, address⟩

end

/-! ### A line's allocation and its stop (R66) -/

/-- The pick takes the lowest number that no held pick has. -/
theorem lowestFree_picks {s : State} (room : s.picks.length < 256) :
    (∀ p ∈ s.picks, p.number ≠ lowestFree (s.picks.map fun p => p.number) 256 0) ∧
      ∀ m, m < lowestFree (s.picks.map fun p => p.number) 256 0 → ∃ p ∈ s.picks, p.number = m := by
  obtain ⟨free, -, taken⟩ := lowestFree_spec (s.picks.map fun p => p.number) 256 0
    (by simpa using room)
  refine ⟨fun p hp e => free (e ▸ List.mem_map_of_mem hp), fun m hm => ?_⟩
  exact List.mem_map.mp (taken m (Nat.zero_le m) hm)

section
variable {s : State} {tag i : Nat} {l : Line} (h : s.line? tag i = some l)
include h

theorem judgeShort_none (cause : ShortCause) (hu : s.unallocated tag i l = 0) :
    s.judgeShort tag i cause = s.onOrder tag fun o => o.onLine i fun l => { l with short := false } := by
  simp only [State.judgeShort, h, if_pos hu]

theorem judgeShort_was (cause : ShortCause) (hu : s.unallocated tag i l ≠ 0) (short : l.short = true) : s.judgeShort tag i cause = s := by
  simp only [State.judgeShort, h, if_neg hu, if_pos short]

theorem judgeShort_becomes (cause : ShortCause) (hu : s.unallocated tag i l ≠ 0) (short : l.short = false) :
    s.judgeShort tag i cause = (s.onOrder tag fun o => o.onLine i fun l => { l with short := true }).notify
      (.lineShort tag i (s.codeAt l.place) l.requested l.picked (s.openQuantity tag i) (s.unallocated tag i l) cause) := by
  simp only [State.judgeShort, h, if_neg hu, short, Bool.false_eq_true, if_false]

theorem allocateLine_unfold (fuel : Nat) : s.allocateLine tag i (fuel + 1) =
    if s.unallocated tag i l = 0 then s.judgeShort tag i .stock
    else if 4 ≤ l.openPicks then s.judgeShort tag i .picks
    else if 256 ≤ s.picks.length then s.judgeShort tag i .pool
    else (s.choosePick tag i l).elim (s.judgeShort tag i .stock) fun c => (s.createPick tag i c).allocateLine tag i fuel := by
  rw [State.allocateLine]
  simp only [h]
  cases s.choosePick tag i l <;> rfl

theorem allocateLine_none (hu : s.unallocated tag i l = 0) :
    s.allocateLine tag i lineFuel = s.onOrder tag fun o => o.onLine i fun l => { l with short := false } := by
  rw [lineFuel, allocateLine_unfold h, if_pos hu, judgeShort_none h _ hu]

theorem allocateLine_picks (hu : s.unallocated tag i l ≠ 0) (full : 4 ≤ l.openPicks) :
    s.allocateLine tag i lineFuel = s.judgeShort tag i .picks := by
  rw [lineFuel, allocateLine_unfold h, if_neg hu, if_pos full]

theorem allocateLine_pool (hu : s.unallocated tag i l ≠ 0) (few : l.openPicks < 4) (full : 256 ≤ s.picks.length) :
    s.allocateLine tag i lineFuel = s.judgeShort tag i .pool := by
  rw [lineFuel, allocateLine_unfold h, if_neg hu, if_neg (Nat.not_le.mpr few), if_pos full]

theorem allocateLine_stock (hu : s.unallocated tag i l ≠ 0) (few : l.openPicks < 4) (room : s.picks.length < 256)
    (none : s.choosePick tag i l = none) : s.allocateLine tag i lineFuel = s.judgeShort tag i .stock := by
  rw [lineFuel, allocateLine_unfold h, if_neg hu, if_neg (Nat.not_le.mpr few), if_neg (Nat.not_le.mpr room), none, Option.elim_none]

end

/-! ### The lines an event reaches (R67, R68) -/

/-- An event reaches a line by name, or as a short line of its articles (R67). -/
def Reach.takes (r : Reach) (tag i : Nat) (l : Line) : Prop :=
  (tag, i) ∈ r.lines ∨ (l.place ∈ r.places ∧ l.short = true ∧ r.except ≠ some tag)

/-- Line `i` of an order, if an event reaches it. -/
def Reach.lineOf (r : Reach) (o : Order) (i : Nat) : Option (Nat × Nat) :=
  match o.lines[i]? with
  | some l =>
    if r.lines.contains (o.tag, i) || (r.places.contains l.place && l.short && r.except != some o.tag) then some (o.tag, i)
    else none
  | none => none

/-- The lines of one order that an event reaches, rising. -/
def Reach.linesOf (r : Reach) (o : Order) : List (Nat × Nat) := (List.range o.lines.length).filterMap (r.lineOf o)

theorem lineOf_eq_some {r : Reach} {o : Order} {i : Nat} {q : Nat × Nat} :
    r.lineOf o i = some q ↔ q = (o.tag, i) ∧ ∃ l, o.lines[i]? = some l ∧ r.takes o.tag i l := by
  unfold Reach.lineOf
  cases hl : o.lines[i]? with
  | none => simp
  | some l =>
    have takes : (r.lines.contains (o.tag, i) || (r.places.contains l.place && l.short && r.except != some o.tag)) = true ↔
        r.takes o.tag i l := by simp [Reach.takes, and_assoc]
    simp only [takes, Option.ite_none_right_eq_some, Option.some.injEq, exists_eq_left']
    rw [and_comm, eq_comm]

/-- The ACTIVE orders, by admission, then order tag (R68). -/
def State.byAdmission (s : State) : List Order :=
  sortBy (fun (a b : Order) => lexPair (a.admission.getD 0, a.tag) (b.admission.getD 0, b.tag))
    (s.orders.filter fun o => decide (o.state = .active))

theorem reached_eq (s : State) (r : Reach) : s.reached r = s.byAdmission.flatMap r.linesOf := by
  rfl

theorem mem_byAdmission {s : State} {o : Order} : o ∈ s.byAdmission ↔ o ∈ s.orders ∧ o.state = .active := by
  rw [State.byAdmission, (sortBy_perm _ _).mem_iff, List.mem_filter, decide_eq_true_eq]

theorem mem_linesOf {r : Reach} {o : Order} {tag i : Nat} :
    (tag, i) ∈ r.linesOf o ↔ o.tag = tag ∧ ∃ l, o.lines[i]? = some l ∧ r.takes tag i l := by
  constructor
  · intro mem
    obtain ⟨j, -, found⟩ := List.mem_filterMap.mp mem
    obtain ⟨e, reached⟩ := lineOf_eq_some.mp found
    cases e
    exact ⟨rfl, reached⟩
  · rintro ⟨rfl, l, hl, ok⟩
    exact List.mem_filterMap.mpr ⟨i, List.mem_range.mpr (List.getElem?_eq_some_iff.mp hl).1, lineOf_eq_some.mpr ⟨rfl, l, hl, ok⟩⟩

theorem mem_reached {s : State} {r : Reach} {tag i : Nat} : (tag, i) ∈ s.reached r ↔
    ∃ o ∈ s.orders, o.tag = tag ∧ o.state = .active ∧ ∃ l, o.lines[i]? = some l ∧ r.takes tag i l := by
  rw [reached_eq, List.mem_flatMap]
  refine exists_congr fun o => ?_
  rw [mem_byAdmission, mem_linesOf]
  tauto

theorem order?_of_nodup {s : State} (distinct : (s.orders.map fun o => o.tag).Nodup) {o : Order} (ho : o ∈ s.orders) :
    s.order? o.tag = some o := by
  cases hf : s.order? o.tag with
  | none => simpa using List.find?_eq_none.mp hf o ho
  | some x => rw [List.inj_on_of_nodup_map distinct (List.mem_of_find?_eq_some hf) ho (order?_tag hf)]

theorem byAdmission_pairwise {s : State} (distinct : (s.orders.map fun o => o.tag).Nodup) :
    s.byAdmission.Pairwise fun a b => lexPair (a.admission.getD 0, a.tag) (b.admission.getD 0, b.tag) = true := by
  refine sortBy_pairwise _ (fun a b c => by simp only [lexPair_iff]; omega) _ ?_
  have tags : s.orders.Pairwise fun a b => a.tag ≠ b.tag := List.pairwise_map.mp distinct
  refine (tags.filter _).imp fun {a b} ne => ?_
  simp only [lexPair_iff]
  omega

/-- The lines of an order follow each other; those of one order stand before those of an order admitted later (R68). -/
theorem reached_pairwise {s : State} (distinct : (s.orders.map fun o => o.tag).Nodup) (r : Reach) :
    (s.reached r).Pairwise fun a b => ∀ o p, s.order? a.1 = some o → s.order? b.1 = some p →
      ∀ m n, o.admission = some m → p.admission = some n → m < n ∨ (m = n ∧ (a.1 < b.1 ∨ (a.1 = b.1 ∧ a.2 < b.2))) := by
  rw [reached_eq]
  refine List.pairwise_flatMap.mpr ⟨fun o _ => ?within, (byAdmission_pairwise distinct).imp_of_mem fun {x y} hx hy earlier a ha b hb => ?across⟩
  case within =>
    refine List.pairwise_lt_range.filterMap _ fun i j less a ha b hb => ?_
    rw [(lineOf_eq_some.mp ha).1, (lineOf_eq_some.mp hb).1]
    intro x y hx hy m n hm hn
    rw [Option.some.inj (hx.symm.trans hy), hn] at hm
    exact .inr ⟨(Option.some.inj hm).symm, .inr ⟨rfl, less⟩⟩
  case across =>
    obtain ⟨tagA, i⟩ := a
    obtain ⟨tagB, j⟩ := b
    obtain ⟨rfl, -⟩ := mem_linesOf.mp ha
    obtain ⟨rfl, -⟩ := mem_linesOf.mp hb
    intro o p ho hp m n hm hn
    rw [order?_of_nodup distinct (mem_byAdmission.mp hx).1] at ho
    rw [order?_of_nodup distinct (mem_byAdmission.mp hy).1] at hp
    cases ho
    cases hp
    rw [lexPair_iff, hm, hn] at earlier
    exact earlier.imp id fun ⟨same, tags⟩ => ⟨same, .inl tags⟩

/-- Settles O28. -/
theorem choicesAreGrantedAndLinesGoToTheirStop : Obligations.ChoicesAreGrantedAndLinesGoToTheirStop := by
  refine ⟨?put, ?noPut, ?tiers, ?room, ?pick, ?created, ?stops, ?reach, ?order⟩
  case put =>
    intro s place batch art pref remaining c h
    obtain ⟨one, most, slot⟩ := choosePut_slot h
    obtain ⟨t, before, after, e, chosen, empty⟩ := choosePut_tier h
    exact ⟨one, most, slot, t, before, after, e, leastBy_mem chosen, leastBy_putCandidates chosen, empty⟩
  case noPut => exact fun s place batch art pref remaining => ⟨choosePut_eq_none .., fun t c => mem_putCandidates_iff⟩
  case tiers => exact fun n => rfl
  case room => exact fun s a x h b r hr hh hb => room_eq hr hh hb
  case pick => exact fun s tag i l => ⟨fun c => mem_pickCandidates, fun c => choosePick_some, leastBy_eq_none _ _⟩
  case created =>
    intro s tag i l c x hl hx room
    obtain ⟨free, taken⟩ := lowestFree_picks room
    exact ⟨⟨_, free, taken, picks_createPick s tag i c⟩, creations_createPick s tag i c, slot?_createPick tag i hx, line?_createPick c hl,
      stored_createPick s tag i c⟩
  case stops =>
    intro s tag i l hl
    exact ⟨allocateLine_none hl, allocateLine_picks hl, allocateLine_pool hl, allocateLine_stock hl,
      fun c hu few room chosen => allocateLine_next tag i hl hu few room chosen, fun cause => judgeShort_was hl cause,
      fun cause => judgeShort_becomes hl cause⟩
  case reach => exact fun s r => ⟨fun tag i => mem_reached, fun distinct => reached_pairwise distinct r, rfl⟩
  case order =>
    intro s tag o ho
    rw [State.allocateOrder, ho]

end Sys2Proof.Machine
end

section
/-! What PUTAWAY creates, target by target, and how its targets and the task end (R44, R47, R53, R55). -/

namespace Sys2Proof.Machine

/-! ### The operations on targets, spelled out -/

theorem updateSlot_of_slot? {s : State} {a : SlotAddr} {x : Slot} (h : s.slot? a = some x) (f : Slot → Slot) :
    s.updateSlot a f = s.writeSlot a (f x) := by
  rw [State.updateSlot, h]

/-- The target with which a candidate is placed (R47). -/
def Candidate.target (c : Candidate) : Target := { addr := c.addr, quantity := c.quantity, outcome := .opened }

/-- The task with targets appended to its own. -/
def Task.append (xs : List Target) (t : Task) : Task := { t with targets := t.targets ++ xs }

theorem createTarget_eq {s : State} {c : Candidate} {x : Slot} (h : s.slot? c.addr = some x) (task place batch : Nat) :
    s.createTarget task place batch c = State.joinEntry c.addr (.put task c.quantity) (State.gainWork c.addr.carousel
      [c.addr.carrier] ((s.onTask task (Task.append [c.target])).writeSlot c.addr (x.withTarget place batch c.quantity))) := by
  have h' : (s.onTask task (Task.append [c.target])).slot? c.addr = some x := h
  rw [← updateSlot_of_slot? h' fun y => y.withTarget place batch c.quantity]
  rfl

/-- The pending falls, and only the host's cancellation frees the slot (R14, R53, R54). -/
theorem cancelTarget_eq {s : State} {x : Target} {y : Slot} (h : s.slot? x.addr = some y) (task : Nat) (cause : CancelCause) :
    s.cancelTarget task x cause = State.recompute x.addr.carousel (State.removeEntry x.addr (.put task x.quantity)
      ((s.writeSlot x.addr
        (if cause = .host ∧ y.state = .stocked ∧ y.onHand = 0 ∧ y.pending - x.quantity = 0 then Slot.freeSlot
          else { y with pending := y.pending - x.quantity })).closeTarget task x.addr (.cancelled cause))) := by
  rw [State.cancelTarget, updateSlot_of_slot? h]
  cases cause with
  | host =>
    simp only [true_and]
    rfl
  | quarantine => simp only [reduceCtorEq, false_and, if_false]

theorem endTask_open {s : State} {task : Nat} {t : Task} (ht : s.task? task = some t) (h : ∃ x ∈ t.targets, x.outcome = .opened) :
    s.endTask task = s := by
  obtain ⟨x, hx, opened⟩ := h
  have some : t.targets.any Target.isOpen = true := List.any_eq_true.mpr ⟨x, hx, decide_eq_true opened⟩
  simp only [State.endTask, ht, if_pos some]

theorem endTask_ended {s : State} {task : Nat} {t : Task} (ht : s.task? task = some t) (h : ∀ x ∈ t.targets, x.outcome ≠ .opened) :
    s.endTask task = ({ s with tasks := s.tasks.filter fun x => decide (x.tag ≠ task) } : State).notify
      (.putawayDone task (s.codeAt t.place) t.batch t.requested t.placed t.storedTotal (t.placed - t.storedTotal) t.targets) := by
  have none : ¬t.targets.any Target.isOpen = true := fun some => by
    obtain ⟨x, hx, opened⟩ := List.any_eq_true.mp some
    exact h x hx (of_decide_eq_true opened)
  simp only [State.endTask, ht, if_neg none]

theorem allocatePut_stops {s : State} {task place batch left remaining : Nat} {art : Article} {pref : Option Nat}
    (h : remaining = 0 ∨ s.choosePut place batch art pref remaining = none) :
    s.allocatePut task place batch art pref (left + 1) remaining = s := by
  unfold State.allocatePut
  rcases h with none | none
  · rw [if_pos none]
  · rw [none]
    exact ite_self _

theorem allocatePut_takes {s : State} {task place batch left remaining : Nat} {art : Article} {pref : Option Nat} {c : Candidate}
    (rest : remaining ≠ 0) (h : s.choosePut place batch art pref remaining = some c) :
    s.allocatePut task place batch art pref (left + 1) remaining =
      (s.createTarget task place batch c).allocatePut task place batch art pref left (remaining - c.quantity) := by
  rw [State.allocatePut, if_neg rest, h]

/-! ### The targets of one PUTAWAY (R44) -/

theorem onTask_congr {s t : State} (h : s.tasks = t.tasks) (tag : Nat) (f : Task → Task) : (s.onTask tag f).tasks = (t.onTask tag f).tasks := by
  rw [State.onTask, State.onTask, h]

theorem onTask_append (s : State) (tag : Nat) (xs ys : List Target) :
    ((s.onTask tag (Task.append xs)).onTask tag (Task.append ys)).tasks = (s.onTask tag (Task.append (xs ++ ys))).tasks := by
  simp only [State.onTask, List.map_map]
  refine List.map_congr_left fun t _ => ?_
  by_cases e : t.tag = tag <;> simp [Task.append, e]

theorem onTask_append_nil (s : State) (tag : Nat) : (s.onTask tag (Task.append [])).tasks = s.tasks := by
  simp [State.onTask, Task.append]

/-- Targets as a PUTAWAY of `remaining` tyres with `left` choices creates them. -/
structure PutTargets (left remaining : Nat) (xs : List Target) : Prop where
  few : xs.length ≤ left
  opened : ∀ x ∈ xs, x.outcome = .opened ∧ 1 ≤ x.quantity
  within : total (xs.map fun x => x.quantity) ≤ remaining

theorem putTargets_nil (left remaining : Nat) : PutTargets left remaining [] := ⟨Nat.zero_le _, by simp, Nat.zero_le _⟩

theorem putTargets_cons {left remaining : Nat} {c : Candidate} {xs : List Target} (one : 1 ≤ c.quantity) (most : c.quantity ≤ remaining)
    (h : PutTargets left (remaining - c.quantity) xs) : PutTargets (left + 1) remaining (c.target :: xs) := by
  obtain ⟨few, opened, within⟩ := h
  refine ⟨Nat.succ_le_succ few, fun x hx => ?_, ?_⟩
  · rcases List.mem_cons.mp hx with rfl | later
    · exact ⟨rfl, one⟩
    · exact opened x later
  · rw [total_eq_sum] at within ⊢
    rw [List.map_cons, List.sum_cons]
    show c.quantity + _ ≤ remaining
    omega

/-- The choices of a PUTAWAY append their targets to the task, and change no other task. -/
theorem allocatePut_targets (task place batch : Nat) (art : Article) (pref : Option Nat) (left remaining : Nat) (s : State) :
    ∃ xs, (s.allocatePut task place batch art pref left remaining).tasks = (s.onTask task (Task.append xs)).tasks ∧
      PutTargets left remaining xs := by
  induction left generalizing s remaining with
  | zero => exact ⟨[], (onTask_append_nil s task).symm, putTargets_nil ..⟩
  | succ left ih =>
    by_cases none : remaining = 0 ∨ s.choosePut place batch art pref remaining = none
    · rw [allocatePut_stops none]
      exact ⟨[], (onTask_append_nil s task).symm, putTargets_nil ..⟩
    · obtain ⟨rest, some⟩ := not_or.mp none
      obtain ⟨c, hc⟩ := Option.ne_none_iff_exists'.mp some
      obtain ⟨one, most, -⟩ := choosePut_slot hc
      obtain ⟨xs, tasks, created⟩ := ih (remaining - c.quantity) (s.createTarget task place batch c)
      refine ⟨c.target :: xs, ?_, putTargets_cons one most created⟩
      rw [allocatePut_takes rest hc, tasks, onTask_congr (createTarget_tasks s task place batch c) task]
      exact onTask_append s task [c.target] xs

/-- A first choice makes at least one target. -/
theorem allocatePut_first {s : State} {task place batch left remaining : Nat} {art : Article} {pref : Option Nat} {c : Candidate}
    (rest : remaining ≠ 0) (hc : s.choosePut place batch art pref remaining = some c) :
    ∃ xs, xs ≠ [] ∧ (s.allocatePut task place batch art pref (left + 1) remaining).tasks = (s.onTask task (Task.append xs)).tasks ∧
      PutTargets (left + 1) remaining xs := by
  obtain ⟨one, most, -⟩ := choosePut_slot hc
  obtain ⟨xs, tasks, created⟩ := allocatePut_targets task place batch art pref left (remaining - c.quantity) (s.createTarget task place batch c)
  refine ⟨c.target :: xs, by simp, ?_, putTargets_cons one most created⟩
  rw [allocatePut_takes rest hc, tasks, onTask_congr (createTarget_tasks s task place batch c) task]
  exact onTask_append s task [c.target] xs

theorem total_pos {xs : List Target} (some : xs ≠ []) (h : ∀ x ∈ xs, x.outcome = .opened ∧ 1 ≤ x.quantity) :
    1 ≤ total (xs.map fun x => x.quantity) := by
  obtain ⟨x, rest, rfl⟩ := List.exists_cons_of_ne_nil some
  have one := (h x (List.mem_cons_self ..)).2
  rw [total_eq_sum, List.map_cons, List.sum_cons]
  omega

/-! ### A new task (R43, R48) -/

theorem task?_refresh (s : State) (tag : Nat) : s.refresh.task? tag = s.task? tag := by
  rw [State.task?, State.task?, tasks_of_lasting (lasting_refresh s)]

/-- A change of the task just appended changes no other. -/
theorem onTask_last {s : State} {task : Nat} {t : Task} (tagged : t.tag = task) (fresh : s.task? task = none) (f : Task → Task) :
    (({ s with tasks := s.tasks ++ [t] } : State).onTask task f).tasks = s.tasks ++ [f t] := by
  have others : (s.tasks.map fun t => if t.tag = task then f t else t) = s.tasks := by
    refine (List.map_congr_left fun u hu => ?_).trans (List.map_id _)
    exact if_neg (by simpa using List.find?_eq_none.mp fresh u hu)
  rw [State.onTask, List.map_append, others, List.map_singleton, if_pos tagged]

theorem task?_last {s u : State} {task : Nat} {t : Task} (tagged : t.tag = task) (fresh : s.task? task = none)
    (tasks : u.tasks = s.tasks ++ [t]) : u.task? task = some t := by
  rw [State.task?, tasks, List.find?_append, show s.tasks.find? (fun t => t.tag == task) = none from fresh]
  simp [tagged]

theorem filter_last {s u : State} {task : Nat} {t : Task} (tagged : t.tag = task) (fresh : s.task? task = none)
    (tasks : u.tasks = s.tasks ++ [t]) : u.tasks.filter (fun x => decide (x.tag ≠ task)) = s.tasks := by
  rw [tasks, List.filter_append, List.filter_singleton, decide_eq_false (not_not.mpr tagged), List.filter_eq_self.mpr fun u hu => ?_]
  · exact List.append_nil _
  · simpa using List.find?_eq_none.mp fresh u hu

/-- The record with which a task begins (R48). -/
def newTask (task place batch q : Nat) : Task :=
  { tag := task, place := place, batch := batch, requested := q, placed := 0, state := .opened, targets := [] }

/-- The task record with its placed quantity set (R48). -/
def Task.withPlaced (t : Task) : Task := { t with placed := t.chosen }

/-- The checks that PUTAWAY makes before its first choice (R43). -/
structure PutChecks (s : State) (task code batch q : Nat) (pref : Option Nat) (place : Nat) (art : Article) : Prop where
  mode : s.mode ≠ .config
  fields : s.putawayFields task code batch q pref = true
  known : s.articleOf code = some (place, art)
  fresh : s.task? task = none
  room : s.tasks.length < 32

section
variable {s : State} {task code batch q place : Nat} {pref : Option Nat} {art : Article}

theorem putFields_quantity (h : s.putawayFields task code batch q pref = true) : q ≠ 0 := by
  simp only [State.putawayFields, inRange, Bool.and_eq_true, decide_eq_true_eq] at h
  omega

variable (ok : PutChecks s task code batch q pref place art)
include ok

theorem putaway_allocated {t : Task} (ht : (s.allocateTask task place art batch q pref).task? task = some t) :
    putaway task code batch q pref s = if t.chosen = 0 then s.refuse .noRoom
      else .reply ((s.allocateTask task place art batch q pref).onTask task Task.withPlaced).refresh .ok
        (.placed task q t.chosen (t.targets.map fun x => (x.addr, x.quantity))) := by
  obtain ⟨mode, fields, known, fresh, room⟩ := ok
  unfold putaway
  simp only [if_neg mode, fields, Bool.not_true, Bool.false_eq_true, if_false, known, fresh, Option.isSome_none]
  rw [if_neg (show ¬Config.taskPool ≤ s.tasks.length from Nat.not_le.mpr room)]
  simp only [ht]
  rfl

theorem putaway_noRoom (none : s.choosePut place batch art pref q = none) : putaway task code batch q pref s = s.refuse .noRoom := by
  have unplaced : s.allocateTask task place art batch q pref = { s with tasks := s.tasks ++ [newTask task place batch q] } :=
    allocatePut_stops (left := 7) (.inr (show State.choosePut { s with tasks := s.tasks ++ [newTask task place batch q] } .. = _ from none))
  have ht : (s.allocateTask task place art batch q pref).task? task = some (newTask task place batch q) := by
    rw [unplaced]
    exact task?_last rfl ok.fresh rfl
  rw [putaway_allocated ok ht]
  exact if_pos rfl

/-- A PUTAWAY with a candidate: its task, its targets and what it leaves as it was (R44, R48). -/
theorem putaway_placed (some : (s.choosePut place batch art pref q).isSome = true) :
    ∃ (u : State) (xs : List Target), u = ((s.allocateTask task place art batch q pref).onTask task Task.withPlaced).refresh ∧
      xs ≠ [] ∧ PutTargets 8 q xs ∧ u.tasks = s.tasks ++ [((newTask task place batch q).append xs).withPlaced] ∧
      putaway task code batch q pref s = .reply u .ok
        (.placed task q (total (xs.map fun x => x.quantity)) (xs.map fun x => (x.addr, x.quantity))) := by
  obtain ⟨c, hc⟩ := Option.isSome_iff_exists.mp some
  obtain ⟨xs, nonempty, tasks, created⟩ := allocatePut_first (s := { s with tasks := s.tasks ++ [newTask task place batch q] })
    (task := task) (left := 7) (putFields_quantity ok.fields) hc
  have tasks : (s.allocateTask task place art batch q pref).tasks = s.tasks ++ [(newTask task place batch q).append xs] :=
    tasks.trans (onTask_last rfl ok.fresh _)
  have ht := task?_last (t := (newTask task place batch q).append xs) rfl ok.fresh tasks
  refine ⟨_, xs, rfl, nonempty, created, ?_, ?_⟩
  · rw [tasks_of_lasting (lasting_refresh _),
      onTask_congr (t := { s with tasks := s.tasks ++ [(newTask task place batch q).append xs] }) tasks]
    exact onTask_last rfl ok.fresh _
  · have positive := total_pos nonempty created.opened
    rw [putaway_allocated ok ht]
    exact if_neg (show total (xs.map fun x => x.quantity) ≠ 0 by omega)

end

/-! ### The cancellation of a task (R53, R55) -/

theorem task?_cancelTarget {s : State} {task : Nat} {t : Task} (ht : s.task? task = some t) (x : Target) (cause : CancelCause) :
    (s.cancelTarget task x cause).task? task = some { t with targets := closeIn x.addr (.cancelled cause) t.targets } := by
  rw [State.task?, cancelTarget_tasks]
  exact task?_onTask_self (s := s) (f := fun t => { t with targets := closeIn x.addr (.cancelled cause) t.targets }) (fun _ => rfl) ht

/-- The tasks with other tags stay where one task changes. -/
theorem filter_onTask (s : State) (task : Nat) {f : Task → Task} (h : ∀ t, (f t).tag = t.tag) :
    (s.onTask task f).tasks.filter (fun x => decide (x.tag ≠ task)) = s.tasks.filter fun x => decide (x.tag ≠ task) := by
  rw [State.onTask, List.filter_map]
  have same : ((fun x : Task => decide (x.tag ≠ task)) ∘ fun t => if t.tag = task then f t else t) = fun x => decide (x.tag ≠ task) := by
    funext t
    simp only [Function.comp_apply]
    split <;> simp [h]
  rw [same]
  refine (List.map_congr_left fun t ht => ?_).trans (List.map_id _)
  exact if_neg (of_decide_eq_true (List.mem_filter.mp ht).2)

/-- The OPEN targets of a task cancelled in their order leave none OPEN, and no other task changed (R53). -/
theorem cancelTargets_end {s : State} {task : Nat} (xs : List Target) {t : Task} (ht : s.task? task = some t)
    (opened : t.targets.filter Target.isOpen = xs) : ∃ u : State, u = xs.foldl (fun s x => s.cancelTarget task x .host) s ∧
      (∃ t', u.task? task = some t' ∧ ∀ x ∈ t'.targets, x.outcome ≠ .opened) ∧
      (u.tasks.filter fun x => decide (x.tag ≠ task)) = (s.tasks.filter fun x => decide (x.tag ≠ task)) := by
  induction xs generalizing s t with
  | nil =>
    refine ⟨s, rfl, ⟨t, ht, fun x hx open_ => ?_⟩, rfl⟩
    exact List.filter_eq_nil_iff.mp opened x hx (decide_eq_true open_)
  | cons x xs ih =>
    obtain ⟨-, rest⟩ := open_closeIn (o := .cancelled .host) (by simp) opened
    obtain ⟨u, e, ended, others⟩ := ih (task?_cancelTarget ht x .host) rest
    refine ⟨u, e, ended, others.trans ?_⟩
    rw [cancelTarget_tasks]
    exact filter_onTask s task fun _ => rfl

theorem tasks_endTask {s : State} {task : Nat} {t : Task} (ht : s.task? task = some t) (h : ∀ x ∈ t.targets, x.outcome ≠ .opened) :
    (s.endTask task).tasks = s.tasks.filter fun x => decide (x.tag ≠ task) := by
  rw [endTask_ended ht h, State.notify_tasks]

theorem tasks_cancelTask {s : State} {task : Nat} {t : Task} (ht : s.task? task = some t) :
    (s.cancelTask t).refresh.tasks = s.tasks.filter fun x => decide (x.tag ≠ task) := by
  obtain ⟨-, rfl⟩ := task?_some ht
  obtain ⟨u, e, ⟨t', ht', ended⟩, others⟩ := cancelTargets_end _ ht rfl
  rw [tasks_of_lasting (lasting_refresh _), State.cancelTask, tasks_of_lasting (lasting_testEnds _), ← e, tasks_endTask ht' ended, others]

theorem task?_filtered {u : State} {task : Nat} {ts : List Task} (h : u.tasks = ts.filter fun x => decide (x.tag ≠ task)) :
    u.task? task = none := by
  rw [State.task?, h, List.find?_eq_none]
  intro x hx
  simpa using (List.mem_filter.mp hx).2

theorem cancelPutaway_held {s : State} {task : Nat} {t : Task} (mode : s.mode ≠ .config) (h0 : task ≠ 0) (ht : s.task? task = some t) :
    cancelPutaway task s = .reply (s.cancelTask t).refresh .ok (.putawayCancelled task t.storedTotal (t.placed - t.storedTotal)) := by
  unfold cancelPutaway
  rw [if_neg mode, if_neg h0, ht]

theorem counted_cancelTask (s : State) (t : Task) : (s.cancelTask t).refresh.counted = s.counted := by
  rw [State.cancelTask, counted_of_lasting (lasting_refresh _), counted_of_lasting (lasting_testEnds _), counted_endTask]
  exact counted_foldl _ (fun s x => counted_cancelTarget s t.tag x .host) _ s

/-- Settles O27. -/
theorem putawayCreatesAndCancelPutawayFreesTheTask : Obligations.PutawayCreatesAndCancelPutawayFreesTheTask := by
  refine ⟨?putaway, ?cancel, ?choices, ?created, ?cancelled, ?ended⟩
  case putaway =>
    intro s tag task code batch q pref place art free ht mode fields known fresh room
    have ok : PutChecks (s.take 0x28 tag) task code batch q pref place art := ⟨mode, fields, known, fresh, room⟩
    refine ⟨fun some => ?_, fun none => ?_⟩
    · obtain ⟨u, xs, hu, nonempty, ⟨few, opened, within⟩, tasks, answer⟩ := putaway_placed ok some
      refine ⟨u, ((newTask task place batch q).append xs).withPlaced, ?_, hu, task?_last rfl fresh tasks, rfl, rfl, rfl, rfl,
        total_pos nonempty opened, within, List.length_pos_iff.mpr nonempty, few, opened, filter_last rfl fresh tasks, ?_⟩
      · refine (exec_lineFree (kind := 0x28) (tag := tag) rfl free ht).trans ?_
        simp only [ownerOf]
        rw [answer]
        rfl
      · rw [hu, counted_of_lasting (lasting_refresh _), counted_onTask]
        exact counted_allocatePut ..
    · refine (exec_lineFree (kind := 0x28) (tag := tag) rfl free ht).trans ?_
      simp only [ownerOf]
      rw [putaway_noRoom ok none]
      rfl
  case cancel =>
    intro s tag task t free ht mode h0 held
    have tasks := tasks_cancelTask (s := s.take 0x29 tag) held
    refine ⟨((s.take 0x29 tag).cancelTask t).refresh, ?_, ?_, task?_filtered tasks, tasks, counted_cancelTask ..⟩
    · refine (exec_lineFree (kind := 0x29) (tag := tag) rfl free ht).trans ?_
      simp only [ownerOf]
      rw [cancelPutaway_held (s := s.take 0x29 tag) mode h0 held]
      rfl
    · obtain ⟨-, rfl⟩ := task?_some held
      rfl
  case choices => exact fun s task place batch left remaining art pref => ⟨rfl, allocatePut_stops, fun c => allocatePut_takes⟩
  case created => exact fun s task place batch c x h => createTarget_eq h task place batch
  case cancelled => exact fun s task x y cause h => cancelTarget_eq h task cause
  case ended => exact fun s task t ht => ⟨endTask_open ht, endTask_ended ht⟩

end Sys2Proof.Machine
end

section
/-! What a slot holds, through pick allocation and through a quarantine entry (R15, R54). -/

namespace Sys2Proof.Machine

/-! ### Slots in the view that pick allocation leaves -/

theorem slot?_stored (s : State) (a : SlotAddr) : s.stored.slot? a = (s.slot? a).map Slot.stored := by
  unfold State.slot? State.carousel? State.stored State.lasting
  simp only [List.getD_eq_getElem?_getD, List.getElem?_map]
  cases s.carousels[a.carousel]? with
  | none => rfl
  | some c =>
    cases c with
    | none => rfl
    | some c =>
      simp only [Option.map_some, Option.getD_some, Carousel.lasting, Carousel.stored, List.getElem?_map]
      split <;> rfl

theorem slot?_of_stored {s t : State} (h : t.stored = s.stored) (a : SlotAddr) : (t.slot? a).map Slot.stored = (s.slot? a).map Slot.stored := by
  rw [← slot?_stored, h, slot?_stored]

/-- Pick allocation leaves every slot its record but for pick-reserved. -/
theorem slot?_some_of_stored {s t : State} (h : t.stored = s.stored) {a : SlotAddr} {x : Slot} (hx : s.slot? a = some x) :
    ∃ y, t.slot? a = some y ∧ y.stored = x.stored := by
  have e := slot?_of_stored h a
  rw [hx, Option.map_some] at e
  exact Option.map_eq_some_iff.mp e

/-! ### Slots while their reservations are cancelled -/

/-- A slot record without what is reserved and pending. -/
def Slot.idle (x : Slot) : Slot := { x with reserved := 0, pending := 0 }

/-- The slots of the part without what is reserved and pending. -/
def State.idleSlot (s : State) (a : SlotAddr) : Option Slot := (s.slot? a).map Slot.idle

theorem idleSlot_of_quiet {s t : State} (h : Quiet s t) (a : SlotAddr) : t.idleSlot a = s.idleSlot a := by
  rw [State.idleSlot, slot?_of_quiet h, State.idleSlot]

theorem idleSlot_updateSlot (s : State) (a : SlotAddr) {f : Slot → Slot} (h : ∀ x, (f x).idle = x.idle) (b : SlotAddr) :
    (s.updateSlot a f).idleSlot b = s.idleSlot b := by
  cases hx : s.slot? a with
  | none => rw [State.updateSlot, hx]
  | some x =>
    rw [State.idleSlot, slot?_updateSlot_all hx]
    split
    · next e => rw [State.idleSlot, e, hx, Option.map_some, Option.map_some, h]
    · rfl

theorem idleSlot_cancelPick (s : State) (p : Pick) (a : SlotAddr) : (s.cancelPick p).idleSlot a = s.idleSlot a :=
  (idleSlot_of_quiet (quiet_cancelPick s p) a).trans
    (idleSlot_updateSlot s p.addr (f := fun slot => { slot with reserved := slot.reserved - p.quantity }) (fun _ => rfl) a)

theorem quiet_cancelTarget (s : State) (tag : Nat) (x : Target) : Quiet
    ((s.updateSlot x.addr fun slot => { slot with pending := slot.pending - x.quantity }).closeTarget tag x.addr (.cancelled .quarantine))
    (s.cancelTarget tag x .quarantine) :=
  (quiet_removeEntry ..).trans (quiet_recompute ..)

theorem idleSlot_cancelTarget (s : State) (tag : Nat) (x : Target) (a : SlotAddr) :
    (s.cancelTarget tag x .quarantine).idleSlot a = s.idleSlot a :=
  (idleSlot_of_quiet (quiet_cancelTarget s tag x) a).trans
    (idleSlot_updateSlot s x.addr (f := fun slot => { slot with pending := slot.pending - x.quantity }) (fun _ => rfl) a)

theorem idleSlot_endTask (s : State) (tag : Nat) (a : SlotAddr) : (s.endTask tag).idleSlot a = s.idleSlot a := by
  unfold State.endTask
  split
  · split
    · rfl
    · exact idleSlot_of_quiet (quiet_notify ..) a
  · rfl

theorem idleSlot_foldl {α : Type} {f : State → α → State} {a : SlotAddr} (h : ∀ s x, (f s x).idleSlot a = s.idleSlot a) (xs : List α)
    (s : State) : (xs.foldl f s).idleSlot a = s.idleSlot a := by
  induction xs generalizing s with
  | nil => rfl
  | cons x xs ih => exact (ih _).trans (h s x)

theorem idleSlot_clearReservations (s : State) (a b : SlotAddr) : (s.clearReservations a).idleSlot b = s.idleSlot b := by
  unfold State.clearReservations
  dsimp only
  rw [idleSlot_foldl fun s (q : Nat × Target) => (idleSlot_endTask (s.cancelTarget q.1 q.2 .quarantine) q.1 b).trans (idleSlot_cancelTarget s q.1 q.2 b),
    idleSlot_foldl fun s p => idleSlot_cancelPick s p b]

/-! ### Quarantine entry (R15) -/

/-- A slot entered into QUARANTINE: nothing is reserved, and what it holds stays. -/
def Slot.quarantined (x : Slot) (r : Reason) (load : Option Nat) : Slot :=
  { x with state := .quarantine, reserved := 0, pending := 0, measured := load, reason := some r }

section
variable {s : State} {a : SlotAddr} {x : Slot} (hx : s.slot? a = some x) (r : Reason) (load : Option Nat)
include hx

theorem slot?_clearReservations : ∃ y, (s.clearReservations a).slot? a = some y ∧ y.idle = x.idle := by
  have e := idleSlot_clearReservations s a a
  rw [State.idleSlot, State.idleSlot, hx, Option.map_some] at e
  exact Option.map_eq_some_iff.mp e

/-- The entry writes the slot record that the cancellations have left. -/
theorem quarantine_written : ∃ y, (s.clearReservations a).slot? a = some y ∧ y.idle = x.idle ∧
    s.quarantine a r load = (s.clearReservations a).writeSlot a (x.quarantined r load) := by
  obtain ⟨y, hy, same⟩ := slot?_clearReservations hx
  have new : y.quarantined r load = x.quarantined r load :=
    (congrArg (fun z : Slot => z.quarantined r load) same :)
  refine ⟨y, hy, same, ?_⟩
  rw [← new]
  exact updateSlot_of_slot? hy _

theorem slot?_quarantine : (s.quarantine a r load).slot? a = some (x.quarantined r load) := by
  obtain ⟨y, hy, -, e⟩ := quarantine_written hx r load
  rw [e]
  exact slot?_writeSlot hy _

/-- No tyre moves at a quarantine entry. -/
theorem counted_quarantine (empty : x.state = .free → x.onHand = 0) : (s.quarantine a r load).counted = s.counted := by
  obtain ⟨y, hy, same, e⟩ := quarantine_written hx r load
  have state : y.state = x.state := (congrArg (fun z : Slot => z.state) same :)
  have onHand : y.onHand = x.onHand := (congrArg (fun z : Slot => z.onHand) same :)
  rw [e, counted_writeSlot hy, counted_clearReservations]
  show x.onHand = y.tyres
  unfold Slot.tyres
  split
  · next free => exact empty (state.symm.trans free)
  · exact onHand.symm

end

theorem discrepancies_of_counted {s t : State} (h : t.counted = s.counted) : t.discrepancies = s.discrepancies :=
  (congrArg (fun u => u.discrepancies) h :)

theorem discrepancies_quarantine (s : State) (a : SlotAddr) (r : Reason) (load : Option Nat) :
    (s.quarantine a r load).discrepancies = s.discrepancies := by
  rw [State.quarantine, State.updateSlot_discrepancies, discrepancies_of_counted (counted_clearReservations s a)]

end Sys2Proof.Machine
end

section
/-! The close of the gate of a measurement: the result, what it writes, and what follows (R153, R156 to R159). -/

namespace Sys2Proof.Machine

/-! ### The parts of one judgement -/

/-- The address of the slot that a measurement counts. -/
def Measurement.slotAddr (m : Measurement) (k : Nat) : SlotAddr := ⟨k, m.carrier, m.position⟩

/-- The calibration of the channel that a measurement at a window uses (R155). -/
def State.channel (s : State) (w : Nat) (m : Measurement) : Calibration := (s.window w).calibrations.getD m.position ⟨0, 41⟩

/-- The measured load of the slot counted at a window (R155). -/
def State.loadCounted (s : State) (w : Nat) (m : Measurement) : Nat := measuredLoad (s.window w).counter (s.channel w m)

/-- The estimate of the slot counted at a window (R155). -/
def State.estimateCounted (s : State) (w : Nat) (m : Measurement) (x : Slot) : Option Nat :=
  s.estimate x (s.window w).counter (s.loadCounted w m)

/-- The result of the slot counted at a window (R156). -/
def State.outcomeCounted (s : State) (w : Nat) (m : Measurement) (x : Slot) : AuditOutcome :=
  judge x.onHand (s.window w).counter (s.loadCounted w m) (s.estimateCounted w m x)

/-- What the AUDIT_RESULT notice of a counted slot carries (R157). -/
def State.resultCounted (s : State) (w k : Nat) (m : Measurement) (x : Slot) (state : SlotState) (fate : RecordFate) : AuditResult :=
  { window := w, addr := m.slotAddr k, outcome := s.outcomeCounted w m x, count := some (s.window w).counter,
    load := some (s.loadCounted w m), estimate := s.estimateCounted w m x, recorded := x.onHand,
    code := x.held.map fun h => s.codeAt h.place, state := state, fate := fate }

/-- The record counts one slot judged (R156, step 4). -/
def Measurement.count (out : AuditOutcome) (m : Measurement) : Measurement :=
  { m with judged := m.judged + 1, matched := m.matched + (if out = .matching then 1 else 0),
           mismatched := m.mismatched + (if out = .matching then 0 else 1) }

/-- After a judgement: the next slot is sought, or the measurement ends (R153, R159). -/
def State.soughtFrom (k w c i : Nat) (s : State) : State :=
  match s.seekFrom k w c i with
  | (t, true) => t.finishCount k w c
  | (t, false) => t

/-- The steps of a judgement that follow its writes: notice, count, re-allocation, the next slot, the close (R156). -/
def State.judgedAs (w k : Nat) (m : Measurement) (result : AuditResult) (r : Reach) (s : State) : State :=
  (State.soughtFrom k w m.carrier (m.position + 1)
    (((s.notify (.auditResult result)).onMeasurement w (Measurement.count result.outcome)).reallocate r)).refresh

theorem lasting_soughtFrom (s : State) (k w c i : Nat) : (s.soughtFrom k w c i).lasting = s.lasting := by
  have sought := lasting_seekFrom s k w c i
  unfold State.soughtFrom
  split
  · next e =>
    rw [e] at sought
    exact (lasting_finishCount ..).trans sought
  · next e =>
    rw [e] at sought
    exact sought

/-- The steps after the writes write only what pick allocation does. -/
theorem stored_judgedAs (s : State) (w k : Nat) (m : Measurement) (result : AuditResult) (r : Reach) :
    (s.judgedAs w k m result r).stored = s.stored := by
  rw [State.judgedAs, stored_of_lasting (lasting_refresh _), stored_of_lasting (lasting_soughtFrom ..), stored_reallocate,
    stored_of_lasting (lasting_onMeasurement ..), stored_of_lasting (lasting_notify ..)]

/-! ### The result (R156) -/

theorem judge_reason (onHand count load : Nat) (e : Option Nat) :
    (judge onHand count load e).reason = none ↔ judge onHand count load e = .matching := by
  unfold judge
  split
  · simp [AuditOutcome.reason]
  · split
    · split <;> simp [AuditOutcome.reason]
    · split <;> simp [AuditOutcome.reason]

theorem judge_eq_count {out : AuditOutcome} (h : out.reason = none ↔ out = .matching) (m : Measurement) :
    m.judge out.reason.isNone = m.count out := by
  by_cases matching : out = .matching
  · subst matching
    rfl
  · have mismatch : out.reason.isNone = false := by
      rw [Bool.eq_false_iff, Ne, Option.isNone_iff_eq_none, h]
      exact matching
    simp [Measurement.judge, Measurement.count, mismatch, matching]

/-! ### The effect on the slot and on the discrepancy list (R156, R158) -/

/-- The discrepancy record that a result other than MATCH makes (R158). -/
def State.discrepancyCounted (s : State) (w k : Nat) (m : Measurement) (x : Slot) (r : Reason) : Discrepancy :=
  { addr := m.slotAddr k, kind := r, recorded := x.onHand, estimate := if r = .mismatch then s.estimateCounted w m x else none,
    load := s.loadCounted w m }

/-- What becomes of the record of a slot in the list `ds` (R158). -/
def fateIn (ds : List Discrepancy) (a : SlotAddr) : RecordFate :=
  if namesSlot ds a then .updated else if ds.length < 32 then .made else .notMade

/-- A record enters the list, which was `ds`, rewrites the one of its slot, or finds the list full (R158). -/
def State.enterDiscrepancy (ds : List Discrepancy) (d : Discrepancy) (s : State) : State :=
  if namesSlot ds d.addr then { s with discrepancies := s.discrepancies.map fun y => if y.addr = d.addr then d else y }
  else if ds.length < 32 then { s with discrepancies := s.discrepancies ++ [d] }
  else { s with flags := { s.flags with discrepancyFull := true } }

theorem applyDiscrepancy_entered {s : State} {ds : List Discrepancy} (h : s.discrepancies = ds) (a : SlotAddr) (x : Slot) (r : Reason)
    (e : Option Nat) (load : Nat) : s.applyDiscrepancy a x (some r) e load =
      (s.enterDiscrepancy ds { addr := a, kind := r, recorded := x.onHand, estimate := if r = .mismatch then e else none, load := load },
        fateIn ds a) := by
  subst h
  unfold State.applyDiscrepancy State.enterDiscrepancy fateIn
  dsimp only
  split
  · rfl
  · split
    · next room => rw [if_pos (show s.discrepancies.length < 32 from room), if_pos (show s.discrepancies.length < 32 from room)]
    · next full =>
      rw [if_neg (show ¬s.discrepancies.length < 32 from full), if_neg (show ¬s.discrepancies.length < 32 from full)]
      rfl

theorem counted_enterDiscrepancy {s t : State} (h : t.counted = s.counted) (d : Discrepancy) :
    (t.enterDiscrepancy s.discrepancies d).counted = ({ s with
      discrepancies := if namesSlot s.discrepancies d.addr then s.discrepancies.map fun y => if y.addr = d.addr then d else y
                       else if s.discrepancies.length < 32 then s.discrepancies ++ [d] else s.discrepancies,
      flags := if namesSlot s.discrepancies d.addr = false ∧ 32 ≤ s.discrepancies.length then { s.flags with discrepancyFull := true }
               else s.flags } : State).counted := by
  have listed := discrepancies_of_counted h
  have list : ∀ ds, ({ t with discrepancies := ds } : State).counted = ({ s with discrepancies := ds } : State).counted := fun ds =>
    (congrArg (fun u : State => { u with discrepancies := ds }) h :)
  unfold State.enterDiscrepancy
  rw [listed]
  by_cases named : namesSlot s.discrepancies d.addr = true
  · simp only [named, Bool.true_eq_false, false_and, if_false]
    exact list _
  · rw [if_neg named, if_neg named]
    by_cases room : s.discrepancies.length < 32
    · simp only [if_pos room, Nat.not_le.mpr room, and_false, if_false]
      exact list _
    · rw [if_neg room, if_neg room, if_pos ⟨Bool.eq_false_iff.mpr named, Nat.not_lt.mp room⟩]
      exact (congrArg (fun u : State => { u with
        flags := { u.flags with discrepancyFull := true }, discrepancies := s.discrepancies }) h :)

/-! ### The expiry of the gate timer -/

theorem judgeSlot_eq (s : State) (w : Nat) (a : SlotAddr) (x : Slot) (count : Nat) (cal : Calibration) {t : State} {state : SlotState}
    {fate : RecordFate} {r : Reach} {load : Nat} {e : Option Nat} {out : AuditOutcome} (hload : measuredLoad count cal = load)
    (he : s.estimate x count load = e) (hout : judge x.onHand count load e = out) (hstate : (s.applyResult a x out.reason load).slotState a = state)
    (ht : (s.applyResult a x out.reason load).applyDiscrepancy a x out.reason e load = (t, fate)) (hr : s.resultReach a x out.reason = r) :
    s.judgeSlot w a x count cal = ((t.notify (.auditResult
      { window := w, addr := a, outcome := out, count := some count, load := some load, estimate := e, recorded := x.onHand,
        code := x.held.map fun h => s.codeAt h.place, state := state, fate := fate })).onMeasurement w (Measurement.count out)).reallocate r := by
  have counts : (fun m : Measurement => m.judge out.reason.isNone) = Measurement.count out :=
    funext (judge_eq_count (hout ▸ judge_reason ..))
  subst hload he hstate hr
  rw [State.judgeSlot, hout]
  rw [ht, counts]

theorem gateMeasure_eq {s : State} {k : Nat} {m : Measurement} {x : Slot} (w : Nat) (hx : s.slot? (m.slotAddr k) = some x) :
    s.gateMeasure k w m =
      (s.judgeSlot w (m.slotAddr k) x (s.window w).counter (s.channel w m)).soughtFrom k w m.carrier (m.position + 1) := by
  unfold State.gateMeasure
  dsimp only
  rw [show s.slot? ⟨k, m.carrier, m.position⟩ = some x from hx]
  rfl

theorem gateClosed_articles (s : State) (w : Nat) (e : Time) : (s.gateClosed w e).articles = s.articles := by
  simp [State.gateClosed]

theorem slot?_gateClosed (s : State) (w : Nat) (e : Time) (a : SlotAddr) : (s.gateClosed w e).slot? a = s.slot? a := by
  show (s.reachTime e).slot? a = s.slot? a
  rw [State.slot?, State.slot?, carousel?_reachTime]

theorem discrepancies_gateClosed (s : State) (w : Nat) (e : Time) : (s.gateClosed w e).discrepancies = s.discrepancies := by
  simp [State.gateClosed]

theorem codeAt_of_articles {s t : State} (h : t.articles = s.articles) (place : Nat) : t.codeAt place = s.codeAt place := by
  unfold State.codeAt State.articleAt
  rw [h]

theorem estimate_of_articles {s t : State} (h : t.articles = s.articles) (x : Slot) (count load : Nat) :
    t.estimate x count load = s.estimate x count load := by
  unfold State.estimate State.weightAt State.articleAt
  rw [h]

theorem lasting_gateClosed (s : State) (w : Nat) (e : Time) : (s.gateClosed w e).lasting = (s.reachTime e).lasting :=
  lasting_onWindow _ _ _ fun _ => rfl

section
variable {s : State} {w k : Nat} {m : Measurement} {e : Time} {x : Slot} (hk : s.carouselOf w = some k)
  (hm : (s.window w).measurement = some m) (gate : m.phase = .gate e) (purpose : m.purpose = .measure) (hx : s.slot? (m.slotAddr k) = some x)
include hk hm gate purpose hx

/-- The expiry, once its effects on the slot and on the discrepancy list are known (R156). -/
theorem gateExpiry_judged {t : State} {state : SlotState} {fate : RecordFate} {r : Reach} {reason : Option Reason}
    (hreason : (s.outcomeCounted w m x).reason = reason)
    (hstate : ((s.gateClosed w e).applyResult (m.slotAddr k) x reason (s.loadCounted w m)).slotState (m.slotAddr k) = state)
    (ht : ((s.gateClosed w e).applyResult (m.slotAddr k) x reason (s.loadCounted w m)).applyDiscrepancy (m.slotAddr k) x reason
      (s.estimateCounted w m x) (s.loadCounted w m) = (t, fate))
    (hr : (s.gateClosed w e).resultReach (m.slotAddr k) x reason = r) :
    (s.gateExpiry w).refresh = t.judgedAs w k m (s.resultCounted w k m x state fate) r := by
  subst hreason
  have articles := gateClosed_articles s w e
  have window := window_gateClosed (window_lt_of_carouselOf hk) e
  have counter : ((s.gateClosed w e).window w).counter = (s.window w).counter := by rw [window]
  have channel : (s.gateClosed w e).channel w m = s.channel w m := by rw [State.channel, window, State.channel]
  have codes : (fun h : Holding => (s.gateClosed w e).codeAt h.place) = fun h => s.codeAt h.place :=
    funext fun h => codeAt_of_articles articles h.place
  rw [gateExpiry_measure hk hm gate purpose, gateMeasure_eq w ((slot?_gateClosed s w e _).trans hx), counter, channel,
    judgeSlot_eq (s.gateClosed w e) w (m.slotAddr k) x (s.window w).counter (s.channel w m) (load := s.loadCounted w m)
      (e := s.estimateCounted w m x) (out := s.outcomeCounted w m x) rfl (estimate_of_articles articles ..) rfl hstate ht hr, codes]
  rfl

/-- MATCH on a slot in service writes nothing (R156). -/
theorem gateExpiry_matches (out : s.outcomeCounted w m x = .matching) (service : x.state ≠ .quarantine) :
    (s.gateExpiry w).refresh = (s.gateClosed w e).judgedAs w k m (s.resultCounted w k m x x.state .none)
      { lines := [], places := [], except := none } := by
  have same : (s.gateClosed w e).applyResult (m.slotAddr k) x none (s.loadCounted w m) = s.gateClosed w e := if_neg service
  refine gateExpiry_judged hk hm gate purpose hx (reason := none) (by rw [out]; rfl) ?_ ?_ ?_
  · rw [same, State.slotState, slot?_gateClosed, hx]
  · rw [same]
    exact if_neg fun h => service h.1
  · unfold State.resultReach
    cases x.held with
    | none => rfl
    | some h => simp only [if_neg fun h : x.state = .quarantine ∧ 0 < x.onHand => service h.1]

/-- The articles whose short lines a release reaches (R67). -/
def Slot.releasedPlaces (x : Slot) : List Nat :=
  match x.held with
  | some h => if 0 < x.onHand then [h.place] else []
  | none => []

/-- The release of a slot that a count has found right: its record and its discrepancy record (R156, R158). -/
def State.released (a : SlotAddr) (x : Slot) (ds : List Discrepancy) (s : State) : State :=
  { s.writeSlot a x.restored with discrepancies := ds.filter fun d => decide (d.addr ≠ a) }

omit hk hm gate purpose hx in
theorem filter_unnamed {ds : List Discrepancy} {a : SlotAddr} (h : namesSlot ds a = false) :
    (ds.filter fun d => decide (d.addr ≠ a)) = ds := by
  refine List.filter_eq_self.mpr fun d hd => decide_eq_true fun e => ?_
  exact absurd (List.any_eq_false.mp h d hd) (by simp [e])

/-- MATCH on a QUARANTINE slot releases it (R156, R158). -/
theorem gateExpiry_releases (out : s.outcomeCounted w m x = .matching) (quarantined : x.state = .quarantine) :
    (s.gateExpiry w).refresh = ((s.gateClosed w e).released (m.slotAddr k) x s.discrepancies).judgedAs w k m
      (s.resultCounted w k m x x.restored.state (if namesSlot s.discrepancies (m.slotAddr k) then .removed else .none))
      { lines := [], places := x.releasedPlaces, except := none } := by
  have written : (s.gateClosed w e).applyResult (m.slotAddr k) x none (s.loadCounted w m) =
      (s.gateClosed w e).writeSlot (m.slotAddr k) x.restored := if_pos quarantined
  have here := (slot?_gateClosed s w e (m.slotAddr k)).trans hx
  have listed : ((s.gateClosed w e).writeSlot (m.slotAddr k) x.restored).discrepancies = s.discrepancies := by
    rw [State.writeSlot_discrepancies, discrepancies_gateClosed]
  refine gateExpiry_judged hk hm gate purpose hx (reason := none) (by rw [out]; rfl) ?_ ?_ ?_
  · rw [written, State.slotState, slot?_writeSlot here]
  · rw [written]
    unfold State.applyDiscrepancy
    dsimp only
    rw [listed]
    by_cases named : namesSlot s.discrepancies (m.slotAddr k) = true
    · rw [if_pos ⟨quarantined, named⟩, if_pos named, State.removeDiscrepancy, listed]
      rfl
    · rw [if_neg fun h => named h.2, if_neg named, State.released, filter_unnamed (Bool.eq_false_iff.mpr named), ← listed]
  · unfold State.resultReach Slot.releasedPlaces
    cases x.held with
    | none => rfl
    | some h => simp only [quarantined, true_and]

/-- The slot of a result other than MATCH in QUARANTINE, which it enters unless it stands there (R156). -/
def State.condemned (a : SlotAddr) (x : Slot) (r : Reason) (load : Nat) (s : State) : State :=
  if x.state = .quarantine then s.updateSlot a fun y => { y with reason := some r, measured := some load }
  else s.quarantine a r (some load)

/-- The record of a slot condemned. -/
def Slot.condemned (x : Slot) (r : Reason) (load : Nat) : Slot :=
  if x.state = .quarantine then { x with reason := some r, measured := some load } else x.quarantined r (some load)

omit hk hm gate purpose hx in
theorem slot?_condemned {a : SlotAddr} (hx : s.slot? a = some x) (r : Reason) (load : Nat) :
    (s.condemned a x r load).slot? a = some (x.condemned r load) := by
  unfold State.condemned Slot.condemned
  split
  · exact slot?_updateSlot hx _
  · exact slot?_quarantine hx r _

omit hk hm gate purpose hx in
theorem discrepancies_condemned (s : State) (a : SlotAddr) (x : Slot) (r : Reason) (load : Nat) :
    (s.condemned a x r load).discrepancies = s.discrepancies := by
  unfold State.condemned
  split
  · exact State.updateSlot_discrepancies ..
  · exact discrepancies_quarantine ..

omit hk hm gate purpose hx in
theorem counted_condemned {a : SlotAddr} (hx : s.slot? a = some x) (r : Reason) (load : Nat) (empty : x.state = .free → x.onHand = 0) :
    (s.condemned a x r load).counted = s.counted := by
  unfold State.condemned
  split
  · exact counted_updateSlot s a _ fun _ => rfl
  · exact counted_quarantine hx r _ empty

omit hk hm gate purpose hx in
/-- What a condemned slot keeps and what it is given (R15, R156). -/
theorem condemned_fields (x : Slot) (r : Reason) (load : Nat) : (x.condemned r load).state = .quarantine ∧
    (x.condemned r load).onHand = x.onHand ∧ (x.condemned r load).held = x.held ∧ (x.condemned r load).measured = some load ∧
    (x.condemned r load).reason = some r := by
  unfold Slot.condemned
  split
  · next quarantined => exact ⟨quarantined, rfl, rfl, rfl, rfl⟩
  · exact ⟨rfl, rfl, rfl, rfl, rfl⟩

/-- Any result but MATCH leaves the slot in QUARANTINE and enters its discrepancy record (R156, R158). -/
theorem gateExpiry_condemns {r : Reason} (out : (s.outcomeCounted w m x).reason = some r) :
    (s.gateExpiry w).refresh = (((s.gateClosed w e).condemned (m.slotAddr k) x r (s.loadCounted w m)).enterDiscrepancy s.discrepancies
      (s.discrepancyCounted w k m x r)).judgedAs w k m
        (s.resultCounted w k m x .quarantine (fateIn s.discrepancies (m.slotAddr k)))
        { lines := if x.state = .quarantine then [] else ((s.gateClosed w e).slotPicks (m.slotAddr k)).map fun p => (p.order, p.line),
          places := [], except := none } := by
  have condemned : (s.gateClosed w e).applyResult (m.slotAddr k) x (some r) (s.loadCounted w m) =
      (s.gateClosed w e).condemned (m.slotAddr k) x r (s.loadCounted w m) := rfl
  refine gateExpiry_judged hk hm gate purpose hx out ?_ ?_ rfl
  · rw [condemned, State.slotState, slot?_condemned ((slot?_gateClosed s w e _).trans hx)]
    exact (condemned_fields x r _).1
  · rw [condemned]
    exact applyDiscrepancy_entered ((discrepancies_condemned ..).trans (discrepancies_gateClosed ..)) ..

end

/-! ### What the judgement leaves -/

theorem notify_onWindow (s : State) (w : Nat) (f : Window → Window) (n : Notice) : (s.onWindow w f).notify n = (s.notify n).onWindow w f := by
  by_cases room : s.line.notices.length < Config.noticePlaces
  · rw [State.notify, State.notify, if_pos (show (s.onWindow w f).line.notices.length < _ from room), if_pos room]
    rfl
  · rw [State.notify, State.notify, if_neg (show ¬(s.onWindow w f).line.notices.length < _ from room), if_neg room]
    rfl

theorem writeSlot_onWindow (s : State) (w : Nat) (f : Window → Window) (a : SlotAddr) (new : Slot) :
    (s.onWindow w f).writeSlot a new = (s.writeSlot a new).onWindow w f := by
  cases hx : s.slot? a with
  | none =>
    have none : ∀ t : State, t.slot? a = Option.none → t.writeSlot a new = t := fun t ht => by
      unfold State.writeSlot
      rw [ht]
      cases t.carousel? a.carousel <;> rfl
    rw [none s hx]
    exact none _ hx
  | some x =>
    obtain ⟨c, hc, -⟩ := slot?_eq hx
    rw [writeSlot_eq (s := s.onWindow w f) hx hc, writeSlot_eq hx hc]
    have same : (s.onWindow w f).carouselWritten a c x new = s.carouselWritten a c x new := rfl
    dsimp only
    rw [same]
    split
    · rfl
    · exact notify_onWindow (s.setCarousel a.carousel (s.carouselWritten a c x new)) w f _

theorem stored_released_gate (s : State) (w : Nat) (e : Time) (a : SlotAddr) (x : Slot) (ds : List Discrepancy) :
    ((s.gateClosed w e).released a x ds).stored = ((s.reachTime e).released a x ds).stored := by
  have open_ : (s.gateClosed w e).released a x ds =
      ((s.reachTime e).released a x ds).onWindow w fun v => { v with counterOpen := false } := by
    rw [State.gateClosed, State.released, writeSlot_onWindow]
    rfl
  rw [open_]
  exact stored_of_lasting (lasting_onWindow _ _ _ fun _ => rfl)

theorem slot?_enterDiscrepancy (s : State) (ds : List Discrepancy) (d : Discrepancy) (a : SlotAddr) :
    (s.enterDiscrepancy ds d).slot? a = s.slot? a := by
  unfold State.enterDiscrepancy
  split
  · rfl
  · split <;> rfl

/-- The slot condemned stands in QUARANTINE when the expiry is over (R156). -/
theorem slot?_condemned_judged {t : State} {a : SlotAddr} {x : Slot} (hx : t.slot? a = some x) (r : Reason) (load : Nat)
    (ds : List Discrepancy) (d : Discrepancy) (w k : Nat) (m : Measurement) (result : AuditResult) (reach : Reach) :
    ∃ y, (((t.condemned a x r load).enterDiscrepancy ds d).judgedAs w k m result reach).slot? a = some y ∧ y.state = .quarantine ∧
      y.onHand = x.onHand ∧ y.held = x.held ∧ y.measured = some load ∧ y.reason = some r := by
  obtain ⟨y, hy, same⟩ := slot?_some_of_stored (stored_judgedAs ((t.condemned a x r load).enterDiscrepancy ds d) w k m result reach)
    ((slot?_enterDiscrepancy _ ds d a).trans (slot?_condemned hx r load))
  obtain ⟨state, onHand, held, measured, reason⟩ := condemned_fields x r load
  exact ⟨y, hy, (congrArg (fun z : Slot => z.state) same :).trans state, (congrArg (fun z : Slot => z.onHand) same :).trans onHand,
    (congrArg (fun z : Slot => z.held) same :).trans held, (congrArg (fun z : Slot => z.measured) same :).trans measured,
    (congrArg (fun z : Slot => z.reason) same :).trans reason⟩

/-- No tyre moves at a result, and of the rest only the discrepancy list and its flag change (R156, R158). -/
theorem counted_condemned_judged {s t : State} (h : t.counted = s.counted) {a : SlotAddr} {x : Slot} (hx : t.slot? a = some x)
    (empty : x.state = .free → x.onHand = 0) (r : Reason) (load : Nat) {ds : List Discrepancy} {flags : Flags}
    (listed : s.discrepancies = ds) (hf : s.flags = flags) (d : Discrepancy) (w k : Nat) (m : Measurement) (result : AuditResult)
    (reach : Reach) :
    (((t.condemned a x r load).enterDiscrepancy ds d).judgedAs w k m result reach).counted = ({ s with
      discrepancies := if namesSlot ds d.addr then ds.map fun y => if y.addr = d.addr then d else y
                       else if ds.length < 32 then ds ++ [d] else ds,
      flags := if namesSlot ds d.addr = false ∧ 32 ≤ ds.length then { flags with discrepancyFull := true } else flags } : State).counted := by
  subst listed hf
  rw [counted_of_stored (stored_judgedAs ..)]
  exact counted_enterDiscrepancy ((counted_condemned hx r load empty).trans h) d

/-- Settles O53. -/
theorem theGateJudgesTheSlot : Obligations.TheGateJudgesTheSlot := by
  intro s w k m e x hk hm gate purpose hx a count load est out s1 closed sought ends named restored released
  have ends_eq : ∀ lines places state fate t, ends lines places state fate t =
    State.judgedAs w k m (s.resultCounted w k m x state fate) { lines := lines, places := places, except := none } t :=
    fun _ _ _ _ _ => rfl
  have released_eq : released = closed.released (m.slotAddr k) x s.discrepancies := rfl
  have restored_eq : restored = x.restored := rfl
  have closed_eq : closed = s.gateClosed w e := rfl
  have out_eq : out = s.outcomeCounted w m x := rfl
  clear_value ends released
  subst released_eq
  clear_value restored
  subst restored_eq
  clear_value closed out
  subst closed_eq out_eq
  simp only [ends_eq]
  refine ⟨(s.gateExpiry w).refresh, rfl, fun matching service => ?service, fun matching quarantined => ?released, fun r condemned => ?condemned⟩
  case service =>
    have expiry := gateExpiry_matches hk hm gate purpose hx matching service
    refine ⟨expiry, ?_⟩
    rw [expiry, stored_judgedAs]
    exact stored_of_lasting (lasting_gateClosed s w e)
  case released =>
    have expiry := gateExpiry_releases hk hm gate purpose hx matching quarantined
    refine ⟨expiry, ?_⟩
    rw [expiry, stored_judgedAs]
    exact stored_released_gate s w e (m.slotAddr k) x s.discrepancies
  case condemned =>
    have expiry := gateExpiry_condemns hk hm gate purpose hx condemned
    have here : (s.gateClosed w e).slot? a = some x := (slot?_gateClosed s w e a).trans hx
    refine ⟨expiry, ?_, fun empty => ?_⟩
    · rw [expiry]
      exact slot?_condemned_judged here ..
    · rw [expiry]
      exact counted_condemned_judged (counted_of_lasting (lasting_gateClosed s w e)) here empty r load
        (State.reachTime_discrepancies s e) (State.reachTime_flags s e) (s.discrepancyCounted w k m x r) ..
end Sys2Proof.Machine
end

section
/-! CONFIRM of a PUT entry (R50 to R52, R121). -/

namespace Sys2Proof.Machine

/-! ### The press and the entry it confirms -/

/-- The state in which a CONFIRM acts: the press waits no longer. -/
def State.pressUsed (w i : Nat) (s : State) : State := s.onWindow w (Window.usePress (.confirm i))

section
variable {s : State} {w i k : Nat} {pr : Presentation} {e : Entry} {rest : List Entry} {d : Display} (hk : s.carouselOf w = some k)
  (hp : (s.window w).presentation = some pr) (hq : pr.queue i = e :: rest) (hd : (s.window w).displays.getD i Display.blank = d)
include hk

theorem window_pressUsed : (s.pressUsed w i).window w = (s.window w).usePress (.confirm i) :=
  window_onWindow_self (window_lt_of_carouselOf hk) _

include hp hq hd

/-- CONFIRM acts on the head entry and its display record (R121). -/
theorem confirm_head : exec (.confirm w i) s = .next ((s.pressUsed w i).confirmHead w i ⟨k, pr.carrier, i⟩ d e).close := by
  have window := window_pressUsed (i := i) hk
  have carousel : (s.pressUsed w i).carouselOf w = some k := by
    rw [State.carouselOf, window]
    exact hk
  have presentation : ((s.pressUsed w i).window w).presentation = some pr := by rw [window]; exact hp
  have displays : ((s.pressUsed w i).window w).displays.getD i Display.blank = d := by rw [window]; exact hd
  have confirmed : (s.pressUsed w i).confirmAt w i = (s.pressUsed w i).confirmHead w i ⟨k, pr.carrier, i⟩ d e := by
    unfold State.confirmAt
    simp only [carousel, presentation, hq, List.head?_cons, displays]
  exact congrArg (fun t : State => Host.Outcome.next t.close) confirmed

end

theorem confirmHead_put {d : Display} (mode : d.mode = .put) (s : State) (w i : Nat) (a : SlotAddr) (task quantity : Nat) :
    s.confirmHead w i a d (.put task quantity) = s.confirmPut a task d.quantity := by
  unfold State.confirmHead
  rw [mode]

/-! ### What the end of a task leaves -/

/-- What the end of a task leaves of the part depends on what pick allocation leaves of it. -/
theorem stored_endTask_congr {s t : State} (h : s.stored = t.stored) (tag : Nat) : (s.endTask tag).stored = (t.endTask tag).stored := by
  have tasks : s.tasks = t.tasks := (congrArg (fun u : State => u.tasks) h :)
  have found : s.task? tag = t.task? tag := by rw [State.task?, tasks, State.task?]
  unfold State.endTask
  rw [found]
  split
  · split
    · exact h
    · rw [stored_of_lasting (lasting_notify ..), stored_of_lasting (lasting_notify ..), tasks]
      exact (congrArg (fun u : State => { u with tasks := t.tasks.filter fun x => decide (x.tag ≠ tag) }) h :)
  · exact h

/-! ### The confirm (R50, R51) -/

section
variable (s : State) (a : SlotAddr) (task shown : Nat)

/-- The steps after the writes of a PUT confirm: the entry, the task, the short lines of the article, the end test (R51, R52). -/
def State.afterPut (a : SlotAddr) (task quantity place : Nat) (s : State) : State :=
  (((s.removeEntry a (.put task quantity)).endTask task).reallocate { lines := [], places := [place], except := none }).testEnds

theorem confirmPut_some {t : Task} {x : Target} (ht : s.task? task = some t) (hx : t.openTarget a = some x) :
    s.confirmPut a task shown =
      (s.settleTarget task a (min shown x.quantity) x.quantity (.confirmed (min shown x.quantity))).afterPut a task x.quantity t.place := by
  simp only [State.confirmPut, ht, hx]
  rfl

theorem confirmPut_none (none : (s.task? task).bind (fun t => t.openTarget a) = none) : s.confirmPut a task shown = s := by
  unfold State.confirmPut
  cases ht : s.task? task with
  | none => rfl
  | some t =>
    rw [ht, Option.bind_some] at none
    simp only [none]

theorem stored_afterPut (quantity place : Nat) : (s.afterPut a task quantity place).refresh.stored = (s.endTask task).stored := by
  rw [stored_of_lasting (lasting_refresh _), State.afterPut, stored_of_lasting (lasting_testEnds _), stored_reallocate]
  exact stored_endTask_congr (stored_of_lasting (lasting_removeEntry ..)) task

end

/-- Settles O43. -/
theorem confirmOfAPutStoresTheTyres : Obligations.ConfirmOfAPutStoresTheTyres := by
  intro s w i k pr task quantity rest d hk hp hq hd mode a s0 isIt
  have pressed := confirm_head hk hp hq hd
  rw [confirmHead_put mode] at pressed
  refine ⟨fun t x ht hx => ?stored, fun none => ?nothing⟩
  case stored =>
    intro q placed u
    have confirmed : (s.pressUsed w i).confirmPut a task d.quantity = placed.afterPut a task x.quantity t.place :=
      confirmPut_some (s.pressUsed w i) a task d.quantity ht hx
    refine ⟨?_, stored_afterPut placed a task x.quantity t.place⟩
    rw [pressed, confirmed]
    rfl
  case nothing =>
    rw [pressed]
    exact congrArg (fun t : State => Host.Outcome.next t.close) (confirmPut_none (s.pressUsed w i) a task d.quantity none)

end Sys2Proof.Machine
end

section
/-! CONFIRM of a PICK entry: taken, short, or waiting for outfeed places (R70, R123 to R127). -/

namespace Sys2Proof.Machine

/-! ### The writes of a pick confirm (R125) -/

/-- The slot, the line and the outfeed queue as a pick confirm writes them (R70, R125). -/
def State.takenItems (w : Nat) (p : Pick) (q : Nat) (s : State) : State :=
  ((s.updateSlot p.addr fun x => x.taken q p.quantity).onOrder p.order fun o =>
    o.onLine p.line fun l => { l with picked := l.picked + q, openPicks := l.openPicks - 1 }).onWindow w fun v =>
      { v with outfeed := v.outfeed ++ List.replicate q { order := p.order, line := p.line, lane := s.laneOf p.order } }

/-- A pick is no longer open. -/
def State.endPick (p : Pick) (s : State) : State := { s with picks := s.picks.filter fun x => decide (x.number ≠ p.number) }

/-- The state that the writes, the grant and the entry's removal leave (R125). -/
def State.afterPick (w : Nat) (p : Pick) (q : Nat) (s : State) : State :=
  State.removeEntry p.addr (.pick p.number p.quantity) (State.testGrant ((s.takenItems w p q).endPick p))

/-- The re-allocation and the end test with which a pick confirm ends (R67, R114). -/
def State.endConfirm (p : Pick) (lines : List (Nat × Nat)) (s : State) : State :=
  (s.reallocate { lines := (p.order, p.line) :: lines, places := [], except := none }).testEnds

theorem laneOf_of_orders {s t : State} (h : t.orders = s.orders) (tag : Nat) : t.laneOf tag = s.laneOf tag := by
  rw [State.laneOf, order?_of_orders h, State.laneOf]

/-- A pick confirm leaves every order its lane. -/
theorem laneOf_takePick (s : State) (p : Pick) (q : Nat) : (s.takePick p q).laneOf p.order = s.laneOf p.order := by
  rw [← laneOf_of_orders (updateSlot_orders s p.addr fun x => x.taken q p.quantity).1 p.order]
  show State.laneOf (State.onOrder _ _ _) _ = _
  unfold State.laneOf
  rw [order?_onOrder_eq _ _ (fun o => onLine_tag o _ _)]
  cases (s.updateSlot p.addr fun x => x.taken q p.quantity).order? p.order with
  | none => rfl
  | some o => rw [Option.map_some, if_pos rfl]; rfl

theorem addItems_takePick (s : State) (w : Nat) (p : Pick) (q : Nat) :
    (s.takePick p q).addItems w p q = (s.takenItems w p q).endPick p := by
  rw [State.addItems, laneOf_takePick]
  rfl

theorem confirmPick_eq (s : State) (w : Nat) (p : Pick) (q : Nat) : s.confirmPick w p q =
    State.endConfirm p (if q < p.quantity ∧ (s.afterPick w p q).isFree p.addr = false then (s.afterPick w p q).slotLines p.addr else [])
      (if q < p.quantity then (s.afterPick w p q).shortPick w p q else s.afterPick w p q) := by
  have left : ((s.takePick p q).addItems w p q).testGrant.removeEntry p.addr (.pick p.number p.quantity) = s.afterPick w p q := by
    rw [addItems_takePick, State.afterPick]
  rw [← left]
  rfl

theorem confirmPick_full (s : State) (w : Nat) {p : Pick} {q : Nat} (full : q = p.quantity) :
    s.confirmPick w p q = State.endConfirm p [] (s.afterPick w p q) := by
  have notShort : ¬q < p.quantity := by omega
  rw [confirmPick_eq, if_neg fun h => notShort h.1, if_neg notShort]

section
variable {s : State} {w : Nat} {p : Pick} {q : Nat} (short : q < p.quantity)
include short

theorem confirmPick_freed (free : (s.afterPick w p q).isFree p.addr = true) : s.confirmPick w p q =
    State.endConfirm p [] (((s.afterPick w p q).joinAudit p.addr.carousel p.addr.carrier).notify
      (((s.afterPick w p q).joinAudit p.addr.carousel p.addr.carrier).shortNotice w p q .free 0 0)) := by
  rw [confirmPick_eq, if_neg fun h => absurd free (Bool.eq_false_iff.mp h.2), if_pos short, State.shortPick]
  exact congrArg _ (if_pos free)

/-- The state of a short pick whose slot has been quarantined and whose carrier is listed (R126). -/
def State.afterShort (w : Nat) (p : Pick) (q : Nat) (s : State) : State :=
  ((s.afterPick w p q).quarantine p.addr .shortPick none).joinAudit p.addr.carousel p.addr.carrier

theorem confirmPick_short (stands : (s.afterPick w p q).isFree p.addr = false) : s.confirmPick w p q =
    State.endConfirm p ((s.afterPick w p q).slotLines p.addr) ((s.afterShort w p q).notify
      ((s.afterShort w p q).shortNotice w p q .quarantine ((s.afterPick w p q).slotPicks p.addr).length
        ((s.afterPick w p q).slotTargets p.addr).length)) := by
  rw [confirmPick_eq, if_pos ⟨short, stands⟩, if_pos short, State.shortPick]
  exact congrArg _ (if_neg (Bool.eq_false_iff.mp stands))

end

/-! ### What stands after the writes -/

theorem quiet_afterPick (s : State) (w : Nat) (p : Pick) (q : Nat) : Quiet ((s.takenItems w p q).endPick p) (s.afterPick w p q) :=
  (quiet_testGrant _).trans (quiet_removeEntry ..)

theorem slot?_afterPick {s : State} {w q : Nat} {p : Pick} {x : Slot} (hx : s.slot? p.addr = some x) :
    (s.afterPick w p q).slot? p.addr = some (x.taken q p.quantity) := by
  rw [slot?_of_quiet (quiet_afterPick s w p q)]
  exact slot?_updateSlot hx _

theorem slot?_afterPick_none {s : State} {w q : Nat} {p : Pick} (hx : s.slot? p.addr = none) :
    (s.afterPick w p q).slot? p.addr = none := by
  rw [slot?_of_quiet (quiet_afterPick s w p q)]
  show (s.updateSlot p.addr fun x => x.taken q p.quantity).slot? p.addr = none
  rw [State.updateSlot, hx]
  exact hx

theorem isFree_afterPick {s : State} {w q : Nat} {p : Pick} {x : Slot} (hx : s.slot? p.addr = some x) :
    (s.afterPick w p q).isFree p.addr = decide ((x.taken q p.quantity).state = .free) := by
  rw [State.isFree, slot?_afterPick hx]

theorem taken_eq (x : Slot) (q quantity : Nat) : x.taken q quantity =
    if x.state = .stocked ∧ x.onHand - q = 0 ∧ x.pending = 0 then Slot.freeSlot
    else { x with onHand := x.onHand - q, reserved := x.reserved - quantity } := rfl

theorem taken_onHand (x : Slot) (q quantity : Nat) : (x.taken q quantity).onHand = x.onHand - q := by
  rw [taken_eq]
  split
  · next empty => exact empty.2.1.symm
  · rfl

/-- But for the merge, the reactions to a pick confirm leave what lasts. -/
theorem lasting_afterPick (s : State) (w : Nat) (p : Pick) (q : Nat) (m : Merge) :
    ({ (s.afterPick w p q).lasting with merge := m } : State) = { ((s.takenItems w p q).endPick p).lasting with merge := m } := by
  rw [State.afterPick, lasting_removeEntry]
  exact lasting_testGrant _ m

theorem stored_afterPick (s : State) (w : Nat) (p : Pick) (q : Nat) (m : Merge) :
    ({ (s.afterPick w p q).stored with merge := m } : State) = { (s.takenItems w p q).stored with merge := m } := by
  have same : ∀ t u : State, ({ t.lasting with merge := m } : State) = { u.lasting with merge := m } →
      ({ t.stored with merge := m } : State) = { u.stored with merge := m } := fun t u h =>
    (congrArg (fun v : State => { v with
      carousels := v.carousels.map fun (c : Option Carousel) => c.map Carousel.stored, picks := [], creations := 0, orders := v.orders.map Order.stored }) h :)
  exact (same _ ((s.takenItems w p q).endPick p) (lasting_afterPick s w p q m)).trans rfl

theorem counted_of_stored_merge {s t : State} {m : Merge} (h : ({ s.stored with merge := m } : State) = { t.stored with merge := m }) :
    ({ s.counted with merge := m } : State) = { t.counted with merge := m } :=
  (congrArg (fun v : State => { v with
    orders := v.orders.map Order.unbound, submission := [], admissions := 0, tasks := [],
    lanes := v.lanes.map fun (l : Option Lane) => l.map fun (l : Lane) => { l with state := .free },
    carousels := v.carousels.map fun (c : Option Carousel) => c.map Carousel.counted }) h :)

/-! ### The other reservations of the slot (R126, R127) -/

theorem slotPicks_afterPick (s : State) (w : Nat) (p : Pick) (q : Nat) : ((s.afterPick w p q).slotPicks p.addr).length =
    (s.picks.filter fun y => decide (y.addr = p.addr ∧ y.number ≠ p.number)).length := by
  have claims : (s.afterPick w p q).picks.map Pick.lasting = (s.picks.filter fun y => decide (y.number ≠ p.number)).map Pick.lasting := by
    rw [(quiet_afterPick s w p q).picks]
    show (State.picks _ |>.filter _).map Pick.lasting = _
    rw [show (s.takenItems w p q).picks = s.picks from (updateSlot_orders s p.addr fun x => x.taken q p.quantity).2.1]
  have count : ∀ t : State, (t.slotPicks p.addr).length = ((t.picks.map Pick.lasting).countP fun y => y.addr == p.addr) := fun t => by
    rw [State.slotPicks, bySeq, (sortBy_perm ..).length_eq, List.countP_map, List.countP_eq_length_filter]
    rfl
  rw [count, claims, List.countP_map, List.countP_filter, List.countP_eq_length_filter]
  refine congrArg List.length (List.filter_congr fun y _ => ?_)
  rw [Bool.eq_iff_iff]
  simp [Pick.lasting]

theorem tasks_afterPick (s : State) (w : Nat) (p : Pick) (q : Nat) : (s.afterPick w p q).tasks = s.tasks :=
  (quiet_afterPick s w p q).tasks.trans (State.updateSlot_tasks ..)

theorem slotTargets_length (s : State) (a : SlotAddr) : (s.slotTargets a).length =
    (s.tasks.flatMap fun t => t.targets.filter fun y => decide (y.outcome = .opened ∧ y.addr = a)).length := by
  rw [State.slotTargets, (sortBy_perm ..).length_eq, List.length_flatMap, List.length_flatMap]
  refine congrArg List.sum (List.map_congr_left fun t _ => ?_)
  rw [List.length_map]
  refine congrArg List.length (List.filter_congr fun y _ => ?_)
  rw [Target.isOpen, Bool.decide_and]
  rfl

theorem slotTargets_afterPick (s : State) (w : Nat) (p : Pick) (q : Nat) : ((s.afterPick w p q).slotTargets p.addr).length =
    (s.tasks.flatMap fun t => t.targets.filter fun y => decide (y.outcome = .opened ∧ y.addr = p.addr)).length := by
  rw [slotTargets_length, tasks_afterPick]

/-! ### The SHORT_PICK notice (R127) -/

/-- The place that a line names. -/
def State.placeOf (s : State) (tag i : Nat) : Option Nat := (s.line? tag i).map Line.place

/-- The article code of a line; 0 for none. -/
def State.lineCode (s : State) (tag i : Nat) : Nat :=
  match s.line? tag i with
  | some l => s.codeAt l.place
  | none => 0

theorem placeOf_order (s : State) (tag i : Nat) :
    s.placeOf tag i = ((s.order? tag).map fun o => o.stored.unbound).bind fun o => (o.lines[i]?).map Line.place := by
  rw [State.placeOf, State.line?]
  cases s.order? tag with
  | none => rfl
  | some o =>
    show _ = ((o.lines.map Line.stored)[i]?).map Line.place
    rw [List.getElem?_map, Option.map_map]
    rfl

theorem placeOf_of_orders {s t : State} (h : (t.orders.map Order.stored).map Order.unbound = (s.orders.map Order.stored).map Order.unbound)
    (tag i : Nat) : t.placeOf tag i = s.placeOf tag i := by
  have read : ∀ u : State, (u.order? tag).map (fun o => o.stored.unbound) =
      ((u.orders.map Order.stored).map Order.unbound).find? fun o => o.tag == tag := fun u => by
    rw [List.map_map, List.find?_map]
    rfl
  rw [placeOf_order, placeOf_order, read, read, h]

theorem articles_of_counted {s t : State} (h : t.counted = s.counted) : t.articles = s.articles :=
  (congrArg (fun u : State => u.articles) h :)

theorem placeOf_of_counted {s t : State} (h : t.counted = s.counted) (tag i : Nat) : t.placeOf tag i = s.placeOf tag i :=
  placeOf_of_orders (congrArg State.orders h :) tag i

/-- A change of a line that keeps its place. -/
theorem placeOf_onLine (s : State) (tag i : Nat) {f : Line → Line} (h : ∀ l, (f l).place = l.place) :
    (s.onOrder tag fun o => o.onLine i f).placeOf tag i = s.placeOf tag i := by
  unfold State.placeOf State.line?
  rw [order?_onOrder_eq s tag (fun o => onLine_tag o i f)]
  cases s.order? tag with
  | none => rfl
  | some o =>
    simp only [Option.map_some, if_true]
    show ((modifyAt f i o.lines)[i]?).map Line.place = _
    cases hl : o.lines[i]? with
    | none =>
      rw [modifyAt, hl, hl]
    | some l => rw [modifyAt_getElem?_self hl, Option.map_some, h, Option.map_some]

theorem lineCode_of_placeOf {s t : State} (articles : t.articles = s.articles) {tag i : Nat} (h : t.placeOf tag i = s.placeOf tag i) :
    t.lineCode tag i = s.lineCode tag i := by
  have read : ∀ u : State, u.lineCode tag i = (u.placeOf tag i).elim 0 u.codeAt := fun u => by
    unfold State.lineCode State.placeOf
    cases u.line? tag i <;> rfl
  rw [read, read, h]
  cases s.placeOf tag i with
  | none => rfl
  | some place => exact codeAt_of_articles articles place

theorem placeOf_afterPick (s : State) (w : Nat) (p : Pick) (q : Nat) :
    (s.afterPick w p q).placeOf p.order p.line = s.placeOf p.order p.line := by
  have orders : (s.afterPick w p q).orders = (s.takenItems w p q).orders := (quiet_afterPick s w p q).orders
  have slot := (updateSlot_orders s p.addr fun x => x.taken q p.quantity).1
  rw [placeOf_of_orders (congrArg (fun os : List Order => (os.map Order.stored).map Order.unbound) orders)]
  refine (placeOf_onLine (s.updateSlot p.addr fun x => x.taken q p.quantity) p.order p.line
    (f := fun l => { l with picked := l.picked + q, openPicks := l.openPicks - 1 }) fun _ => rfl).trans ?_
  exact placeOf_of_orders (congrArg (fun os : List Order => (os.map Order.stored).map Order.unbound) slot) p.order p.line

theorem articles_afterPick (s : State) (w : Nat) (p : Pick) (q : Nat) : (s.afterPick w p q).articles = s.articles :=
  (congrArg (fun o => o.2.1) (quiet_afterPick s w p q).outer :).trans (State.updateSlot_articles ..)

/-- What the SHORT_PICK notice of a pick carries (R127). -/
def State.shortPickNotice (s : State) (w : Nat) (p : Pick) (q : Nat) (outcome : ShortOutcome) (onHand siblings targets : Nat) : Notice :=
  .shortPick
    { window := w, addr := p.addr, order := p.order, line := p.line, code := s.lineCode p.order p.line, quantity := p.quantity,
      confirmed := q, outcome := outcome, onHand := onHand, siblings := siblings, targets := targets }

theorem shortNotice_eq {s t : State} {p : Pick} {y : Slot} (hy : t.slot? p.addr = some y) (articles : t.articles = s.articles)
    (place : t.placeOf p.order p.line = s.placeOf p.order p.line) (w q : Nat) (outcome : ShortOutcome) (siblings targets : Nat) :
    t.shortNotice w p q outcome siblings targets = s.shortPickNotice w p q outcome y.onHand siblings targets := by
  rw [State.shortPickNotice, ← lineCode_of_placeOf articles place, State.shortNotice, hy]
  rfl

/-- The carrier of a slot joins its carousel's audit list (R83). -/
def State.joinsAudit (a : SlotAddr) (s : State) : State :=
  s.onCarousel a.carousel fun r => { r with auditList := if a.carrier ∈ r.auditList then r.auditList else r.auditList ++ [a.carrier] }

theorem joinAudit_eq_joinsAudit (s : State) (a : SlotAddr) : s.joinAudit a.carousel a.carrier = s.joinsAudit a := by
  rw [State.joinAudit, State.joinsAudit]
  refine congrArg (s.onCarousel a.carousel) (funext fun r => ?_)
  by_cases h : a.carrier ∈ r.auditList <;> simp [h]

theorem quiet_joinsAudit (s : State) (a : SlotAddr) : Quiet s (s.joinsAudit a) := joinAudit_eq_joinsAudit s a ▸ quiet_joinAudit ..

section
variable {s : State} {w : Nat} {p : Pick} {q : Nat} {x : Slot} (hx : s.slot? p.addr = some x) (short : q < p.quantity)
include hx short

/-- A short pick that leaves its slot FREE (R126). -/
theorem confirmPick_leavesFree (free : (x.taken q p.quantity).state = .free) : s.confirmPick w p q =
    State.endConfirm p [] (((s.afterPick w p q).joinsAudit p.addr).notify
      (s.shortPickNotice w p q .free (x.onHand - q) 0 0)) := by
  have slot := (slot?_of_quiet (quiet_joinsAudit (s.afterPick w p q) p.addr) p.addr).trans (slot?_afterPick hx)
  have articles : ((s.afterPick w p q).joinsAudit p.addr).articles = s.articles :=
    (congrArg (fun o => o.2.1) (quiet_joinsAudit (s.afterPick w p q) p.addr).outer :).trans (articles_afterPick ..)
  have place := (placeOf_of_orders (congrArg (fun os : List Order => (os.map Order.stored).map Order.unbound)
    (quiet_joinsAudit (s.afterPick w p q) p.addr).orders) p.order p.line).trans (placeOf_afterPick s w p q)
  rw [confirmPick_freed short ((isFree_afterPick hx).trans (decide_eq_true free)), joinAudit_eq_joinsAudit,
    shortNotice_eq slot articles place, taken_onHand]

/-- A short pick whose slot enters QUARANTINE (R126). -/
theorem confirmPick_quarantines (stands : (x.taken q p.quantity).state ≠ .free) : s.confirmPick w p q =
    State.endConfirm p ((s.afterPick w p q).slotLines p.addr)
      ((((s.afterPick w p q).quarantine p.addr .shortPick none).joinsAudit p.addr).notify
        (s.shortPickNotice w p q .quarantine (x.onHand - q)
          (s.picks.filter fun y => decide (y.addr = p.addr ∧ y.number ≠ p.number)).length
          (s.tasks.flatMap fun t => t.targets.filter fun y => decide (y.outcome = .opened ∧ y.addr = p.addr)).length)) := by
  have entered := counted_quarantine (slot?_afterPick (w := w) (q := q) hx) .shortPick none fun free => absurd free stands
  have quiet := quiet_joinsAudit ((s.afterPick w p q).quarantine p.addr .shortPick none) p.addr
  have slot := (slot?_of_quiet quiet p.addr).trans (slot?_quarantine (slot?_afterPick (w := w) (q := q) hx) .shortPick none)
  have articles : (((s.afterPick w p q).quarantine p.addr .shortPick none).joinsAudit p.addr).articles = s.articles :=
    (congrArg (fun o => o.2.1) quiet.outer :).trans ((articles_of_counted entered).trans (articles_afterPick ..))
  have place := (placeOf_of_orders (congrArg (fun os : List Order => (os.map Order.stored).map Order.unbound) quiet.orders)
    p.order p.line).trans ((placeOf_of_counted entered p.order p.line).trans (placeOf_afterPick s w p q))
  rw [confirmPick_short short ((isFree_afterPick hx).trans (decide_eq_false stands)), State.afterShort, joinAudit_eq_joinsAudit,
    shortNotice_eq slot articles place, slotPicks_afterPick, slotTargets_afterPick]
  show State.endConfirm p _ (State.notify (State.shortPickNotice s w p q .quarantine (x.taken q p.quantity).onHand _ _) _) = _
  rw [taken_onHand]

end

end Sys2Proof.Machine
end

section
/-! What a CONFIRM of a PICK entry comes to (R123 to R127). -/

namespace Sys2Proof.Machine

/-! ### The entry and its display record -/

theorem confirmHead_pick {s : State} {d : Display} {number : Nat} {p : Pick} (mode : d.mode = .pick) (hp : s.pick? number = some p)
    (w i : Nat) (a : SlotAddr) (quantity : Nat) : s.confirmHead w i a d (.pick number quantity) =
      if (s.window w).freePlaces < min d.quantity p.quantity then s.holdConfirm w i else s.confirmPick w p (min d.quantity p.quantity) := by
  unfold State.confirmHead
  simp only [mode, hp]

/-- A record that has to wait for outfeed places turns to WAIT (R123). -/
theorem holdConfirm_eq {s : State} {w i : Nat} {d : Display} (hd : (s.window w).displays.getD i Display.blank = d) (mode : d.mode = .pick) :
    s.holdConfirm w i = s.onWindow w fun v => { v with displays := v.displays.set i { d with mode := .wait } } := by
  have found : (s.window w).displays[i]? = some d := by
    rw [List.getD_eq_getElem?_getD] at hd
    cases h : (s.window w).displays[i]? with
    | none =>
      rw [h] at hd
      subst hd
      cases mode
    | some d' =>
      rw [h] at hd
      exact congrArg some hd
  refine onWindow_congr ?_
  simp only [modifyAt, found]

/-! ### What a pick confirm leaves -/

theorem stored_endConfirm (s : State) (p : Pick) (lines : List (Nat × Nat)) : (s.endConfirm p lines).refresh.stored = s.stored := by
  rw [stored_of_lasting (lasting_refresh _), State.endConfirm, stored_of_lasting (lasting_testEnds _), stored_reallocate]

theorem stored_listed (s : State) (a : SlotAddr) (n : Notice) : ((s.joinsAudit a).notify n).stored = s.stored := by
  rw [stored_of_lasting (lasting_notify ..), ← joinAudit_eq_joinsAudit, stored_of_lasting (lasting_joinAudit ..)]

/-- No tyre moves at a quarantine entry of a slot that is not FREE. -/
theorem counted_quarantine_stands {s : State} {a : SlotAddr} (stands : s.isFree a = false) (r : Reason) (load : Option Nat) :
    (s.quarantine a r load).counted = s.counted := by
  cases hx : s.slot? a with
  | some x =>
    refine counted_quarantine hx r load fun free => ?_
    rw [State.isFree, hx] at stands
    exact absurd free (of_decide_eq_false stands)
  | none =>
    have missing : (s.clearReservations a).slot? a = none := by
      have e := idleSlot_clearReservations s a a
      rw [State.idleSlot, State.idleSlot, hx] at e
      exact Option.map_eq_none_iff.mp e
    rw [State.quarantine, State.updateSlot, missing]
    exact counted_clearReservations s a

section
variable {s : State} {w : Nat} {p : Pick} {q : Nat} (short : q < p.quantity)
include short

/-- Of the records counted, a short pick writes what the pick takes, and the merge what it grants (R125, R126). -/
theorem counted_confirmPick (m : Merge) : ({ (s.confirmPick w p q).refresh.counted with merge := m } : State) =
    { (s.takenItems w p q).counted with merge := m } := by
  have left := counted_of_stored_merge (stored_afterPick s w p q m)
  have counted : (s.confirmPick w p q).refresh.counted = (s.afterPick w p q).counted := by
    cases h : (s.afterPick w p q).isFree p.addr with
    | true =>
      rw [confirmPick_freed short h, joinAudit_eq_joinsAudit]
      exact counted_of_stored ((stored_endConfirm ..).trans (stored_listed ..))
    | false =>
      rw [confirmPick_short short h, State.afterShort, joinAudit_eq_joinsAudit]
      exact (counted_of_stored ((stored_endConfirm ..).trans (stored_listed ..))).trans (counted_quarantine_stands h ..)
  rw [counted]
  exact left

/-- The slot of a short pick is FREE or in QUARANTINE as SHORT_PICK, with its on-hand less what was taken (R126). -/
theorem slot?_confirmPick {x : Slot} (hx : s.slot? p.addr = some x) : ∃ y, (s.confirmPick w p q).refresh.slot? p.addr = some y ∧
    y.onHand = x.onHand - q ∧ (y.state = .free ∨ (y.state = .quarantine ∧ y.reason = some .shortPick ∧ y.measured = none)) := by
  by_cases free : (x.taken q p.quantity).state = .free
  · rw [confirmPick_leavesFree hx short free]
    obtain ⟨y, hy, same⟩ := slot?_some_of_stored ((stored_endConfirm _ p []).trans (stored_listed (s.afterPick w p q) p.addr _))
      (slot?_afterPick hx)
    exact ⟨y, hy, (congrArg (fun z : Slot => z.onHand) same :).trans (taken_onHand ..), .inl ((congrArg (fun z : Slot => z.state) same :).trans free)⟩
  · rw [confirmPick_quarantines hx short free]
    obtain ⟨y, hy, same⟩ := slot?_some_of_stored ((stored_endConfirm _ p _).trans
      (stored_listed ((s.afterPick w p q).quarantine p.addr .shortPick none) p.addr _))
      (slot?_quarantine (slot?_afterPick hx) .shortPick none)
    exact ⟨y, hy, (congrArg (fun z : Slot => z.onHand) same :).trans (taken_onHand x q p.quantity), .inr
      ⟨(congrArg (fun z : Slot => z.state) same :), (congrArg (fun z : Slot => z.reason) same :), (congrArg (fun z : Slot => z.measured) same :)⟩⟩

end

theorem taken_empties {x : Slot} {q : Nat} (stocked : x.state = .stocked) (none : x.onHand - q = 0) (pending : x.pending = 0) (quantity : Nat) :
    x.taken q quantity = Slot.freeSlot := by
  rw [taken_eq, if_pos ⟨stocked, none, pending⟩]

theorem taken_stays {x : Slot} {q : Nat} (stays : x.onHand - q ≠ 0 ∨ x.pending ≠ 0) (quantity : Nat) :
    x.taken q quantity = { x with onHand := x.onHand - q, reserved := x.reserved - quantity } := by
  rw [taken_eq, if_neg]
  rintro ⟨-, none, pending⟩
  exact stays.elim (fun h => h none) fun h => h pending

/-- Settles O44. -/
theorem confirmOfAPickTakesTheTyres : Obligations.ConfirmOfAPickTakesTheTyres := by
  intro s w i k pr number quantity rest d p hk hp hq hd mode held q s0 took left ends listed told
  have pressed := confirm_head hk hp hq hd
  rw [confirmHead_pick (s := s.pressUsed w i) mode held] at pressed
  have window := window_pressUsed (i := i) hk
  have places : ((s.pressUsed w i).window w).freePlaces = (s.window w).freePlaces := by rw [window]; rfl
  have took_eq : took = (s.pressUsed w i).takenItems w p q := rfl
  have left_eq : left = (s.pressUsed w i).afterPick w p q := rfl
  have ends_eq : ∀ lines t, ends lines t = (State.endConfirm p lines t).refresh := fun _ _ => rfl
  have listed_eq : ∀ t, listed t = State.joinsAudit p.addr t := fun _ => rfl
  have told_eq : ∀ outcome onHand siblings targets t, told outcome onHand siblings targets t =
    State.notify ((s.pressUsed w i).shortPickNotice w p q outcome onHand siblings targets) t := fun _ _ _ _ _ => rfl
  clear_value told listed ends
  clear_value left
  subst left_eq
  clear_value took
  subst took_eq
  simp only [ends_eq, listed_eq, told_eq]
  have taken : q ≤ (s.window w).freePlaces → exec (.confirm w i) s = .next ((s.pressUsed w i).confirmPick w p q).close := fun room => by
    rw [pressed, if_neg (Nat.not_lt.mpr (places.trans_ge room))]
  refine ⟨fun room full => ?full, fun x room short hx stocked => ⟨fun none pending => ?frees, fun stays => ?quarantines⟩,
    fun room short => ?short, fun few => ?waits⟩
  case full =>
    refine ⟨?_, ?_⟩
    · rw [taken room, confirmPick_full _ w full]
      rfl
    · rw [stored_endConfirm]
      exact stored_afterPick (s.pressUsed w i) w p q s.merge
  case frees =>
    have slot := slot?_afterPick (s := s.pressUsed w i) (w := w) (q := q) hx
    have empties := taken_empties stocked none pending p.quantity
    refine ⟨slot.trans (congrArg some empties), ?_⟩
    rw [taken room, confirmPick_leavesFree (s := s.pressUsed w i) hx short (by rw [empties]; rfl), none]
    rfl
  case quarantines =>
    have slot := slot?_afterPick (s := s.pressUsed w i) (w := w) (q := q) hx
    have stands := taken_stays stays p.quantity
    refine ⟨slot.trans (congrArg some stands), ?_⟩
    rw [taken room, confirmPick_quarantines (s := s.pressUsed w i) hx short (by rw [stands]; simp [stocked])]
    rfl
  case short =>
    exact ⟨((s.pressUsed w i).confirmPick w p q).refresh, taken room, counted_confirmPick short s.merge,
      fun x hx => slot?_confirmPick (s := s.pressUsed w i) short hx⟩
  case waits =>
    have displays : ((s.pressUsed w i).window w).displays.getD i Display.blank = d := by rw [window]; exact hd
    rw [pressed, if_pos (places.trans_lt few), holdConfirm_eq displays mode]
    rfl

end Sys2Proof.Machine
end
